-- ==== Sys2Proof/Word.lean ====
section
/-! DEFINITION. The numbers of the YD-48 that name things (00, "Numbering"): bytes of a telegram, station
addresses, fleet slots, lanes, bays, chargers and feeders. Quantities with a range of their own (energies,
powers, minutes) are plain `Nat`; the rules that write them keep their ranges. -/

namespace Sys2Proof

/-- One byte of a telegram or of a table row (R188, R192). -/
abbrev Byte := BitVec 8

/-- A station address, 0..127 (R147). -/
abbrev Addr := Fin 128

/-- A fleet slot, 0..255 (R1). -/
abbrev Slot := Fin 256

/-- A lane number, 0..31 (R21). -/
abbrev LaneNo := Fin 32

/-- A bay number, 0..5 (R63). -/
abbrev BayNo := Fin 6

/-- A charger number, 0..63 (R82). -/
abbrev ChargerNo := Fin 64

/-- A feeder number, 0..3 (R84). -/
abbrev FeederNo := Fin 4

/-- Every number below `n`, in ascending order: the order in which the blocks scan their records. -/
def upTo (n : Nat) [NeZero n] : List (Fin n) := (List.range n).map (Fin.ofNat n)

end Sys2Proof
end

