-- ==== Sys2Proof/Config.lean ====
section
/-! DEFINITION. What an implementation fixes: the identification values that R178 names and does not give
(free values: no body, so no proof can lean on one), and the capacities of the scope file. -/

namespace Sys2Proof.Config

/-- FREE VALUE, DESIGN CHOICE, safe: the vendor code of IDENT (R178 gives no value; log 3). -/
opaque vendorCode : BitVec 16

/-- FREE VALUE, DESIGN CHOICE, safe: the part code of IDENT (R178 gives no value; log 3). -/
opaque partCode : BitVec 16

/-- FREE VALUE, DESIGN CHOICE, safe: the revision number of IDENT (R178 gives no value; log 3). -/
opaque revision : BitVec 8

/-- Berth directive FIFO entries (R158). -/
def originCapacity : Nat := 16

/-- Berth forward FIFO entries (R159). -/
def berthForwardCapacity : Nat := 16

/-- Request buffer entries (R163). -/
def requestCapacity : Nat := 4

/-- Notice FIFO entries (R166). -/
def noticeCapacity : Nat := 16

/-- Depot forward FIFO entries (R166). -/
def depotForwardCapacity : Nat := 32

/-- Live tickets of one queue kind (R60). -/
def ticketCapacity : Nat := 64

/-- Rows of one plan bank (R109). -/
def bankRows : Nat := 200

/-- The longest payload of a telegram (R188). -/
def maxPayload : Nat := 48

/-- The key of an unbound vehicle (R41). -/
def unboundKey : Nat := 1440

/-- Minutes of the service day (R180). -/
def dayMinutes : Nat := 1440

/-- DESIGN CHOICE, unsafe: the address strapped on the part of `State.reset`; the straps are pins and the
spec gives them no value of their own. 1 is the own address of the worked example of chapter 11 (log 1). -/
def strappedAddress : Addr := 1

end Sys2Proof.Config
end

