-- ==== Sys2Proof/Syntax.lean ====
section
/-! DEFINITION. The commands of the YD-48: one constructor per row of spec/opcode_table.json. Each row is one
whole step of the part (95). Events carry as operands what arrives from outside. A request's command carries
none: it takes the oldest request of the request buffer, as R163 says, and that request holds the operands
(log 7). -/

namespace Sys2Proof

/-- The directives a field station can be sent (00, "Directive"; codes 17 to 20 of R188). -/
inductive DirectiveKind where
  | sign | bayStart | setpoint | call
  deriving DecidableEq, Repr

/-- A block that takes the minute advance (R180). The allocator's four rounds are four events of their own
(R92), so each feeder's round stands alone here. -/
inductive AdvanceTaker where
  | yardMap | placement | service | departures | round (feeder : FeederNo)
  deriving DecidableEq, Repr

/-- The commands of the part, in the order of spec/opcode_table.json. -/
inductive Instr where
  -- supply and reset
  | powerOn (straps : Addr)
  | softReset
  -- turns of the berth line
  | poll
  | idleTurn
  | replyTimeout
  | directiveTurn
  | callIn (answering : List Addr)
  | callInTimeout
  | berthFrameRejected (frame : List Byte)
  -- reports, each from its sending station
  | nothing (src : Addr)
  | gateIn (src : Addr) (tag : Nat)
  | gateOut (src : Addr) (tag : Nat)
  | laneEntry (src : Addr) (tag : Nat)
  | laneExit (src : Addr) (tag : Nat)
  | bayArrive (src : Addr) (tag : Nat)
  | bayDone (src : Addr)
  | bayFault (src : Addr)
  | chargerReport (src : Addr) (tag soc power : Nat) (marks : Byte)
  | meterReport (src : Addr) (draw : Nat)
  -- receiving on the depot link
  | linkFrameCheckFail (frame : List Byte)
  /-- `dest` is `none` for the 255 that only a CALL_IN kind may carry (R188) -/
  | linkTelegramDiscarded (src : Addr) (dest : Option Addr) (kind : Byte) (payload : List Byte)
  | serverDirective (src dest : Addr) (kind : DirectiveKind) (payload : List Byte)
  | requestReceived (src : Addr) (kind : Byte) (payload : List Byte)
  -- requests, taken from the request buffer
  | requestFormatRefused
  | select
  | fetch
  | clear
  | ident
  | putStation
  | putLane
  | putCharger
  | putFeeder
  | putBay
  | putParams
  | putFleet
  | putActive
  | putStandby
  | putReadOnly
  | swapNow
  | swapAtRollover
  | cancelSwap
  | cancelRow
  | hold
  | unhold
  | yardSet
  | yardSetOut
  | openLane
  | closeLane
  | openBay
  | closeBay
  | clearBay
  | clearFeeder
  | clockSet
  | store
  | load
  | reset
  -- sending on the depot link
  | transmitAnswer
  | transmitNotice
  | transmitForward
  -- time
  | minuteAdvance (order : List AdvanceTaker)
  | supervisionTimeout
  | arrivalTimeout (lane : LaneNo) (slot : Slot)
  | noShowTimeout (bay : BayNo)
  | retryTimeout (bay : BayNo)
  | overstayTimeout (bay : BayNo)
  | storeComplete (verified : Bool)
  | loadComplete
  deriving DecidableEq, Repr

end Sys2Proof
end

