-- ==== Sys2Proof/WellFormed.lean ====
section
/-! DEFINITION. Which commands a line or a timer can deliver at all: a field of R189 fits its width, a telegram
fits the payload of R188, and a minute advance reaches each block once (R180). -/

namespace Sys2Proof

/-- The eight events of one minute advance, one for each block and one for each feeder's round (R92, R180). -/
def AdvanceTaker.all : List AdvanceTaker :=
  [.yardMap, .departures, .placement, .service, .round 0, .round 1, .round 2, .round 3]

/-- A tag is sent in three bytes (R189). -/
def tagFits (tag : Nat) : Bool := tag < 2 ^ 24

/-- A two-byte field (R189). -/
def wordFits (w : Nat) : Bool := w < 2 ^ 16

/-- A payload has at most 48 bytes (R188). -/
def payloadFits (payload : List Byte) : Bool := payload.length ≤ Config.maxPayload

/-- A telegram has ended when `L + 6` bytes have arrived, so no received frame is longer (R188). -/
def frameFits (frame : List Byte) : Bool :=
  match frame with
  | _ :: _ :: _ :: len :: _ => frame.length ≤ len.toNat + 6
  | _ => true

/-- A minute advance reaches every block once. -/
def orderFits (order : List AdvanceTaker) : Bool :=
  order.length = AdvanceTaker.all.length && AdvanceTaker.all.all order.contains

/-- The commands that the outside can give. The others leave no trace the spec speaks of (log 33). -/
def Instr.wellFormed : Instr → Bool
  | .gateIn _ tag | .gateOut _ tag | .laneEntry _ tag | .laneExit _ tag | .bayArrive _ tag => tagFits tag
  | .chargerReport _ tag soc power _ => tagFits tag && wordFits soc && wordFits power
  | .meterReport _ draw => wordFits draw
  | .berthFrameRejected frame | .linkFrameCheckFail frame => frameFits frame
  | .linkTelegramDiscarded _ _ _ payload => payloadFits payload
  | .serverDirective _ _ _ payload => payloadFits payload
  | .requestReceived _ _ payload => payloadFits payload
  | .callIn answering => answering.Nodup
  | .minuteAdvance order => orderFits order
  | .powerOn _ | .softReset | .poll | .idleTurn | .replyTimeout | .directiveTurn | .callInTimeout => true
  | .nothing _ | .bayDone _ | .bayFault _ => true
  | .requestFormatRefused | .select | .fetch | .clear | .ident => true
  | .putStation | .putLane | .putCharger | .putFeeder | .putBay | .putParams => true
  | .putFleet | .putActive | .putStandby | .putReadOnly => true
  | .swapNow | .swapAtRollover | .cancelSwap | .cancelRow | .hold | .unhold | .yardSet | .yardSetOut => true
  | .openLane | .closeLane | .openBay | .closeBay | .clearBay | .clearFeeder | .clockSet => true
  | .store | .load | .reset | .transmitAnswer | .transmitNotice | .transmitForward => true
  | .supervisionTimeout | .arrivalTimeout _ _ | .noShowTimeout _ | .retryTimeout _ | .overstayTimeout _ => true
  | .storeComplete _ | .loadComplete => true

end Sys2Proof
end

