-- ==== Sys2Proof/Machine/State.lean ====
section
/-! DEFINITION. The state of the YD-48: every record, list, FIFO, mark and register that spec/ names, grouped by
the blocks of the scope file's table. A record that has a static part (the working configuration, R184) keeps it
as `cfg`. Plain data throughout. INVENTORY.md lists every field with its rule and its reset value. -/

namespace Sys2Proof.Machine

/-! ## Stops -/

/-- Faults: nothing in spec/ stops the part, so there is none. -/
inductive Fault where
  deriving DecidableEq, Repr

/-- Refusals. -/
inductive Refusal where
  /-- Raised by a command whose meaning is not written yet; safe, since the machine stops. No command of this
  model is refused. -/
  | notModelled (mnemonic : String)
  deriving DecidableEq, Repr

/-! ## Fleet Store (R1 to R6) -/

/-- Propulsion of a vehicle (R2). -/
inductive Propulsion where
  | diesel | electric
  deriving DecidableEq, Repr

/-- Length class of a vehicle (R2). -/
inductive LengthClass where
  | standard | articulated
  deriving DecidableEq, Repr

/-- The two services (R59). -/
inductive QueueKind where
  | fuel | wash
  deriving DecidableEq, Repr

/-- Status of a lane list entry (R22). -/
inductive Standing where
  | present | expected
  deriving DecidableEq, Repr

/-- Vehicle states (R6). -/
inductive VehicleState where
  | out | inbound | service | toBerth | parked | called | departing | moving | lost
  deriving DecidableEq, Repr

/-- The location record (R5). -/
inductive Location where
  | none
  | gate
  | queue (kind : QueueKind)
  | bay (bay : BayNo)
  | lane (lane : LaneNo) (standing : Standing) (shunt : Option LaneNo)
  | enRoute (target : Option LaneNo)
  deriving DecidableEq, Repr

/-- One fleet record (R2, R4). The default is the empty slot of R20. -/
structure Vehicle where
  /-- 0 marks an empty slot (R1). -/
  tag : Nat := 0
  propulsion : Propulsion := .diesel
  length : LengthClass := .standard
  battery : Option Nat := .none
  standby : Option Nat := .none
  washProgramme : Nat := 0
  washCounter : Nat := 0
  state : VehicleState := .out
  location : Location := .none
  held : Bool := false
  boundRow : Option Nat := .none
  lastSoc : Option Nat := .none
  misorder : Bool := false
  shift : Bool := false
  arrival : Nat := 0
  deriving DecidableEq, Repr

/-! ## Yard Map (R21, R22) -/

/-- Kind of a lane (R21). -/
inductive LaneKind where
  | through | deadEnd
  deriving DecidableEq, Repr

/-- Role of a lane (R21). -/
inductive LaneRole where
  | park | shunt
  deriving DecidableEq, Repr

/-- Set state of a lane (R22). -/
inductive SetState where
  | opened | closed
  deriving DecidableEq, Repr

/-- Lane state, derived by R35. -/
inductive LaneState where
  | opened | closed | degraded
  deriving DecidableEq, Repr

/-- Static part of a lane (R21). The default is the factory default. -/
structure LaneCfg where
  kind : LaneKind := .through
  role : LaneRole := .park
  capacity : Nat := 0
  reader : Addr := 0
  mouth : Option Addr := none
  deriving DecidableEq, Repr

/-- One entry of a lane list (R22). `timer` is the arrival timeout, in minutes, that a running arrival timer was
started with, and `none` for a stopped timer (R26; log 6). -/
structure Entry where
  slot : Slot
  standing : Standing
  timer : Option Nat := none
  deriving DecidableEq, Repr

/-- One lane record (R22); `entries` is the lane list, mouth first. -/
structure Lane where
  cfg : LaneCfg := {}
  setState : SetState := .closed
  front : Nat := 0
  entries : List Entry := []
  deriving DecidableEq, Repr

/-! ## Placement Engine (R39, R52) -/

/-- Origin of a placement (R39; SHUNT in notices, R50). -/
inductive Origin where
  | gate | serviceExit | shunt
  deriving DecidableEq, Repr

/-- One entry of the placement wait list (R52). -/
structure WaitEntry where
  slot : Slot
  origin : Origin
  join : Nat
  deriving DecidableEq, Repr

/-! ## Service Turn Controller (R59 to R64) -/

/-- Ticket states (R59). -/
inductive TicketState where
  | waiting | calledToBay | inBay
  deriving DecidableEq, Repr

/-- A ticket (R59). -/
structure Ticket where
  slot : Slot
  kind : QueueKind
  join : Nat
  noShows : Nat := 0
  state : TicketState := .waiting
  deriving DecidableEq, Repr

/-- Bay states (R64). -/
inductive BayState where
  | free | calling | busy | faultWait | out | closed
  deriving DecidableEq, Repr

/-- Static part of a bay (R63). -/
structure BayCfg where
  kind : QueueKind := .wash
  unit : Option Addr := none
  display : Option Addr := none
  deriving DecidableEq, Repr

/-- One bay (R64). Each timer holds the timeout it was started with, `none` when stopped (log 6). -/
structure Bay where
  cfg : BayCfg := {}
  state : BayState := .free
  ticket : Option Ticket := none
  callMinute : Nat := 0
  faultCount : Nat := 0
  overstay : Bool := false
  noShowTimer : Option Nat := none
  retryTimer : Option Nat := none
  overstayTimer : Option Nat := none
  deriving DecidableEq, Repr

/-- The Service Turn Controller's state. The queues hold the WAITING tickets, front first (R60). -/
structure Stc where
  fuelQueue : List Ticket := []
  washQueue : List Ticket := []
  bays : Vector Bay 6 := Vector.replicate 6 {}
  deriving DecidableEq, Repr

/-! ## Charge Allocator (R82 to R85) -/

/-- Charger states (R83). -/
inductive ChargerState where
  | free | connected | charging | waiting | full | fault
  deriving DecidableEq, Repr

/-- Static part of a charger (R82). -/
structure ChargerCfg where
  station : Option Addr := none
  lane : LaneNo := 0
  position : Nat := 0
  feeder : FeederNo := 0
  pMax : Nat := 10
  pMin : Nat := 10
  deriving DecidableEq, Repr

/-- One charger (R83, R108). -/
structure Charger where
  cfg : ChargerCfg := {}
  state : ChargerState := .free
  connected : Option Slot := none
  grant : Nat := 0
  actual : Nat := 0
  turnAge : Nat := 0
  hold : Nat := 0
  resend : Bool := true
  deriving DecidableEq, Repr

/-- Feeder states (R85). -/
inductive FeederState where
  | normal | shed | tripped
  deriving DecidableEq, Repr

/-- Static part of a feeder (R84). -/
structure FeederCfg where
  rated : Nat := 0
  limit : Nat := 600
  meter : Option Addr := none
  fallback : Nat := 0
  deriving DecidableEq, Repr

/-- One feeder (R85, R108). -/
structure Feeder where
  cfg : FeederCfg := {}
  state : FeederState := .normal
  accumulator : Nat := 0
  baseLoad : Nat := 0
  reading : Option Nat := none
  budget : Nat := 0
  deriving DecidableEq, Repr

/-- The Charge Allocator's state. -/
structure Ca where
  chargers : Vector Charger 64 := Vector.replicate 64 {}
  feeders : Vector Feeder 4 := Vector.replicate 4 {}
  deriving DecidableEq, Repr

/-! ## Departure Sequencer (R109 to R115, R138) -/

/-- Kind requirement of a plan row (R110). -/
inductive KindReq where
  | any | diesel | electric
  deriving DecidableEq, Repr

/-- Length requirement of a plan row (R110). -/
inductive LengthReq where
  | any | standard | articulated
  deriving DecidableEq, Repr

/-- Row states (R111). -/
inductive RowState where
  | planned | bound | short | called | gone | missed | cancelled
  deriving DecidableEq, Repr

/-- One plan row in use (R110). `carried` is the carried mark of R128. -/
structure PlanRow where
  block : Nat
  key : Nat
  kindReq : KindReq
  lengthReq : LengthReq
  energy : Nat
  bound : Option Slot
  state : RowState
  callMinute : Option Nat := none
  originLane : Option LaneNo := none
  blocked : Bool := false
  lowEnergy : Bool := false
  carried : Bool := false
  deriving DecidableEq, Repr

/-- The swap register (R115). -/
inductive SwapRegister where
  | none | armed | pending
  deriving DecidableEq, Repr

/-- A lane's shift record (R138). -/
inductive ShiftRecord where
  | idle
  | shifting (blocker : Slot)
  | noRoom (blocker : Slot)
  deriving DecidableEq, Repr

/-- The Departure Sequencer's state. A bank is the list of its rows in use; its length is the row count n (R109).
`stepDue` is the MODEL's own field: the lanes to which the event in progress owes a shift step (R140; log 13). It is
empty between commands. -/
structure Ds where
  active : List PlanRow := []
  standby : List PlanRow := []
  swap : SwapRegister := .none
  shifts : Vector ShiftRecord 32 := Vector.replicate 32 .idle
  stepDue : List LaneNo := []
  deriving DecidableEq, Repr

/-! ## The two lines (R188) -/

/-- One bit as it stands on a line: a start bit, a data bit or a stop bit (R188). The levels of start and stop bits are
electrical and have no part here (00, scope). -/
inductive LineBit where
  | start
  | data (bit : Bool)
  | stop
  deriving DecidableEq, Repr

/-! ## Berth Line Controller and Station Classifier (R147 to R160) -/

/-- Station kinds (R147). -/
inductive StationKind where
  | gateReader | laneReader | bayUnit | charger | meter | display | server | maint | unused
  deriving DecidableEq, Repr

/-- Display roles (R147). -/
inductive DisplayRole where
  | gate | serviceExit | laneMouth
  deriving DecidableEq, Repr

/-- What is done with an accepted report (R157). -/
inductive Action where
  | consume | copy | pass
  deriving DecidableEq, Repr

/-- Static part of a station table entry (R147). For a DISPLAY the index is the code of its display role. -/
structure StationCfg where
  kind : StationKind := .unused
  index : Nat := 0
  level : Nat := 3
  action : Action := .consume
  polled : Bool := false
  urgent : Bool := false
  deriving DecidableEq, Repr

/-- One station table entry (R149). -/
structure Station where
  cfg : StationCfg := {}
  misses : Nat := 0
  silent : Bool := false
  deriving DecidableEq, Repr

/-- A directive waiting in a FIFO: destination, kind and payload (08, "The directive FIFOs"). -/
structure Directive where
  dest : Addr
  kind : DirectiveKind
  payload : List Byte
  deriving DecidableEq, Repr

/-- Which FIFO the directive turn prefers (R151). -/
inductive TurnPointer where
  | origin | forward
  deriving DecidableEq, Repr

/-- The BLC's place in its sequence of turns (R150, R153, R155 imply it; log 8). -/
inductive Turn where
  /-- a poll turn is next -/
  | poll
  /-- a poll transaction with the station is in progress -/
  | polling (station : Addr)
  /-- a directive turn is next -/
  | directive
  /-- a call-in turn is next -/
  | callIn
  /-- a call-in slot is open; the arbitration left this winner, or nobody answered (log 9) -/
  | slot (winner : Option Addr)
  deriving DecidableEq, Repr

/-- State of the berth line side. `out` is the MODEL's own field, the bits last put on the berth line (log 26);
`abandoned` are the stations whose transaction or slot a soft reset cut off and whose frame may still come (R160; log 10). -/
structure Blc where
  stations : Vector Station 128 := Vector.replicate 128 {}
  originFifo : List Directive := []
  forwardFifo : List Directive := []
  /-- the address last polled in this cycle; `none` is "before the lowest address" (R152, R160) -/
  place : Option Addr := none
  cycleCount : Nat := 0
  transactions : Nat := 0
  pointer : TurnPointer := .origin
  turn : Turn := .poll
  abandoned : List Addr := []
  out : Option (List LineBit) := none
  deriving DecidableEq, Repr

/-! ## Depot Link Port, Table Access Unit, Event Register (R162 to R179) -/

/-- The tables, in the order of R167. -/
inductive Table where
  | station | lane | charger | feeder | bay | params | fleet | active | standby
  | queueFuel | queueWash | waitList | events
  deriving DecidableEq, Repr

/-- The outcomes, in the order of R164. -/
inductive Outcome where
  | ok | clamped | busy | pending | range | class | conflict | format
  deriving DecidableEq, Repr

/-- Deferred fault codes (R177). -/
inductive FaultCode where
  | storeVerify | loadInvalid | swapInvalid
  deriving DecidableEq, Repr

/-- A request in the request buffer (R163): source, kind byte and payload. -/
structure Request where
  src : Addr
  kind : Byte
  payload : List Byte
  deriving DecidableEq, Repr

/-- The answer in the answer slot (R164, R191). -/
structure Answer where
  dest : Addr
  summary : Byte
  outcome : Outcome
  fault : Option FaultCode
  further : Bool
  kind : Byte
  data : List Byte
  deriving DecidableEq, Repr

/-- Cause of a MISSED notice (R193). -/
inductive MissCause where
  | grace | rollover
  deriving DecidableEq, Repr

/-- Cause of a BAY_OUT notice (R193). -/
inductive BayOutCause where
  | serviceFault | callFault
  deriving DecidableEq, Repr

/-- The notices with the fields of R193, in its order. -/
inductive Notice where
  | placed (tag : Nat) (slot : Slot) (lane : LaneNo) (position cls : Nat) (origin : Origin)
  | called (row block key tag : Nat) (lane : LaneNo) (entry : Nat) (lowEnergy atCallTime : Bool)
  | gone (row block tag minute : Nat)
  | missed (row block key tag : Nat) (cause : MissCause)
  /-- cause NOT_PARKED with the released bus's tag and state, or NO_CANDIDATE -/
  | short (row block key : Nat) (released : Option (Nat × VehicleState))
  | blocked (row block tag : Nat) (lane : LaneNo) (entry : Nat)
  | shuntFull (lane : LaneNo) (tag : Nat) (slot : Slot) (row : Nat)
  | noBerth (tag : Nat) (slot : Slot) (origin : Origin) (entries : Nat)
  | bayOut (bay : BayNo) (cause : BayOutCause) (tag : Nat)
  | bayNoShow (bay : BayNo) (tag : Nat) (slot : Slot) (kind : QueueKind)
  | feederShed (feeder : FeederNo) (accumulator drawn rated base : Nat)
  | feederTrip (feeder : FeederNo) (accumulator drawn rated base : Nat)
  | stationSilent (addr : Addr) (kind : StationKind) (index : Nat)
  | yardConflict (tag : Nat) (slot : Slot) (before : VehicleState) (cause : Nat)
  deriving DecidableEq, Repr

/-- A report waiting in the depot forward FIFO: source, kind and payload as received (R157, R188). -/
structure Forwarded where
  src : Addr
  kind : Byte
  payload : List Byte
  deriving DecidableEq, Repr

/-- Which FIFO the depot link's output prefers (R165). -/
inductive OutputPointer where
  | notice | forward
  deriving DecidableEq, Repr

/-- How far an accepted RESET has come (R176; log 22). -/
inductive ResetPhase where
  | none
  /-- RESET is answered, and its answer is not transmitted yet -/
  | ordered
  /-- the answer has been transmitted: the soft reset is made next -/
  | due
  deriving DecidableEq, Repr

/-- The Depot Link Port's state; `out` is the MODEL's own field, the bits last put on the depot link (log 26). -/
structure Dlp where
  requests : List Request := []
  answer : Option Answer := none
  notices : List Notice := []
  forwards : List Forwarded := []
  pointer : OutputPointer := .notice
  reset : ResetPhase := .none
  out : Option (List LineBit) := none
  deriving DecidableEq, Repr

/-- The read-ahead latch when it is valid: a copy of a row, tagged with its table and row (R170). -/
structure Latch where
  table : Table
  row : Nat
  bytes : List Byte
  deriving DecidableEq, Repr

/-- The Table Access Unit's state: access pointer and latch (R168, R170). -/
structure Tau where
  table : Table := .station
  row : Nat := 0
  latch : Option Latch := none
  deriving DecidableEq, Repr

/-- The event flags, in the order of R173. -/
inductive EventFlag where
  | stationSilent | lineCheckError | unknownStation | directiveDrop | forwardDrop | noticeDrop | linkOverrun
  | unknownVehicle | yardConflict | wrongLane | arrivalLapse | unscheduledExit | noBerth | misorderPlaced
  | queueFull | bayNoShow | bayIntruder | bayOut | overstay | washSkipped
  | feederShed | feederTrip | chargerMismatch
  | callBlocked | shuntFull | rowShort | rowMissed | lowEnergy
  | supervisionLapse | configDefaulted | storeFailed | softReset
  deriving DecidableEq, Repr

/-- The Event Register: the event flag word (R173, R191) and the deferred fault slot (R177). -/
structure Er where
  flags : BitVec 32 := 0
  deferred : Option FaultCode := none
  further : Bool := false
  deriving DecidableEq, Repr

/-! ## Yard Clock and Supervisor, Settings Store (R180 to R187) -/

/-- Modes (R182). -/
inductive Mode where
  | normal | fallback
  deriving DecidableEq, Repr

/-- The yard clock and the supervision of the server. The supervision timer holds the period it was started with,
`none` when stopped (log 6). -/
structure Ycs where
  minute : Nat := 0
  clockSet : Bool := false
  mode : Mode := .fallback
  supervision : Option Nat := none
  deriving DecidableEq, Repr

/-- The parameter table (R183), in its order, with its factory defaults. -/
structure Params where
  server : Addr := 0
  supervisionPeriod : Nat := 10
  arrivalTimeout : Nat := 10
  washInterval : Nat := 2
  priorityHorizon : Nat := 90
  washSkipMargin : Nat := 30
  noShowTimeout : Nat := 5
  retryDelay : Nat := 2
  overstayFuel : Nat := 12
  overstayWash : Nat := 10
  turnLength : Nat := 10
  ageLimit : Nat := 60
  callLead : Nat := 10
  departureGrace : Nat := 5
  deriving DecidableEq, Repr

/-- A whole working configuration (R184). The default is the factory configuration. -/
structure Configuration where
  stations : Vector StationCfg 128 := Vector.replicate 128 {}
  lanes : Vector LaneCfg 32 := Vector.replicate 32 {}
  chargers : Vector ChargerCfg 64 := Vector.replicate 64 {}
  feeders : Vector FeederCfg 4 := Vector.replicate 4 {}
  bays : Vector BayCfg 6 := Vector.replicate 6 {}
  params : Params := {}
  deriving DecidableEq, Repr

/-- The Settings Store. `flash` is the flash image: `none` when its CRC-32 does not match, and the configuration
it holds when it does (R184; log 27). -/
structure Ss where
  params : Params := {}
  flash : Option Configuration := none
  storing : Bool := false
  loading : Bool := false
  deriving DecidableEq, Repr

/-! ## The whole part -/

/-- The state of the YD-48, and the commands that wait for it, first in, first out. -/
structure State where
  fleet : Vector Vehicle 256 := Vector.replicate 256 {}
  lanes : Vector Lane 32 := Vector.replicate 32 {}
  waitList : List WaitEntry := []
  stc : Stc := {}
  ca : Ca := {}
  ds : Ds := {}
  blc : Blc := {}
  dlp : Dlp := {}
  tau : Tau := {}
  er : Er := {}
  ycs : Ycs := {}
  ss : Ss := {}
  ownAddr : Addr := Config.strappedAddress
  pending : List Instr := []
  deriving DecidableEq, Repr

/-- What a command comes to. -/
abbrev StepResult := Host.Outcome State Fault Refusal

/-- The part right after power-on with no usable flash image (log 2): every record at its power-on value
(R20, R38, R58, R81, R108, R125, R138, R160, R179, R180, R182, R184), the factory configuration, all event flags
clear but CONFIG_DEFAULTED, which is bit 29 of the event flag word (R173, R184, R191). -/
def State.reset : State := { er := { flags := 1#32 <<< 29 } }

end Sys2Proof.Machine
end

