-- ==== Sys2Proof/Machine/Bytes.lean ====
section
/-! DEFINITION. Bytes on the two lines: byte order, the check of R188, the telegram and its kind codes, and the
payloads of reports and directives (R189). -/

namespace Sys2Proof.Machine

/-- `n` in `width` bytes, most significant byte first (R188). -/
def toBytes (width n : Nat) : List Byte :=
  match width with
  | 0 => []
  | w + 1 => toBytes w (n / 256) ++ [BitVec.ofNat 8 n]

/-- The number that bytes spell, most significant byte first (R188). -/
def ofBytes (bytes : List Byte) : Nat := bytes.foldl (fun n b => n * 256 + b.toNat) 0

/-- One bit of the check register, generator x^16 + x^12 + x^5 + 1 (R188). -/
def crcBit (r : BitVec 16) : BitVec 16 := if r.msb then (r <<< 1) ^^^ 0x1021#16 else r <<< 1

/-- One byte through the check register, most significant bit first (R188). -/
def crcByte (r : BitVec 16) (b : Byte) : BitVec 16 :=
  (List.range 8).foldl (fun r _ => crcBit r) (r ^^^ (b.setWidth 16 <<< 8))

/-- The check over header and payload: the register starts at all ones and is not inverted (R188). -/
def crc16 (bytes : List Byte) : BitVec 16 := bytes.foldl crcByte 0xFFFF#16

/-- A telegram (R188). A destination of `none` is the 255 of a CALL_IN invitation. -/
structure Telegram where
  src : Addr
  dest : Option Addr
  kind : Byte
  payload : List Byte
  deriving DecidableEq, Repr

/-! ### Kind codes (R188) -/

def kindGateIn : Byte := 1
def kindGateOut : Byte := 2
def kindLaneEntry : Byte := 3
def kindLaneExit : Byte := 4
def kindBayArrive : Byte := 5
def kindBayDone : Byte := 6
def kindBayFault : Byte := 7
def kindChargerReport : Byte := 8
def kindMeterReport : Byte := 9
def kindNothing : Byte := 10
def kindPoll : Byte := 33
def kindCallIn : Byte := 34
def kindSelect : Byte := 49
def kindPut : Byte := 50
def kindFetch : Byte := 51
def kindClear : Byte := 52
def kindOrder : Byte := 53
def kindIdent : Byte := 54
def kindAnswer : Byte := 65
def kindNotice : Byte := 66

/-- Causes of a YARD_CONFLICT notice beside the report kinds (R193). -/
def causePlacement : Nat := 128
def causeTicket : Nat := 129

/-- The kind code of a directive (R188). -/
def directiveCode : DirectiveKind → Byte
  | .sign => 17
  | .bayStart => 18
  | .setpoint => 19
  | .call => 20

/-- The directive kind a code names (R162, R188). -/
def directiveOf (code : Byte) : Option DirectiveKind :=
  [DirectiveKind.sign, .bayStart, .setpoint, .call].find? (fun k => directiveCode k = code)

/-- The destination byte: 255 in a CALL_IN invitation only (R188). -/
def destByte : Option Addr → Byte
  | some a => BitVec.ofNat 8 a.val
  | none => 255

/-- Header and payload of a telegram, the bytes its check runs over (R188). -/
def telegramBody (t : Telegram) : List Byte :=
  BitVec.ofNat 8 t.src.val :: destByte t.dest :: t.kind :: BitVec.ofNat 8 t.payload.length :: t.payload

/-- The bytes of a telegram: header, payload and check (R188). -/
def telegramBytes (t : Telegram) : List Byte :=
  telegramBody t ++ toBytes 2 (crc16 (telegramBody t)).toNat

/-- One character: a start bit, eight data bits with the most significant first, and one stop bit (R188). -/
def character (b : Byte) : List LineBit :=
  .start :: ([7, 6, 5, 4, 3, 2, 1, 0].map fun n => LineBit.data (b.getLsbD n)) ++ [.stop]

/-- A telegram as it stands on a line: the character of each of its bytes, in order (R188). -/
def encodeTelegram (t : Telegram) : List LineBit := (telegramBytes t).flatMap character

/-- A destination byte as a receiver takes it: an address, or 255 in a CALL_IN invitation (R188). -/
def destOf (kind b : Byte) : Option (Option Addr) :=
  if h : b.toNat < 128 then some (some ⟨b.toNat, h⟩)
  else if b = 255 ∧ kind = kindCallIn then some none
  else none

/-- The check and length tests of a received telegram (R188; check 1 of R156, the frame check of R162): `none`
where one fails. -/
def parseTelegram (bytes : List Byte) : Option Telegram :=
  match bytes with
  | s :: d :: k :: l :: rest =>
    if rest.length = l.toNat + 2 ∧ l.toNat ≤ Config.maxPayload
        ∧ rest.drop l.toNat = toBytes 2 (crc16 (s :: d :: k :: l :: rest.take l.toNat)).toNat then
      if h : s.toNat < 128 then
        (destOf k d).map fun dest => ⟨⟨s.toNat, h⟩, dest, k, rest.take l.toNat⟩
      else none
    else none
  | _ => none

/-! ### Payloads of reports and directives (R189) -/

/-- Place kind of a SIGN: a lane or a bay (R189). -/
inductive SignPlace where
  | lane (lane : LaneNo) (position : Nat)
  | bay (bay : BayNo)
  deriving DecidableEq, Repr

/-- The payload of a SIGN (R189): tag, place kind, number, first position. -/
def signPayload (tag : Nat) : SignPlace → List Byte
  | .lane l position => toBytes 3 tag ++ [0] ++ toBytes 1 l.val ++ toBytes 1 position
  | .bay b => toBytes 3 tag ++ [1] ++ toBytes 1 b.val ++ [0]

/-- The payload of a BAY_START (R189). -/
def bayStartPayload (programme : Nat) : List Byte := toBytes 1 programme

/-- The payload of a SETPOINT (R189). -/
def setpointPayload (grant : Nat) : List Byte := toBytes 2 grant

/-- The payload of a CALL (R189). -/
def callPayload (block tag : Nat) : List Byte := toBytes 2 block ++ toBytes 3 tag

/-- The payload of a tagged report (R189). -/
def tagPayload (tag : Nat) : List Byte := toBytes 3 tag

/-- The payload of a CHARGER_REPORT (R189). -/
def chargerPayload (tag soc power : Nat) (marks : Byte) : List Byte :=
  toBytes 3 tag ++ toBytes 2 soc ++ toBytes 2 power ++ [marks]

/-- The payload of a METER_REPORT (R189). -/
def meterPayload (draw : Nat) : List Byte := toBytes 2 draw

end Sys2Proof.Machine
end

