-- ==== Sys2Proof/Machine/Operands.lean ====
section
/-! DEFINITION. Reading and writing the records of the state, and the decoding of received fields (R190). Every
record has one reader and one writer here; the other files go through them. -/

namespace Sys2Proof.Machine

/-! ### Records -/

/-- The fleet record of a slot (R1). -/
def State.veh (s : State) (v : Slot) : Vehicle := s.fleet.get v

/-- Replace a fleet record. -/
def State.setVeh (s : State) (v : Slot) (r : Vehicle) : State := { s with fleet := s.fleet.set v.val r v.isLt }

/-- Change a fleet record. -/
def State.modVeh (s : State) (v : Slot) (f : Vehicle → Vehicle) : State := s.setVeh v (f (s.veh v))

/-- The record of a lane (R21, R22). -/
def State.lane (s : State) (l : LaneNo) : Lane := s.lanes.get l

/-- Replace a lane record. -/
def State.setLane (s : State) (l : LaneNo) (r : Lane) : State := { s with lanes := s.lanes.set l.val r l.isLt }

/-- Change a lane record. -/
def State.modLane (s : State) (l : LaneNo) (f : Lane → Lane) : State := s.setLane l (f (s.lane l))

/-- The record of a bay (R63, R64). -/
def State.bay (s : State) (b : BayNo) : Bay := s.stc.bays.get b

/-- Replace a bay record. -/
def State.setBay (s : State) (b : BayNo) (r : Bay) : State :=
  { s with stc := { s.stc with bays := s.stc.bays.set b.val r b.isLt } }

/-- Change a bay record. -/
def State.modBay (s : State) (b : BayNo) (f : Bay → Bay) : State := s.setBay b (f (s.bay b))

/-- The record of a charger (R82, R83). -/
def State.charger (s : State) (c : ChargerNo) : Charger := s.ca.chargers.get c

/-- Replace a charger record. -/
def State.setCharger (s : State) (c : ChargerNo) (r : Charger) : State :=
  { s with ca := { s.ca with chargers := s.ca.chargers.set c.val r c.isLt } }

/-- Change a charger record. -/
def State.modCharger (s : State) (c : ChargerNo) (f : Charger → Charger) : State := s.setCharger c (f (s.charger c))

/-- The record of a feeder (R84, R85). -/
def State.feeder (s : State) (f : FeederNo) : Feeder := s.ca.feeders.get f

/-- Replace a feeder record. -/
def State.setFeeder (s : State) (f : FeederNo) (r : Feeder) : State :=
  { s with ca := { s.ca with feeders := s.ca.feeders.set f.val r f.isLt } }

/-- Change a feeder record. -/
def State.modFeeder (s : State) (f : FeederNo) (g : Feeder → Feeder) : State := s.setFeeder f (g (s.feeder f))

/-- The station table entry of an address (R147, R149). -/
def State.station (s : State) (a : Addr) : Station := s.blc.stations.get a

/-- Replace a station table entry. -/
def State.setStation (s : State) (a : Addr) (r : Station) : State :=
  { s with blc := { s.blc with stations := s.blc.stations.set a.val r a.isLt } }

/-- Change a station table entry. -/
def State.modStation (s : State) (a : Addr) (f : Station → Station) : State := s.setStation a (f (s.station a))

/-- The shift record of a lane (R138). -/
def State.shiftRecord (s : State) (l : LaneNo) : ShiftRecord := s.ds.shifts.get l

/-- Replace a shift record. -/
def State.setShiftRecord (s : State) (l : LaneNo) (r : ShiftRecord) : State :=
  { s with ds := { s.ds with shifts := s.ds.shifts.set l.val r l.isLt } }

/-- The ACTIVE row of a number, when it is in use (R109). -/
def State.row (s : State) (i : Nat) : Option PlanRow := s.ds.active[i]?

/-- Change an ACTIVE row in use. -/
def State.modRow (s : State) (i : Nat) (f : PlanRow → PlanRow) : State :=
  { s with ds := { s.ds with active := s.ds.active.modify i f } }

/-- The service queue of a kind (R60). -/
def State.queue (s : State) : QueueKind → List Ticket
  | .fuel => s.stc.fuelQueue
  | .wash => s.stc.washQueue

/-- Replace a service queue. -/
def State.setQueue (s : State) (k : QueueKind) (q : List Ticket) : State :=
  match k with
  | .fuel => { s with stc := { s.stc with fuelQueue := q } }
  | .wash => { s with stc := { s.stc with washQueue := q } }

/-- Note that a lane is owed a shift step when the event in progress is done (R140; log 13). -/
def State.oweStep (s : State) (l : LaneNo) : State :=
  if l ∈ s.ds.stepDue then s else { s with ds := { s.ds with stepDue := l :: s.ds.stepDue } }

/-! ### What is read from several records -/

/-- The SILENT mark of a station (R149). -/
def State.silent (s : State) (a : Addr) : Bool := (s.station a).silent

/-- A station field that names a station which is not SILENT. -/
def State.heard (s : State) (station : Option Addr) : Bool :=
  match station with
  | some a => !s.silent a
  | none => false

/-- The row a vehicle is bound to, when its bound row field names one (R112). -/
def State.boundPlan (s : State) (v : Slot) : Option PlanRow := (s.veh v).boundRow.bind s.row

/-- The key of a vehicle: its bound row's departure key, or 1440 (R41). -/
def State.key (s : State) (v : Slot) : Nat :=
  match s.boundPlan v with
  | some r => r.key
  | none => Config.unboundKey

/-- The units of a vehicle in lane positions (R21). -/
def unitsOf (r : Vehicle) : Nat :=
  match r.length with
  | .standard => 1
  | .articulated => 2

/-- The units of the vehicle in a slot. -/
def State.units (s : State) (v : Slot) : Nat := unitsOf (s.veh v)

/-- The slot that holds a tag; tag 0 is held by no slot (R1, R7). -/
def State.slotOf (s : State) (tag : Nat) : Option Slot :=
  if tag = 0 then none else (upTo 256).find? (fun v => (s.veh v).tag = tag)

/-- The stored energy floor(battery capacity × last SoC / 1000), 0 with no last SoC (R45, R98, R133). -/
def storedEnergy (r : Vehicle) : Nat := (r.battery.getD 0) * (r.lastSoc.getD 0) / 1000

/-- The target energy: the bound row's required energy when it is above 0, else the standby target (R45, R98). -/
def targetEnergy (r : Vehicle) (bound : Option PlanRow) : Nat :=
  match bound with
  | some p => if p.energy > 0 then p.energy else r.standby.getD 0
  | none => r.standby.getD 0

/-! ### Received fields (R190) -/

/-- The nearest value within the limits. -/
def clamp (lo hi n : Nat) : Nat := max lo (min hi n)

/-- Round down to a step of ten. -/
def stepTen (n : Nat) : Nat := n / 10 * 10

/-- A station address that may be absent: 255 is absent, 128..254 does not decode (R190). -/
def optAddrField (n : Nat) : Option (Option Addr) :=
  if h : n < 128 then some (some ⟨n, h⟩) else if n = 255 then some none else none

/-- A station address that may not be absent (R190). -/
def addrField (n : Nat) : Option Addr := if h : n < 128 then some ⟨n, h⟩ else none

/-- A fleet slot that may be absent: 65535 is absent, 256..65534 does not decode (R190). -/
def optSlotField (n : Nat) : Option (Option Slot) :=
  if h : n < 256 then some (some ⟨n, h⟩) else if n = 65535 then some none else none

/-- The field of `width` bytes that starts at a byte of a payload; a payload too short gives 0 bytes for what it
lacks, which no length that R192 admits meets. -/
def field (payload : List Byte) (start width : Nat) : Nat := ofBytes ((payload.drop start).take width)

/-- A bit of a marks byte (R192). -/
def markBit (payload : List Byte) (start bit : Nat) : Bool := (payload.getD start 0).getLsbD bit

/-- An enumeration is coded by its position in its list, counting from 0 (R190). -/
def codeIn {α : Type} [DecidableEq α] (list : List α) (x : α) : Nat := list.idxOf x

end Sys2Proof.Machine
end

