-- ==== Sys2Proof/Machine/Flags.lean ====
section
/-! DEFINITION. The Event Register: raising and reading the event flags (R173), the event flag word's layout (R191),
and the summary status (R173, R191). -/

namespace Sys2Proof.Machine

/-- The event flags in the order of the list of R173: position n is bit n of the event flag word (R191). -/
def eventFlags : List EventFlag :=
  [.stationSilent, .lineCheckError, .unknownStation, .directiveDrop, .forwardDrop, .noticeDrop, .linkOverrun,
   .unknownVehicle, .yardConflict, .wrongLane, .arrivalLapse, .unscheduledExit, .noBerth, .misorderPlaced,
   .queueFull, .bayNoShow, .bayIntruder, .bayOut, .overstay, .washSkipped,
   .feederShed, .feederTrip, .chargerMismatch,
   .callBlocked, .shuntFull, .rowShort, .rowMissed, .lowEnergy,
   .supervisionLapse, .configDefaulted, .storeFailed, .softReset]

/-- The bit of an event flag in the event flag word (R191). -/
def flagBit (f : EventFlag) : Nat := codeIn eventFlags f

/-- Whether an event flag is set. -/
def State.flag (s : State) (f : EventFlag) : Bool := s.er.flags.getLsbD (flagBit f)

/-- "X is raised" (00): the event flag is set and stays set (R173). -/
def State.raise (s : State) (f : EventFlag) : State :=
  { s with er := { s.er with flags := s.er.flags ||| (1#32 <<< flagBit f) } }

/-- Place a fault in the deferred fault slot, or set the further-fault mark of a slot that holds one (R177). -/
def State.placeFault (s : State) (c : FaultCode) : State :=
  match s.er.deferred with
  | none => { s with er := { s.er with deferred := some c, further := false } }
  | some _ => { s with er := { s.er with further := true } }

/-- A bit of the summary status set while a condition holds. -/
def statusBit (n : Nat) (c : Bool) : Byte := if c then 1#8 <<< n else 0

/-- The summary status (R173), laid out as R191 gives it. -/
def State.summary (s : State) : Byte :=
  statusBit 0 (s.ycs.mode = .fallback)
  ||| statusBit 1 (s.er.flags ≠ 0)
  ||| statusBit 2 s.er.deferred.isSome
  ||| statusBit 3 s.ss.storing
  ||| statusBit 4 ((upTo 4).any fun f => (s.feeder f).state = .tripped)
  ||| statusBit 5 (!s.ycs.clockSet)
  ||| statusBit 6 (s.ds.swap ≠ .none)
  ||| statusBit 7 ((upTo 128).any s.silent)

end Sys2Proof.Machine
end

