-- ==== Sys2Proof/Machine/Ops.lean ====
section
/-! DEFINITION. The operations every block shares: placing a directive in the berth directive FIFO (R158), placing a
notice in the notice FIFO (R166), a YARD_CONFLICT with its notice (R19, R28, R40, R61), forwarding a report
(R157, R166), and putting a telegram on a line. -/

namespace Sys2Proof.Machine

/-- Whether the berth directive FIFO holds 16 (R158). -/
def State.originFull (s : State) : Bool := s.blc.originFifo.length ≥ Config.originCapacity

/-- A block places a directive in the berth directive FIFO; a full FIFO drops it and raises DIRECTIVE_DROP (R158). -/
def State.placeDirective (s : State) (d : Directive) : State :=
  if s.originFull then s.raise .directiveDrop
  else { s with blc := { s.blc with originFifo := s.blc.originFifo ++ [d] } }

/-- A directive for a station field: none is placed when the field is absent (R21, R49, R63). -/
def State.direct (s : State) (dest : Option Addr) (kind : DirectiveKind) (payload : List Byte) : State :=
  match dest with
  | some a => s.placeDirective ⟨a, kind, payload⟩
  | none => s

/-- A block generates a notice: none in FALLBACK, and a full notice FIFO drops it and raises NOTICE_DROP (R166). -/
def State.notify (s : State) (n : Notice) : State :=
  match s.ycs.mode with
  | .fallback => s
  | .normal =>
    if s.dlp.notices.length ≥ Config.noticeCapacity then s.raise .noticeDrop
    else { s with dlp := { s.dlp with notices := s.dlp.notices ++ [n] } }

/-- YARD_CONFLICT is raised and its notice generated, with the content of R19: tag, slot, the vehicle's state before
the event, and the cause's code. -/
def State.yardConflict (s : State) (v : Slot) (before : VehicleState) (cause : Nat) : State :=
  (s.raise .yardConflict).notify (.yardConflict (s.veh v).tag v before cause)

/-- A report is placed in the depot forward FIFO; a full FIFO drops it and raises FORWARD_DROP (R157, R166). -/
def State.forward (s : State) (r : Forwarded) : State :=
  if s.dlp.forwards.length ≥ Config.depotForwardCapacity then s.raise .forwardDrop
  else { s with dlp := { s.dlp with forwards := s.dlp.forwards ++ [r] } }

/-- A server directive joins the berth forward FIFO after the checks of R159. -/
def State.forwardDirective (s : State) (d : Directive) : State :=
  if s.blc.forwardFifo.length ≥ Config.berthForwardCapacity then s.raise .forwardDrop
  else { s with blc := { s.blc with forwardFifo := s.blc.forwardFifo ++ [d] } }

/-- Put a telegram on the berth line (log 26). -/
def State.sendBerth (s : State) (t : Telegram) : State :=
  { s with blc := { s.blc with out := some (encodeTelegram t) } }

/-- Put a telegram on the depot link (log 26). -/
def State.sendDepot (s : State) (t : Telegram) : State :=
  { s with dlp := { s.dlp with out := some (encodeTelegram t) } }

/-- Apply a change for each element of a list, in the list's order. -/
def forEach {α : Type} (list : List α) (f : α → State → State) (s : State) : State :=
  list.foldl (fun s x => f x s) s

end Sys2Proof.Machine
end

