-- ==== Sys2Proof/Machine/YardMap.lean ====
section
/-! DEFINITION. The Yard Map: positions and room (R23), lane states (R35), the entry test (R25), additions (R26) and
removals (R27, R24) of lane list entries; and, because every removal and every change of position reaches it, the
withdrawal of a charger's grant at once (R89, R90). -/

namespace Sys2Proof.Machine

/-! ### Positions and room (R23) -/

/-- The units of a run of lane list entries. -/
def State.unitsIn (s : State) (entries : List Entry) : Nat := (entries.map fun e => s.units e.slot).sum

/-- The room of a lane (R23). The window front of a DEAD_END lane is 0 (R24), so one expression serves both kinds. -/
def State.room (s : State) (l : LaneNo) : Nat :=
  (s.lane l).cfg.capacity - (s.lane l).front - s.unitsIn (s.lane l).entries

/-- The first position of list entry `i` (R23). -/
def State.firstPosition (s : State) (l : LaneNo) (i : Nat) : Nat :=
  match (s.lane l).cfg.kind with
  | .through => (s.lane l).front + s.unitsIn ((s.lane l).entries.take i)
  | .deadEnd => s.unitsIn ((s.lane l).entries.drop (i + 1))

/-- The first position a new entry would take at the join end (R43). -/
def State.joinPosition (s : State) (l : LaneNo) : Nat :=
  match (s.lane l).cfg.kind with
  | .through => (s.lane l).front + s.unitsIn (s.lane l).entries
  | .deadEnd => s.unitsIn (s.lane l).entries

/-- The place of a vehicle's entry in a lane list; the length of the list when it has none. -/
def State.entryIndex (s : State) (l : LaneNo) (v : Slot) : Nat :=
  (s.lane l).entries.findIdx fun e => e.slot = v

/-- A vehicle's entry in a lane list. -/
def State.entry (s : State) (l : LaneNo) (v : Slot) : Option Entry :=
  (s.lane l).entries.find? fun e => e.slot = v

/-- Whether a vehicle has a PRESENT entry in a lane. -/
def State.presentIn (s : State) (l : LaneNo) (v : Slot) : Bool :=
  (s.lane l).entries.any fun e => e.slot = v && e.standing = .present

/-- Whether a vehicle has an entry in any lane list. -/
def State.inSomeLane (s : State) (v : Slot) : Bool := (upTo 32).any fun l => (s.entry l v).isSome

/-- The lane in which a vehicle has its PRESENT entry. -/
def State.presentLane (s : State) (v : Slot) : Option LaneNo := (upTo 32).find? fun l => s.presentIn l v

/-- A position at a vehicle's PRESENT entry in a lane: its first position, or for an ARTICULATED vehicle the one above
it (R23). -/
def State.covers (s : State) (l : LaneNo) (v : Slot) (position : Nat) : Bool :=
  s.presentIn l v && s.firstPosition l (s.entryIndex l v) ≤ position
    && position < s.firstPosition l (s.entryIndex l v) + s.units v

/-! ### Withdrawing a grant at once (R89, R90) -/

/-- A SETPOINT for a charger, carrying `kw`: placed when its station is configured and not SILENT and the FIFO has
room, in which case the resend mark becomes `placed`; otherwise the resend mark is set (R89, R104). -/
def State.setpoint (s : State) (c : ChargerNo) (kw : Nat) (placed : Bool) : State :=
  match (s.charger c).cfg.station with
  | some a =>
    if s.silent a then s.modCharger c fun r => { r with resend := true }
    else if s.originFull then (s.raise .directiveDrop).modCharger c fun r => { r with resend := true }
    else (s.placeDirective ⟨a, .setpoint, setpointPayload kw⟩).modCharger c fun r => { r with resend := placed }
  | none => s.modCharger c fun r => { r with resend := true }

/-- The state of a charger whose grant has been withdrawn (R89 step 3). -/
def unchargedState (r : Charger) : ChargerState :=
  if r.state = .fault then .fault else if r.connected.isSome then .connected else .free

/-- Withdrawing the grant of a charger at once (R89). -/
def State.withdrawGrant (s : State) (c : ChargerNo) : State :=
  (if (s.charger c).grant > 0 then s.setpoint c 0 (s.charger c).resend else s).modCharger c fun r =>
    { r with grant := 0, hold := 0, state := unchargedState r }

/-- The charger lets its vehicle go: connected slot cleared, grant withdrawn at once, turn age and hold 0 (R90). -/
def State.disconnect (s : State) (c : ChargerNo) : State :=
  ((s.modCharger c fun r => { r with connected := none }).withdrawGrant c).modCharger c fun r =>
    { r with turnAge := 0, hold := 0 }

/-- Whether a vehicle is PARKED with its PRESENT entry covering a charger's position (R87, R90). -/
def State.parkedAt (s : State) (v : Slot) (c : ChargerNo) : Bool :=
  (s.veh v).state = .parked && s.covers (s.charger c).cfg.lane v (s.charger c).cfg.position

/-- The check of R90 at one charger. -/
def State.recheckCharger (s : State) (c : ChargerNo) : State :=
  match (s.charger c).connected with
  | none => s
  | some v => if s.parkedAt v c then s else s.disconnect c

/-- The allocator is told that a vehicle left PARKED or that positions changed (R23, R90): every charger that has a
connected slot makes the check, in ascending number (log 17). -/
def State.recheckChargers (s : State) : State := forEach (upTo 64) (fun c s => s.recheckCharger c) s

/-! ### Lane states (R35) -/

/-- The lane state (R35). -/
def State.laneState (s : State) (l : LaneNo) : LaneState :=
  if (s.lane l).cfg.capacity = 0 then .closed
  else if s.silent (s.lane l).cfg.reader then .degraded
  else match (s.lane l).setState with
    | .opened => .opened
    | .closed => .closed

/-- Whether some lane state became OPEN between two states (R35, R54). -/
def laneOpened (before after : State) : Bool :=
  (upTo 32).any fun l => after.laneState l = .opened && before.laneState l ≠ .opened

/-! ### Order in a lane (R25) -/

/-- The keys of a lane's entries, mouth first. -/
def State.laneKeys (s : State) (l : LaneNo) : List Nat := (s.lane l).entries.map fun e => s.key e.slot

/-- The entry test for place `i` of a list of keys (R25). -/
def inOrder (keys : List Nat) (i : Nat) : Bool :=
  (i = 0 || keys.getD (i - 1) 0 ≤ keys.getD i 0) && (i + 1 ≥ keys.length || keys.getD i 0 ≤ keys.getD (i + 1) 0)

/-- The entry test of one entry sets or clears its vehicle's misorder mark; a vehicle with entries in two lanes is
tested at its PRESENT entry only (R25). -/
def State.testEntry (s : State) (l : LaneNo) (i : Nat) : State :=
  match (s.lane l).entries[i]? with
  | none => s
  | some e =>
    if e.standing = .expected && (s.presentLane e.slot).isSome then s
    else s.modVeh e.slot fun r => { r with misorder := !inOrder (s.laneKeys l) i }

/-- The entry test of every entry of a lane (R25). -/
def State.testLane (s : State) (l : LaneNo) : State :=
  forEach (List.range (s.lane l).entries.length) (fun i s => s.testEntry l i) s

/-- The entry test of every entry of every lane, as a bank swap asks for (R25, R118). -/
def State.testAllLanes (s : State) : State := forEach (upTo 32) (fun l s => s.testLane l) s

/-! ### Additions and removals (R26, R27) -/

/-- Write a lane list and tell the allocator of the positions (R23). The lane is owed a shift step (R140). -/
def State.writeEntries (s : State) (l : LaneNo) (entries : List Entry) : State :=
  ((s.modLane l fun r => { r with entries := entries }).oweStep l).recheckChargers

/-- Add an entry at the tail of a lane list (R17, R30). -/
def State.addAtTail (s : State) (l : LaneNo) (e : Entry) : State := s.writeEntries l ((s.lane l).entries ++ [e])

/-- Add an entry at the join end of a lane list (R26). -/
def State.addAtJoinEnd (s : State) (l : LaneNo) (e : Entry) : State :=
  match (s.lane l).cfg.kind with
  | .through => s.addAtTail l e
  | .deadEnd => s.writeEntries l (e :: (s.lane l).entries)

/-- The window front after a removal (R24): it advances by the units of a removed PRESENT entry 0 of a THROUGH lane,
and returns to 0 when the list becomes empty. -/
def frontAfter (lane : Lane) (atMouth : Bool) (units : Nat) (rest : List Entry) : Nat :=
  match lane.cfg.kind with
  | .deadEnd => 0
  | .through => if rest = [] then 0 else if atMouth then lane.front + units else lane.front

/-- What the removal of an entry does to its vehicle's marks (R27 steps 3 and 4): an EXPECTED entry removed while the
shift mark is set was the shunt reservation. -/
def State.clearMarksAfter (s : State) (v : Slot) (removed : Standing) : State :=
  let s := if removed = .expected then s.modVeh v fun r => { r with shift := false } else s
  if s.inSomeLane v then s else s.modVeh v fun r => { r with misorder := false }

/-- Remove a vehicle's entry from a lane list (R27 steps 1 to 4; its arrival timer goes with it). The retry of step 5
is made by the rule that calls for the removal. No entry, no change. -/
def State.removeEntry (s : State) (l : LaneNo) (v : Slot) : State :=
  match s.entry l v with
  | none => s
  | some e =>
    let lane := s.lane l
    let rest := lane.entries.filter fun e => e.slot ≠ v
    let atMouth := s.entryIndex l v = 0 && e.standing = .present
    ((s.modLane l fun r => { r with front := frontAfter lane atMouth (s.units v) rest }).writeEntries l rest)
      |>.clearMarksAfter v e.standing

/-- Remove a vehicle's entries from every lane list but one it is to keep (R10). R10 and R27 name no order for the two entries
of a shifted blocker: the lower lane goes first, and the chargers are rechecked after each removal (log 42). -/
def State.removeEntries (s : State) (v : Slot) (keep : Option LaneNo) : State :=
  forEach (upTo 32) (fun l s => if keep = some l then s else s.removeEntry l v) s

end Sys2Proof.Machine
end

