-- ==== Sys2Proof/Machine/Charging.lean ====
section
/-! DEFINITION. The Charge Allocator: charger and meter reports (R86 to R88), the SILENT marks it follows (R91), and the
allocation round (R92 to R104). The withdrawal of a grant at once (R89, R90) stands with the yard map. -/

namespace Sys2Proof.Machine

/-! ### Reports (R86 to R88) -/

/-- Whether a connected tag's vehicle matches a charger (R87). -/
def State.matches (s : State) (v : Slot) (c : ChargerNo) : Bool :=
  (s.veh v).propulsion = .electric && s.parkedAt v c

/-- What a report says of the connected slot (R87). -/
inductive Connection where
  /-- the vehicle already connected, and it matches -/
  | kept
  /-- another vehicle, and it matches -/
  | changed (slot : Slot)
  /-- no tag, or one that does not match -/
  | cleared
  deriving DecidableEq, Repr

/-- The connection a report decides (R87). -/
def State.connection (s : State) (c : ChargerNo) (slot : Option Slot) : Connection :=
  match slot with
  | some v =>
    if s.matches v c then (if (s.charger c).connected = some v then .kept else .changed v) else .cleared
  | none => .cleared

/-- The connected slot, the grant, the turn age and the hold, as the connection decides them (R87). -/
def State.connect (s : State) (c : ChargerNo) (connection : Connection) : State :=
  match connection with
  | .kept => s
  | .changed v =>
    ((s.modCharger c fun r => { r with connected := some v }).withdrawGrant c).modCharger c fun r =>
      { r with turnAge := 0, hold := 0 }
  | .cleared => s.disconnect c

/-- The state that the fault flag and the connection decide (R87). -/
def stateAfterReport (before : ChargerState) (connection : Connection) (connected fault : Bool) : ChargerState :=
  if fault then .fault
  else if before = .fault then (if connected then .connected else .free)
  else match connection with
    | .kept => before
    | .changed _ => .connected
    | .cleared => .free

/-- A CHARGER_REPORT for a charger (R86, R87). `slot` is the slot the FS resolved the tag to, `tagged` whether the
report carried a tag. -/
def State.chargerReport (s : State) (c : ChargerNo) (tagged : Bool) (slot : Option Slot) (soc power : Nat)
    (fault : Bool) : State :=
  let s := s.modCharger c fun r => { r with actual := min power 2000 }
  let s := match slot with
    | some v => s.modVeh v fun r => { r with lastSoc := some (min soc 1000) }
    | none => s
  let before := (s.charger c).state
  let connection := s.connection c slot
  let s := if tagged && connection = .cleared then s.raise .chargerMismatch else s
  let s := s.connect c connection
  let s := if fault then s.withdrawGrant c else s
  s.modCharger c fun r => { r with state := stateAfterReport before connection r.connected.isSome fault }

/-- A METER_REPORT for a feeder (R88). -/
def State.meterReport (s : State) (f : FeederNo) (draw : Nat) : State :=
  s.modFeeder f fun r => { r with reading := some (min draw 9999) }

/-! ### SILENT marks (R91) -/

/-- A charger's station goes SILENT (R91). -/
def silencedCharger (r : Charger) : Charger :=
  { r with grant := 0, resend := true, hold := 0, state := unchargedState r }

/-- The allocator is told that a station became SILENT (R91). -/
def State.chargingSilenced (s : State) (a : Addr) : State :=
  let s := forEach (upTo 64) (fun c s =>
    if (s.charger c).cfg.station = some a then s.modCharger c silencedCharger else s) s
  forEach (upTo 4) (fun f s =>
    if (s.feeder f).cfg.meter = some a then s.modFeeder f fun r => { r with reading := none } else s) s

/-! ### The round: drawn power, accumulator, state, budget (R93 to R97) -/

/-- The chargers of a feeder, in ascending number. -/
def State.chargersOf (s : State) (f : FeederNo) : List ChargerNo :=
  (upTo 64).filter fun c => (s.charger c).cfg.feeder = f

/-- The sum of the last actual powers of a feeder's chargers (R93). -/
def State.actualSum (s : State) (f : FeederNo) : Nat := ((s.chargersOf f).map fun c => (s.charger c).actual).sum

/-- Drawn power and base load (R93). -/
def State.drawnAndBase (s : State) (f : FeederNo) : Nat × Nat :=
  let r := s.feeder f
  let sum := s.actualSum f
  match r.cfg.meter with
  | none => (sum, 0)
  | some a =>
    match s.silent a, r.reading with
    | false, some reading => (reading, reading - sum)
    | _, _ => (sum + r.baseLoad, r.baseLoad)

/-- The accumulator after a round's drawn power (R94). -/
def accumulatorAfter (a drawn rated : Nat) : Nat :=
  if drawn > rated then min 65535 (a + (drawn - rated)) else a - min a ((rated - drawn) / 2)

/-- The feeder state after step 2 (R95). -/
def feederStateAfter (state : FeederState) (a limit : Nat) : FeederState :=
  match state with
  | .normal => if a ≥ limit then .shed else .normal
  | .shed => if a ≥ 2 * limit then .tripped else if a = 0 then .normal else .shed
  | .tripped => .tripped

/-- The budget (R97). -/
def budgetOf (state : FeederState) (mode : Mode) (r : FeederCfg) (base : Nat) : Nat :=
  let b0 := match state with
    | .normal => r.rated
    | .shed => r.rated * 3 / 4 / 10 * 10
    | .tripped => 0
  let b0 := match mode with
    | .normal => b0
    | .fallback => min b0 r.fallback
  stepTen (b0 - base)

/-- Step 1 of the round (R93, R94). -/
def State.roundStep1 (s : State) (f : FeederNo) : State :=
  s.modFeeder f fun r =>
    { r with baseLoad := (s.drawnAndBase f).2,
             accumulator := accumulatorAfter r.accumulator (s.drawnAndBase f).1 r.cfg.rated }

/-- A change of feeder state cancels the holds of its chargers (R95). -/
def State.cancelHolds (s : State) (f : FeederNo) : State :=
  forEach (s.chargersOf f) (fun c s => s.modCharger c fun r => { r with hold := 0 }) s

/-- Step 2 of the round: the feeder state, with what its change raises, withdraws and reports (R95, R96, R107). `drawn`
is the drawn power of step 1. -/
def State.roundStep2 (s : State) (f : FeederNo) (drawn : Nat) : State :=
  let r := s.feeder f
  let after := feederStateAfter r.state r.accumulator r.cfg.limit
  let t := s.modFeeder f fun r => { r with state := after }
  if after = r.state then s
  else match after with
    | .normal => t.cancelHolds f
    | .shed =>
      ((t.cancelHolds f).raise .feederShed).notify (.feederShed f r.accumulator drawn r.cfg.rated r.baseLoad)
    | .tripped =>
      ((forEach (s.chargersOf f) (fun c s => s.withdrawGrant c) (t.cancelHolds f)).raise .feederTrip).notify
        (.feederTrip f r.accumulator drawn r.cfg.rated r.baseLoad)

/-- Step 3 of the round: the budget is stored (R97). -/
def State.roundStep3 (s : State) (f : FeederNo) : State :=
  s.modFeeder f fun r => { r with budget := budgetOf r.state s.ycs.mode r.cfg r.baseLoad }

/-! ### The round: candidates (R98 to R100) -/

/-- Whether a charger is a candidate (R98). -/
def State.isCandidate (s : State) (c : ChargerNo) : Bool :=
  (s.charger c).connected.isSome && (s.charger c).state ≠ .fault && s.heard (s.charger c).cfg.station

/-- The row that counts for a connected vehicle: none while the clock is unset (R98, R99). -/
def State.chargingRow (s : State) (v : Slot) : Option PlanRow :=
  if s.ycs.clockSet then s.boundPlan v else none

/-- The deficit of a connected vehicle (R98). -/
def State.deficit (s : State) (v : Slot) : Nat :=
  targetEnergy (s.veh v) (s.chargingRow v) - storedEnergy (s.veh v)

/-- Division rounded up. -/
def ceilDiv (a b : Nat) : Nat := (a + b - 1) / b

/-- The minutes a deficit needs at full power (R99). -/
def minutesNeeded (deficit pMax : Nat) : Nat := ceilDiv (6 * deficit) pMax

/-- The slack (R99). -/
def slackOf (row : Option PlanRow) (minute needed : Nat) : Int :=
  match row with
  | none => 9999
  | some r => max (-999) (min 9998 (((r.key - minute : Nat) : Int) - (needed : Int)))

/-- What the walk of step 6 needs to know of a candidate. -/
structure Candidate where
  charger : ChargerNo
  deficit : Nat
  slack : Int
  tier : Nat
  age : Nat
  deriving DecidableEq, Repr

/-- The tier of a candidate (R100). -/
def tierOf (slack : Int) (r : Charger) (ageLimit : Nat) : Nat :=
  if slack < 0 then 1 else if r.hold > 0 ∧ r.grant > 0 then 2 else if r.turnAge ≥ ageLimit then 3 else 4

/-- Steps 4 and 5 for one charger: the candidate record of a charger with a deficit (R98 to R100). -/
def State.candidateOf (s : State) (c : ChargerNo) : Option Candidate :=
  let r := s.charger c
  match r.connected with
  | none => none
  | some v =>
    let d := s.deficit v
    if s.isCandidate c && d > 0 then
      let slack := slackOf (s.chargingRow v) s.ycs.minute (minutesNeeded d r.cfg.pMax)
      some ⟨c, d, slack, tierOf slack r s.ss.params.ageLimit, r.turnAge⟩
    else none

/-- Whether candidate `a` is served before candidate `b` (R100). In tier 3 the order is descending turn age, which the
tie rule's greater turn age gives once slack is left out. -/
def Candidate.before (a b : Candidate) : Bool :=
  if a.tier ≠ b.tier then a.tier < b.tier
  else if a.tier ≠ 3 ∧ a.slack ≠ b.slack then a.slack < b.slack
  else if a.age ≠ b.age then a.age > b.age
  else a.charger < b.charger

/-- Put a candidate in its place among ordered candidates. -/
def insertCandidate (a : Candidate) : List Candidate → List Candidate
  | [] => [a]
  | b :: rest => if a.before b then a :: b :: rest else b :: insertCandidate a rest

/-- Step 5: the candidates in order (R100). -/
def orderCandidates (candidates : List Candidate) : List Candidate :=
  candidates.foldl (fun done a => insertCandidate a done) []

/-- A candidate with no deficit becomes FULL (R98). -/
def fullCharger (r : Charger) : Charger := { r with state := .full, grant := 0, turnAge := 0, hold := 0 }

/-- The candidates of a feeder with no deficit become FULL (R98). -/
def State.markFull (s : State) (f : FeederNo) : State :=
  forEach (s.chargersOf f) (fun c s => match (s.charger c).connected with
    | some v => if s.isCandidate c && s.deficit v = 0 then s.modCharger c fullCharger else s
    | none => s) s

/-! ### The round: grants and set-points (R101 to R104) -/

/-- The power need (R101 step 1). -/
def powerNeed (deficit : Nat) : Nat := ceilDiv (6 * deficit) 10 * 10

/-- The grant of a candidate from the remaining budget (R101). -/
def grantOf (r : ChargerCfg) (deficit remaining : Nat) : Nat :=
  let g := stepTen (min r.pMax (min (powerNeed deficit) remaining))
  if g < r.pMin then 0 else g

/-- The charger after its grant is decided (R102). -/
def grantedCharger (r : Charger) (g turnLength : Nat) : Charger :=
  if g > 0 then
    { r with grant := g, state := .charging, turnAge := 0,
             hold := if r.state = .charging then r.hold - 1 else turnLength }
  else { r with grant := 0, state := .waiting, turnAge := min 255 (r.turnAge + 1), hold := 0 }

/-- Step 6: the walk over the ordered candidates with the remaining budget (R101, R102). -/
def State.walk (s : State) (remaining : Nat) : List Candidate → State
  | [] => s
  | a :: rest =>
    let g := grantOf (s.charger a.charger).cfg a.deficit remaining
    (s.modCharger a.charger fun r => grantedCharger r g s.ss.params.turnLength).walk (remaining - g) rest

/-- Step 7 for one charger: a SETPOINT when its grant differs from `before` or its resend mark is set (R104). -/
def State.setpointIfChanged (s : State) (c : ChargerNo) (before : Nat) : State :=
  if (s.charger c).grant ≠ before || (s.charger c).resend then s.setpoint c (s.charger c).grant false else s

/-- Step 7: the set-points of a feeder's chargers, in ascending number (R104; log 17). `before` is the state whose
grants are compared. -/
def State.sendSetpoints (s : State) (f : FeederNo) (before : State) : State :=
  forEach (s.chargersOf f) (fun c s => s.setpointIfChanged c (before.charger c).grant) s

/-- Steps 4 to 7 of the round. The grants compared in step 7 are those that stand as step 6 begins, when step 4 has made
the chargers without a deficit FULL with grant 0 (R104; log 16). -/
def State.roundGrants (s : State) (f : FeederNo) : State :=
  let full := s.markFull f
  let order := orderCandidates ((s.chargersOf f).filterMap s.candidateOf)
  (full.walk (s.feeder f).budget order).sendSetpoints f full

/-- One allocation round of one feeder, one event (R92). -/
def State.round (s : State) (f : FeederNo) : State :=
  ((((s.roundStep1 f).roundStep2 f (s.drawnAndBase f).1).roundStep3 f).roundGrants f)

end Sys2Proof.Machine
end

