-- ==== Sys2Proof/Machine/Placement.lean ====
section
/-! DEFINITION. The Placement Engine: the placement computation (R41 to R47), the reservation with its SIGN and notice
(R48 to R50), the wait list (R51 to R54), and shunt placement (R55 to R57). -/

namespace Sys2Proof.Machine

/-! ### The computation (R41 to R47) -/

/-- The gap of an empty lane (R47). -/
def emptyGap : Nat := 1441

/-- The neighbour's key at the join end of a lane (R44): the tail of a THROUGH lane, entry 0 of a DEAD_END lane. -/
def State.neighbourKey (s : State) (l : LaneNo) : Option Nat :=
  match (s.lane l).cfg.kind with
  | .through => ((s.lane l).entries.getLast?).map fun e => s.key e.slot
  | .deadEnd => ((s.lane l).entries.head?).map fun e => s.key e.slot

/-- The order test (R44). -/
def State.orderPasses (s : State) (v : Slot) (l : LaneNo) : Bool :=
  match s.neighbourKey l, (s.lane l).cfg.kind with
  | none, _ => true
  | some k, .through => s.key v ≥ k
  | some k, .deadEnd => s.key v ≤ k

/-- The gap (R47). -/
def State.gap (s : State) (v : Slot) (l : LaneNo) : Nat :=
  match s.neighbourKey l with
  | none => emptyGap
  | some k => (s.key v - k) + (k - s.key v)

/-- The deficit for the charger test (R45). -/
def State.placementDeficit (s : State) (v : Slot) : Nat :=
  targetEnergy (s.veh v) (s.boundPlan v) - storedEnergy (s.veh v)

/-- Whether a vehicle needs a charger at all: ELECTRIC with a deficit (R46). -/
def State.needsCharger (s : State) (v : Slot) : Bool :=
  (s.veh v).propulsion = .electric && s.placementDeficit v > 0

/-- A charger that meets the need of a vehicle that would stand in lane `l` from a position on (R46). -/
def State.chargerUsable (s : State) (c : ChargerNo) (l : LaneNo) (position units : Nat) : Bool :=
  let r := s.charger c
  s.heard r.cfg.station && r.cfg.lane = l && position ≤ r.cfg.position && r.cfg.position < position + units
    && r.connected.isNone && (s.feeder r.cfg.feeder).state ≠ .tripped

/-- The charger test (R46). -/
def State.chargerNeedMet (s : State) (v : Slot) (l : LaneNo) : Bool :=
  !s.needsCharger v || (upTo 64).any fun c => s.chargerUsable c l (s.joinPosition l) (s.units v)

/-- The class of a candidate lane (R47). -/
def classOf (order need : Bool) : Nat := if order then (if need then 1 else 2) else 3

/-- A candidate lane with its class and gap. -/
structure Choice where
  lane : LaneNo
  cls : Nat
  gap : Nat
  deriving DecidableEq, Repr

/-- Lower class first, then smaller gap (R47). -/
def Choice.better (a b : Choice) : Bool := a.cls < b.cls || (a.cls = b.cls && a.gap < b.gap)

/-- The best candidate; among equals the first, which is the lowest lane number (R47). -/
def bestChoice (candidates : List Choice) : Option Choice :=
  candidates.foldl (fun best c => match best with
    | none => some c
    | some b => if c.better b then some c else some b) none

/-- Lanes that are OPEN, have a role, and have room for a vehicle (R42, R55). -/
def State.candidate (s : State) (role : LaneRole) (v : Slot) (l : LaneNo) : Bool :=
  s.laneState l = .opened && (s.lane l).cfg.role = role && s.units v ≤ s.room l

/-- The lane chosen for an ordinary placement (R42 to R47). -/
def State.placement (s : State) (v : Slot) : Option Choice :=
  bestChoice (((upTo 32).filter (s.candidate .park v)).map fun l =>
    ⟨l, classOf (s.orderPasses v l) (s.chargerNeedMet v l), s.gap v l⟩)

/-- The shunt lane chosen for a blocker of lane `o` (R55). -/
def State.shuntPlacement (s : State) (b : Slot) (o : LaneNo) : Option Choice :=
  bestChoice (((upTo 32).filter fun l => s.candidate .shunt b l && l ≠ o).map fun l =>
    ⟨l, classOf (s.orderPasses b l) true, s.gap b l⟩)

/-! ### The reservation (R48 to R50) -/

/-- The code of a display role: its place in the list of R147. -/
def roleCode : DisplayRole → Nat
  | .gate => 0
  | .serviceExit => 1
  | .laneMouth => 2

/-- The lowest-numbered DISPLAY with a role (R49). -/
def State.roleDisplay (s : State) (role : DisplayRole) : Option Addr :=
  (upTo 128).find? fun a => (s.station a).cfg.kind = .display && (s.station a).cfg.index = roleCode role

/-- The display a placement's SIGN goes to (R49). -/
def State.originDisplay (s : State) : Origin → Option Addr
  | .serviceExit => s.roleDisplay .serviceExit
  | _ => s.roleDisplay .gate

/-- Take a vehicle out of the placement wait list (R48, R10). -/
def State.leaveWaitList (s : State) (v : Slot) : State :=
  { s with waitList := s.waitList.filter fun w => w.slot ≠ v }

/-- The reservation of a chosen lane, one change (R48, with R49 and R50). -/
def State.reserve (s : State) (v : Slot) (c : Choice) (origin : Origin) : State :=
  let position := s.joinPosition c.lane
  let s := s.addAtJoinEnd c.lane ⟨v, .expected, some s.ss.params.arrivalTimeout⟩
  let s := s.leaveWaitList v
  let s := s.modVeh v fun r =>
    { r with state := .toBerth, location := .lane c.lane .expected none, misorder := c.cls = 3 }
  let s := if c.cls = 3 then s.raise .misorderPlaced else s
  let s := s.direct (s.originDisplay origin) .sign (signPayload (s.veh v).tag (.lane c.lane position))
  s.notify (.placed (s.veh v).tag v c.lane position c.cls origin)

/-! ### The wait list (R51 to R54) -/

/-- A vehicle for which no lane was found joins the end of the wait list (R51). -/
def State.joinWaitList (s : State) (v : Slot) (origin : Origin) : State :=
  let s := { s with waitList := s.waitList ++ [WaitEntry.mk v origin s.ycs.minute] }
  let s := s.modVeh v fun r => { r with state := .inbound, location := .gate }
  (s.raise .noBerth).notify (.noBerth (s.veh v).tag v origin s.waitList.length)

/-- The try of one wait-list entry: placed with the entry's origin, or nothing (R53). -/
def State.tryWaiting (s : State) (w : WaitEntry) : State :=
  match s.placement w.slot with
  | some c => s.reserve w.slot c w.origin
  | none => s

/-- The wait-list retry: one pass, front to back, over the list as it stands when it begins (R53). -/
def State.retry (s : State) : State := forEach s.waitList (fun w s => s.tryWaiting w) s

/-- A placement request from the FS or the STC (R39, R40, R51). -/
def State.requestPlacement (s : State) (v : Slot) (origin : Origin) : State :=
  if ((s.veh v).state = .inbound || (s.veh v).state = .service) && !s.inSomeLane v then
    match s.waitList.find? fun w => w.slot = v with
    | some w => s.tryWaiting w
    | none =>
      match s.placement v with
      | some c => s.reserve v c origin
      | none => s.joinWaitList v origin
  else s.yardConflict v (s.veh v).state causePlacement

/-! ### Shunt placement (R56) -/

/-- The shunt reservation of blocker `b` of lane `o` in a chosen lane, one change (R56). -/
def State.reserveShunt (s : State) (b : Slot) (o : LaneNo) (c : Choice) : State :=
  let position := s.joinPosition c.lane
  let s := s.addAtJoinEnd c.lane ⟨b, .expected, none⟩
  let s := s.modVeh b fun r =>
    { r with shift := true, state := .toBerth, location := .lane o .present (some c.lane) }
  let s := s.recheckChargers
  let s := s.direct (s.lane o).cfg.mouth .sign (signPayload (s.veh b).tag (.lane c.lane position))
  s.notify (.placed (s.veh b).tag b c.lane position c.cls .shunt)

end Sys2Proof.Machine
end

