-- ==== Sys2Proof/Machine/Plan.lean ====
section
/-! DEFINITION. The departure plan: bindings (R112), the exchange of the banks (R116, R118, R119), and the ways a row
loses its bus (R13, R16, R18, R124, R144, R145). -/

namespace Sys2Proof.Machine

/-- Whether a row binds a bus as R112 counts it: in state BOUND or CALLED. -/
def PlanRow.binds (r : PlanRow) (v : Slot) : Bool := (r.state = .bound || r.state = .called) && r.bound = some v

/-- Whether the ACTIVE bank holds a CALLED row (R117). -/
def State.anyCalled (s : State) : Bool := s.ds.active.any fun r => r.state = .called

/-- Clear a bus's bound row field (R112). -/
def State.clearBinding (s : State) (v : Slot) : State := s.modVeh v fun r => { r with boundRow := none }

/-- A shift step is owed to a lane that may be absent. -/
def State.oweStepAt (s : State) : Option LaneNo → State
  | some l => s.oweStep l
  | none => s

/-- A row back to PLANNED, unbound: bound slot and BLOCKED mark cleared, the carried mark dropped, the call minute,
origin lane and LOW_ENERGY mark kept (R124, R128, R144, R145). -/
def PlanRow.unplanned (r : PlanRow) : PlanRow :=
  { r with state := .planned, bound := none, blocked := false, carried := false }

/-- The row of a vehicle in state BOUND returns to PLANNED, unbound, and the vehicle's bound row field is cleared (R13,
R16, R18, R124). -/
def State.unbindBound (s : State) (v : Slot) : State :=
  match (s.veh v).boundRow with
  | none => s
  | some i =>
    match s.row i with
    | some r => if r.state = .bound then (s.modRow i PlanRow.unplanned).clearBinding v else s
    | none => s

/-- The call of a bus is undone: its CALLED row returns to PLANNED, unbound, and its origin lane is owed a shift step
(R144, R145). -/
def State.undoCall (s : State) (v : Slot) : State :=
  match (s.veh v).boundRow with
  | none => s
  | some i =>
    match s.row i with
    | some r =>
      if r.state = .called then ((s.modRow i PlanRow.unplanned).clearBinding v).oweStepAt r.originLane else s
    | none => s

/-! ### The swap (R116 to R119) -/

/-- Whether keys stand in nondecreasing order. -/
def sortedKeys : List Nat → Bool
  | a :: b :: rest => a ≤ b && sortedKeys (b :: rest)
  | _ => true

/-- The slots that the BOUND rows of a bank name. -/
def boundSlots (bank : List PlanRow) : List Slot :=
  (bank.filter fun r => r.state = .bound).filterMap fun r => r.bound

/-- The STANDBY bank is valid for a swap (R116). -/
def validBank (bank : List PlanRow) : Bool :=
  sortedKeys (bank.map fun r => r.key) && (boundSlots bank).Nodup

/-- Step 2 of the exchange for one row (R118). -/
def State.dropHeld (s : State) (r : PlanRow) : PlanRow :=
  match r.state, r.bound with
  | .bound, some v => if (s.veh v).held then { r with state := .planned, bound := none } else r
  | _, _ => r

/-- The row of a bank that binds a slot in state BOUND. -/
def bindingRow (bank : List PlanRow) (v : Slot) : Option Nat :=
  let i := bank.findIdx fun r => r.state = .bound && r.bound = some v
  if i < bank.length then some i else none

/-- Step 3 of the exchange: every bound row field cleared, then set from the new ACTIVE bank (R118). -/
def State.rebuildBindings (s : State) : State :=
  forEach (upTo 256) (fun v s => s.modVeh v fun r => { r with boundRow := bindingRow s.ds.active v }) s

/-- The exchange, one change (R118). -/
def State.exchange (s : State) : State :=
  let s := { s with ds := { s.ds with active := s.ds.standby.map s.dropHeld, standby := [] } }
  let s := s.rebuildBindings.testAllLanes
  { s with ds := { s.ds with swap := .none } }

/-- A PENDING exchange is made when no ACTIVE row is CALLED any more (R119). -/
def State.exchangeIfDue (s : State) : State :=
  if s.ds.swap = .pending && !s.anyCalled then s.exchange else s

/-- SWAP_NOW (R117) after the check of the swap register. -/
def State.swapNow (s : State) : Outcome × State :=
  if !validBank s.ds.standby then (.conflict, s)
  else if s.anyCalled then (.ok, { s with ds := { s.ds with swap := .pending } })
  else (.ok, s.exchange)

/-- SWAP_AT_ROLLOVER (R117) after the check of the swap register. -/
def State.swapAtRollover (s : State) : Outcome × State :=
  if !validBank s.ds.standby then (.conflict, s) else (.ok, { s with ds := { s.ds with swap := .armed } })

/-- CANCEL_SWAP (R120). -/
def State.cancelSwap (s : State) : Outcome × State := (.ok, { s with ds := { s.ds with swap := .none } })

/-- A row made CANCELLED, its bus unbound (R123). -/
def PlanRow.cancelledRow (r : PlanRow) : PlanRow := { r with state := .cancelled, bound := none }

/-- CANCEL_ROW of a row number (R123). -/
def State.cancelRow (s : State) (i : Nat) : Outcome × State :=
  match s.row i with
  | none => (.range, s)
  | some r =>
    match r.state with
    | .planned | .short => (.ok, s.modRow i PlanRow.cancelledRow)
    | .bound =>
      (.ok, match r.bound with
        | some v => (s.modRow i PlanRow.cancelledRow).clearBinding v
        | none => s.modRow i PlanRow.cancelledRow)
    | .called | .gone | .missed => (.conflict, s)
    | .cancelled => (.ok, s)

end Sys2Proof.Machine
end

