-- ==== Sys2Proof/Machine/PullOut.lean ====
section
/-! DEFINITION. Pull-out: the shift procedure (R138 to R141), the call of a row (R132 to R137), the call scan (R127 to
R135), the rollover (R121, R122), and the end of an event: shift steps, then a pending exchange. -/

namespace Sys2Proof.Machine

/-! ### The shift procedure (R138, R139) -/

/-- The CALLED row, with its BLOCKED mark set, that binds a vehicle. -/
def State.blockedRowOf (s : State) (v : Slot) : Option Nat :=
  match (s.veh v).boundRow with
  | none => none
  | some i =>
    match s.row i with
    | some r => if r.state = .called && r.blocked then some i else none
    | none => none

/-- The BLOCKED rows whose buses stand in a lane, nearest the mouth first. -/
def State.blockedRowsIn (s : State) (l : LaneNo) : List Nat :=
  (s.lane l).entries.filterMap fun e => if e.standing = .present then s.blockedRowOf e.slot else none

/-- A CALL directive to the mouth display of a lane (R136). -/
def State.sendCall (s : State) (l : LaneNo) (block : Nat) (v : Slot) : State :=
  s.direct (s.lane l).cfg.mouth .call (callPayload block (s.veh v).tag)

/-- Check 1 of a shift step: a BLOCKED row's bus at the mouth is called out (R139). -/
def State.callAtMouth (s : State) (l : LaneNo) : State :=
  match (s.lane l).entries.head? with
  | none => s
  | some e =>
    if e.standing = .present then
      match s.blockedRowOf e.slot with
      | some i =>
        match s.row i with
        | some r => (s.modRow i fun r => { r with blocked := false }).sendCall l r.block e.slot
        | none => s
      | none => s
    else s

/-- Check 2 of a shift step: the shift of the lane's record still stands (R139). -/
def State.shiftStands (s : State) (l : LaneNo) : Bool :=
  match s.shiftRecord l with
  | .shifting b => s.presentIn l b
  | _ => false

/-- Whether entry 0 of a lane will clear by itself: a reservation, or a CALLED bus (check 4 of R139). -/
def State.clearsItself (s : State) (e : Entry) : Bool :=
  e.standing = .expected || (s.veh e.slot).state = .called

/-- The outcome NO_ROOM of a shift step: SHUNT_FULL is raised with its notice for a new blocker only (R139). -/
def State.shuntFull (s : State) (l : LaneNo) (c : Slot) (row : Nat) : State :=
  let known := s.shiftRecord l = .noRoom c
  let t := s.setShiftRecord l (.noRoom c)
  if known then t else (t.raise .shuntFull).notify (.shuntFull l (s.veh c).tag c row)

/-- Checks 3 to 5 of a shift step (R139). -/
def State.shiftEntry0 (s : State) (l : LaneNo) : State :=
  match s.blockedRowsIn l, (s.lane l).entries.head? with
  | row :: _, some e =>
    if s.clearsItself e then s.setShiftRecord l .idle
    else match s.shuntPlacement e.slot l with
      | some c => (s.reserveShunt e.slot l c).setShiftRecord l (.shifting e.slot)
      | none => s.shuntFull l e.slot row
  | _, _ => s.setShiftRecord l .idle

/-- A shift step for a lane (R139). -/
def State.shiftStep (s : State) (l : LaneNo) : State :=
  let s := s.callAtMouth l
  if s.shiftStands l then s else s.shiftEntry0 l

/-- The lowest lane that is owed a shift step. -/
def State.nextStep (s : State) : Option LaneNo := (upTo 32).find? fun l => l ∈ s.ds.stepDue

/-- The lane's owed step is about to be taken. -/
def State.dropStep (s : State) (l : LaneNo) : State :=
  { s with ds := { s.ds with stepDue := s.ds.stepDue.filter fun m => m ≠ l } }

/-- Take the owed shift steps, lowest lane first, each against what the step before it left; a step that reserves in a
shunt lane owes that lane a step (R140; log 14). Each reservation takes one vehicle out of PARKED, so 32 lanes and
256 vehicles bound the number of steps. -/
def State.shiftSteps (s : State) : Nat → State
  | 0 => s
  | fuel + 1 =>
    match s.nextStep with
    | some l => ((s.dropStep l).shiftStep l).shiftSteps fuel
    | none => s

/-- A bound on the shift steps of one event. -/
def stepFuel : Nat := 320

/-- What follows when an event's own handling is complete: its shift steps, then a pending exchange (R140, R119;
log 13). -/
def State.settle (s : State) : State := (s.shiftSteps stepFuel).exchangeIfDue

/-! ### The call of a row (R132 to R137) -/

/-- The energy test of a call (R133). -/
def lowOnEnergy (r : PlanRow) (v : Vehicle) : Bool :=
  v.propulsion = .electric && r.energy > 0 && storedEnergy v < r.energy

/-- The call of row `i`, whose bus `v` is PARKED at entry `k` of lane `l`, one change (R132, R137). DESIGN CHOICE (log 47):
the SETPOINT that withdraws the bus's grant (R90) goes into the FIFO before the CALL. -/
def State.callRow (s : State) (i : Nat) (r : PlanRow) (v : Slot) (l : LaneNo) (atCallTime : Bool) : State :=
  let k := s.entryIndex l v
  let low := lowOnEnergy r (s.veh v)
  let s := s.modRow i fun r =>
    { r with state := .called, bound := some v, callMinute := some s.ycs.minute, originLane := some l,
             lowEnergy := low, blocked := k ≠ 0, carried := false }
  let s := s.modVeh v fun x => { x with state := .called, boundRow := some i }
  let s := s.recheckChargers
  let s := if low then s.raise .lowEnergy else s
  let s := if k = 0 then s.sendCall l r.block v else s.raise .callBlocked
  let s := s.notify (.called i r.block r.key (s.veh v).tag l k low atCallTime)
  if k = 0 then s else (s.notify (.blocked i r.block (s.veh v).tag l k)).oweStep l

/-- A row becomes SHORT: ROW_SHORT is raised with its notice (R131, R135). -/
def State.makeShort (s : State) (i : Nat) (r : PlanRow) (released : Option (Nat × VehicleState)) : State :=
  ((s.modRow i fun r => { r with state := .short, bound := none }).raise .rowShort).notify
    (.short i r.block r.key released)

/-- Whether a propulsion meets a kind requirement (R134). -/
def kindMeets : KindReq → Propulsion → Bool
  | .any, _ => true
  | .diesel, p => p = .diesel
  | .electric, p => p = .electric

/-- Whether a length class meets a length requirement (R134). -/
def lengthMeets : LengthReq → LengthClass → Bool
  | .any, _ => true
  | .standard, c => c = .standard
  | .articulated, c => c = .articulated

/-- Whether a vehicle may be bound to a row at call time, its place apart (R134). -/
def fitsRow (r : PlanRow) (v : Vehicle) : Bool :=
  v.state = .parked && v.boundRow.isNone && !v.held && kindMeets r.kindReq v.propulsion
    && lengthMeets r.lengthReq v.length && !lowOnEnergy r v

/-- The candidate of a row at the mouth of a lane (R134). -/
def State.mouthCandidate (s : State) (r : PlanRow) (l : LaneNo) : Option Slot :=
  match (s.lane l).entries.head? with
  | some e => if e.standing = .present && fitsRow r (s.veh e.slot) then some e.slot else none
  | none => none

/-- Binding at call time: the candidate in the lowest-numbered lane (R134). -/
def State.seekBus (s : State) (r : PlanRow) : Option (Slot × LaneNo) :=
  (upTo 32).findSome? fun l => (s.mouthCandidate r l).map fun v => (v, l)

/-- A row taken by the window pass (R130, R131, R134, R135). -/
def State.takeRow (s : State) (i : Nat) (r : PlanRow) : State :=
  match r.state, r.bound with
  | .bound, some v =>
    if (s.veh v).state = .parked then
      match s.presentLane v with
      | some l => s.callRow i r v l false
      | none => s
    else (s.clearBinding v).makeShort i r (some ((s.veh v).tag, (s.veh v).state))
  | .planned, _ =>
    match s.seekBus r with
    | some (v, l) => s.callRow i r v l true
    | none => s.makeShort i r none
  | .short, _ =>
    match s.seekBus r with
    | some (v, l) => s.callRow i r v l true
    | none => s
  | _, _ => s

/-! ### The call scan (R126 to R130) -/

/-- Whether a row's call window contains the minute (R126). -/
def State.windowOpen (s : State) (r : PlanRow) : Bool :=
  r.key ≤ s.ycs.minute + s.ss.params.callLead && s.ycs.minute ≤ r.key + s.ss.params.departureGrace

/-- Whether a row passes its departure grace (R128, R129). -/
def State.withinGrace (s : State) (r : PlanRow) : Bool :=
  if r.state = .called && r.carried then s.ycs.minute ≤ s.ss.params.departureGrace
  else s.ycs.minute ≤ r.key + s.ss.params.departureGrace

/-- A row becomes MISSED; its bound slot stays as a record, BLOCKED and the carried mark are dropped (R121, R128). -/
def PlanRow.missedRow (r : PlanRow) : PlanRow := { r with state := .missed, blocked := false, carried := false }

/-- The tag of a row's bus, 0 if none (R193). -/
def State.rowTag (s : State) (r : PlanRow) : Nat :=
  match r.bound with
  | some v => (s.veh v).tag
  | none => 0

/-- ROW_MISSED is raised and a MISSED notice generated for a row (R121, R128, R129). -/
def State.reportMissed (s : State) (i : Nat) (r : PlanRow) (cause : MissCause) : State :=
  (s.raise .rowMissed).notify (.missed i r.block r.key (s.rowTag r) cause)

/-- A bus whose call has ended returns to PARKED, or becomes MOVING when it was DEPARTING (R128, R144). -/
def endedCall (v : Vehicle) : Vehicle :=
  match v.state with
  | .called => { v with state := .parked }
  | .departing => { v with state := .moving, location := .enRoute none }
  | _ => v

/-- A CALLED row fails its grace test (R128). -/
def State.missCalled (s : State) (i : Nat) (r : PlanRow) : State :=
  let s := s.modRow i PlanRow.missedRow
  let s := match r.bound with
    | some v => (s.clearBinding v).modVeh v endedCall
    | none => s
  (s.reportMissed i r .grace).oweStepAt r.originLane

/-- The grace test of one row; what follows its end of call is taken at once (R128, R129, R119; log 23). -/
def State.graceTest (s : State) (i : Nat) : State :=
  match s.row i with
  | none => s
  | some r =>
    if s.withinGrace r then s
    else match r.state with
      | .called => (s.missCalled i r).settle
      | .short => (s.modRow i PlanRow.missedRow).reportMissed i r .grace
      | _ => s

/-- Part 1 of the scan (R127). -/
def State.graceTests (s : State) : State := forEach (List.range s.ds.active.length) (fun i s => s.graceTest i) s

/-- The window pass at one row; each row is handled to the end before the next (R130). -/
def State.windowRow (s : State) (i : Nat) : State :=
  match s.row i with
  | none => s
  | some r => if s.windowOpen r then (s.takeRow i r).settle else s

/-- Part 2 of the scan, omitted while a swap is PENDING (R127, R119). -/
def State.windowPass (s : State) : State :=
  if s.ds.swap = .pending then s else forEach (List.range s.ds.active.length) (fun i s => s.windowRow i) s

/-- Part 3 of the scan: each lane in NO_ROOM takes a shift step, in ascending number (R127, R140). -/
def State.shiftRetries (s : State) : State :=
  (forEach (upTo 32) (fun l s => match s.shiftRecord l with
    | .noRoom _ => s.oweStep l
    | _ => s) s).settle

/-- A call scan, made while the clock is set (R127). -/
def State.callScan (s : State) : State := s.graceTests.windowPass.shiftRetries

/-! ### Rollover (R121, R122) -/

/-- A PLANNED, BOUND or SHORT row becomes MISSED at the rollover, and a CALLED row becomes carried (R121, R128). -/
def State.rollRow (s : State) (i : Nat) : State :=
  match s.row i with
  | none => s
  | some r =>
    match r.state with
    | .planned | .short => (s.modRow i PlanRow.missedRow).reportMissed i r .rollover
    | .bound =>
      let s := s.modRow i PlanRow.missedRow
      let s := match r.bound with
        | some v => s.clearBinding v
        | none => s
      s.reportMissed i r .rollover
    | .called => s.modRow i fun r => { r with carried := true }
    | _ => s

/-- Every row at the rollover (R121). R121 names no order; ascending row number is the model's choice, and orders the MISSED
notices (log 23). -/
def State.rollRows (s : State) : State := forEach (List.range s.ds.active.length) (fun i s => s.rollRow i) s

/-- An ARMED swap at the rollover (R122). -/
def State.armedSwap (s : State) : State :=
  if s.ds.swap = .armed then
    if validBank s.ds.standby then { s with ds := { s.ds with swap := .pending } }.exchangeIfDue
    else { s with ds := { s.ds with swap := .none } }.placeFault .swapInvalid
  else s

/-- The DS takes the minute advance (R121, R122, R127). The minute has been advanced already, so a rollover is an
advance that gave 0. -/
def State.departureAdvance (s : State) : State :=
  if s.ycs.clockSet then (if s.ycs.minute = 0 then s.rollRows.armedSwap else s).callScan
  else s.shiftRetries

end Sys2Proof.Machine
end

