-- ==== Sys2Proof/Machine/Service.lean ====
section
/-! DEFINITION. The Service Turn Controller: queues (R60), ticket requests and stages (R61, R62), choosing and calling
(R66 to R68), wash skipping (R69), and what ends a bay's turn (R70 to R77). -/

namespace Sys2Proof.Machine

/-! ### Tickets and queues (R59, R60) -/

/-- A ticket's waiting time, counted forward modulo 1440 (R59). -/
def State.waiting (s : State) (t : Ticket) : Nat :=
  (s.ycs.minute + Config.dayMinutes - t.join) % Config.dayMinutes

/-- Whether ticket `t` stands in front of ticket `u`: greater waiting time, then lower slot (R60). -/
def State.standsBefore (s : State) (t u : Ticket) : Bool :=
  s.waiting t > s.waiting u || (s.waiting t = s.waiting u && t.slot < u.slot)

/-- Put a ticket at its place in an ordered list of tickets (R60). -/
def State.insertTicket (s : State) (t : Ticket) : List Ticket → List Ticket
  | [] => [t]
  | u :: rest => if s.standsBefore t u then t :: u :: rest else u :: s.insertTicket t rest

/-- The tickets of a queue that a minute advance brings to a waiting time of 0: they joined 1440 minutes before, counted
modulo 1440, so they go behind the tickets that have waited longer (R59, R60; log 15). -/
def State.requeueWrapped (s : State) (k : QueueKind) : State :=
  let wrapped := (s.queue k).filter fun t => s.waiting t = 0
  let others := (s.queue k).filter fun t => s.waiting t ≠ 0
  s.setQueue k (wrapped.foldl (fun q t => s.insertTicket t q) others)

/-- A ticket enters, or re-enters, the queue of its kind in state WAITING, and its vehicle is SERVICE with location
QUEUE (R60, R61). -/
def State.enqueue (s : State) (t : Ticket) : State :=
  let t := { t with state := .waiting }
  (s.setQueue t.kind (s.insertTicket t (s.queue t.kind))).modVeh t.slot fun r =>
    { r with state := .service, location := .queue t.kind }

/-- Take a vehicle's ticket out of a queue (R60). -/
def State.dequeue (s : State) (k : QueueKind) (v : Slot) : State :=
  s.setQueue k ((s.queue k).filter fun t => t.slot ≠ v)

/-- A vehicle's WAITING ticket of a kind. -/
def State.waitingTicket (s : State) (k : QueueKind) (v : Slot) : Option Ticket :=
  (s.queue k).find? fun t => t.slot = v

/-- Whether a bay holds a ticket of a vehicle. -/
def State.bayHolds (s : State) (b : BayNo) (v : Slot) : Bool :=
  match (s.bay b).ticket with
  | some t => t.slot = v
  | none => false

/-- Whether a vehicle holds a live ticket (R59). -/
def State.hasTicket (s : State) (v : Slot) : Bool :=
  (s.waitingTicket .fuel v).isSome || (s.waitingTicket .wash v).isSome || (upTo 6).any fun b => s.bayHolds b v

/-- Live tickets of a kind: those in the queue and those held by bays (R60). -/
def State.liveTickets (s : State) (k : QueueKind) : Nat :=
  (s.queue k).length + ((upTo 6).filter fun b => match (s.bay b).ticket with
    | some t => t.kind = k
    | none => false).length

/-! ### Choosing and calling (R66 to R68) -/

/-- Whether a bay is eligible for a choice (R66). -/
def State.eligible (s : State) (b : BayNo) : Bool := (s.bay b).state = .free && s.heard (s.bay b).cfg.unit

/-- Whether a ticket is lifted (R67): its bound key lies from the current minute to the minute plus the priority
horizon, the clock being set. -/
def State.lifted (s : State) (t : Ticket) : Bool :=
  s.ycs.clockSet && match s.boundPlan t.slot with
    | some r => s.ycs.minute ≤ r.key && r.key ≤ s.ycs.minute + s.ss.params.priorityHorizon
    | none => false

/-- The lifted ticket with the smallest key, the first in the queue among equals (R67 tier 1; log 15). -/
def State.bestLifted (s : State) (q : List Ticket) : Option Ticket :=
  (q.filter s.lifted).foldl (fun best t => match best with
    | none => some t
    | some b => if s.key t.slot < s.key b.slot then some t else some b) none

/-- The ticket a choice takes from a queue (R67). -/
def State.chosen (s : State) (q : List Ticket) : Option Ticket := (s.bestLifted q).orElse fun _ => q.head?

/-- The chosen ticket is called to a bay, one change (R68). -/
def State.callToBay (s : State) (b : BayNo) (t : Ticket) : State :=
  let s := s.dequeue t.kind t.slot
  let s := s.modBay b fun r =>
    { r with ticket := some { t with state := .calledToBay }, state := .calling, callMinute := s.ycs.minute,
             faultCount := 0, overstay := false, noShowTimer := some s.ss.params.noShowTimeout }
  let s := s.modVeh t.slot fun r => { r with location := .bay b }
  s.direct (s.bay b).cfg.display .sign (signPayload (s.veh t.slot).tag (.bay b))

/-- A ticket choice at a bay (R66, R67): nothing when the bay is not eligible or its queue is empty. -/
def State.choose (s : State) (b : BayNo) : State :=
  if s.eligible b then
    match s.chosen (s.queue (s.bay b).cfg.kind) with
    | some t => s.callToBay b t
    | none => s
  else s

/-- A ticket choice at every bay of a kind, in ascending number (R66). -/
def State.chooseKind (s : State) (k : QueueKind) : State :=
  forEach (upTo 6) (fun b s => if (s.bay b).cfg.kind = k then s.choose b else s) s

/-- A ticket choice at every bay, in ascending number (R66: minute advance, LOAD). -/
def State.chooseAll (s : State) : State := forEach (upTo 6) (fun b s => s.choose b) s

/-- Whether an event with state `before` in front of it has put a ticket into the queue of a kind (R66). -/
def State.joined (before s : State) (k : QueueKind) : Bool := (before.queue k).length < (s.queue k).length

/-- The ticket choices of one event, `before` being the state in front of it: at the bay it made FREE and at the bays of
each kind whose queue a ticket joined, in ascending number over both kinds, each against the queue as the previous choice
left it (R66). -/
def State.chooseDue (s before : State) (freed : Option BayNo) : State :=
  forEach (upTo 6)
    (fun b t => if freed = some b || before.joined s (s.bay b).cfg.kind then t.choose b else t) s

/-! ### Ticket requests and stages (R61, R62) -/

/-- A ticket request (R61). `skipped` sends the vehicle on when its queue is full. The choices that an issued ticket
calls for are made by `State.chooseDue` at the end of the event, which may free a bay as well (R66). -/
def State.requestTicket (s : State) (v : Slot) (k : QueueKind) (skipped : State → State) : State :=
  if s.hasTicket v then s.yardConflict v (s.veh v).state causeTicket
  else if s.liveTickets k ≥ Config.ticketCapacity then skipped (s.raise .queueFull)
  else s.enqueue { slot := v, kind := k, join := s.ycs.minute }

/-- A WASH ticket is requested; a full queue sends the vehicle to placement (R61, R62). -/
def State.requestWash (s : State) (v : Slot) (origin : Origin) : State :=
  s.requestTicket v .wash fun s => s.requestPlacement v origin

/-- Where a vehicle goes when its FUEL stage ends (R62). -/
def State.afterFuel (s : State) (v : Slot) (origin : Origin) : State :=
  if (s.veh v).washCounter ≥ s.ss.params.washInterval then s.requestWash v origin
  else s.requestPlacement v origin

/-- A FUEL ticket is requested; a full queue sends the vehicle on as though fuelled (R61, R62). -/
def State.requestFuel (s : State) (v : Slot) (origin : Origin) : State :=
  s.requestTicket v .fuel fun s => s.afterFuel v origin

/-- A stage has ended, done, skipped or dropped: the vehicle's next stage (R62). -/
def State.stageEnded (s : State) (v : Slot) (k : QueueKind) : State :=
  match k with
  | .fuel => s.afterFuel v .serviceExit
  | .wash => s.requestPlacement v .serviceExit

/-! ### Bays giving up and taking tickets (R64) -/

/-- A bay gives up its ticket and takes a state without one: every timer stopped, fault count 0, overstay mark clear
(R64). -/
def State.releaseBay (s : State) (b : BayNo) (state : BayState) : State :=
  s.modBay b fun r =>
    { r with state := state, ticket := none, faultCount := 0, overstay := false,
             noShowTimer := none, retryTimer := none, overstayTimer := none }

/-- The overstay limit of a bay's kind (R77). -/
def overstayLimit (p : Params) : QueueKind → Nat
  | .fuel => p.overstayFuel
  | .wash => p.overstayWash

/-- The wash programme a BAY_START carries: the vehicle's for a WASH bay, 0 for a FUEL bay (R70, R75). -/
def State.programme (s : State) (b : BayNo) (v : Slot) : Nat :=
  match (s.bay b).cfg.kind with
  | .fuel => 0
  | .wash => (s.veh v).washProgramme

/-- BAY_START for a bay's unit station (R70, R75). -/
def State.startBay (s : State) (b : BayNo) (v : Slot) : State :=
  s.direct (s.bay b).cfg.unit .bayStart (bayStartPayload (s.programme b v))

/-- A bay begins to serve a ticket that it now holds IN_BAY (R70, first case; R71). -/
def State.serve (s : State) (b : BayNo) (t : Ticket) : State :=
  let s := s.modBay b fun r =>
    { r with ticket := some { t with state := .inBay }, state := .busy, noShowTimer := none,
             overstayTimer := some (overstayLimit s.ss.params r.cfg.kind) }
  let s := s.modVeh t.slot fun r => { r with location := .bay b }
  s.startBay b t.slot

/-- A bay takes the WAITING ticket of a vehicle that drove in (R70 second case, R71): a new ticket, so the fault count
is 0 and the overstay mark clear (R64). -/
def State.serveWaiting (s : State) (b : BayNo) (t : Ticket) : State :=
  let s := s.dequeue t.kind t.slot
  (s.modBay b fun r => { r with faultCount := 0, overstay := false }).serve b t

/-- A called ticket returns to WAITING with its join minute and no-show count unchanged (R70, R76, R79). -/
def State.returnTicket (s : State) (b : BayNo) : State :=
  match (s.bay b).ticket with
  | some t => s.enqueue t
  | none => s

/-! ### Bay reports (R70 to R76) -/

/-- A BAY_ARRIVE of a known vehicle (R70, R71). -/
def State.bayArrive (s : State) (b : BayNo) (v : Slot) : State :=
  let kind := (s.bay b).cfg.kind
  match (s.bay b).state with
  | .calling =>
    match (s.bay b).ticket, s.waitingTicket kind v with
    | some t, waiting =>
      if t.slot = v then s.serve b t
      else match waiting with
        | some w => ((s.returnTicket b).serveWaiting b w).chooseKind kind
        | none => s.raise .bayIntruder
    | none, _ => s.raise .bayIntruder
  | .free =>
    match s.waitingTicket kind v with
    | some w => s.serveWaiting b w
    | none => s.raise .bayIntruder
  | .busy | .faultWait => if s.bayHolds b v then s else s.raise .bayIntruder
  | .out | .closed => s.raise .bayIntruder

/-- A completed wash sets the wash counter to 0 (R2, R73). -/
def State.washDone (s : State) (b : BayNo) (v : Slot) : State :=
  match (s.bay b).cfg.kind with
  | .fuel => s
  | .wash => s.modVeh v fun r => { r with washCounter := 0 }

/-- A BAY_DONE (R73): the bay is FREE and its vehicle sent on, and the choices of both follow, by bay number (R66). -/
def State.bayDone (s : State) (b : BayNo) : State :=
  match (s.bay b).state, (s.bay b).ticket with
  | .busy, some t | .faultWait, some t =>
    let u := s.modBay b fun r => { r with ticket := none, retryTimer := none, overstayTimer := none }
    (((u.washDone b t.slot).stageEnded t.slot t.kind).releaseBay b .free).chooseDue s (some b)
  | _, _ => s

/-- A bay is latched OUT: BAY_OUT is raised with its notice (R74, R76, R78). -/
def State.latchOut (s : State) (b : BayNo) (cause : BayOutCause) (tag : Nat) : State :=
  ((s.releaseBay b .out).raise .bayOut).notify (.bayOut b cause tag)

/-- A fault after a retry, or while one is awaited: the service is skipped and the bay goes OUT (R74). -/
def State.secondFault (s : State) (b : BayNo) (t : Ticket) : State :=
  let u := s.modBay b fun r => { r with ticket := none, retryTimer := none, overstayTimer := none }
  ((u.stageEnded t.slot t.kind).latchOut b .serviceFault (s.veh t.slot).tag).chooseDue s none

/-- A BAY_FAULT (R74, R76). -/
def State.bayFault (s : State) (b : BayNo) : State :=
  match (s.bay b).state, (s.bay b).ticket with
  | .busy, some t =>
    if (s.bay b).faultCount = 0 then
      s.modBay b fun r =>
        { r with faultCount := 1, state := .faultWait, retryTimer := some s.ss.params.retryDelay }
    else s.secondFault b t
  | .faultWait, some t => s.secondFault b t
  | .calling, some t =>
    ((s.returnTicket b).latchOut b .callFault (s.veh t.slot).tag).chooseKind (s.bay b).cfg.kind
  | _, _ => s

/-! ### Timers (R72, R75, R77) -/

/-- The no-show timer of a bay expires (R72): the bay is FREE, its ticket WAITING again or its vehicle sent on, and the
choices of both follow, by bay number (R66). -/
def State.noShow (s : State) (b : BayNo) : State :=
  match (s.bay b).state, (s.bay b).noShowTimer, (s.bay b).ticket with
  | .calling, some _, some t =>
    if t.noShows = 0 then
      ((s.enqueue { t with join := s.ycs.minute, noShows := 1 }).releaseBay b .free).chooseDue s (some b)
    else
      let u := s.modBay b fun r => { r with ticket := none, noShowTimer := none }
      let u := (u.raise .bayNoShow).notify (.bayNoShow b (s.veh t.slot).tag t.slot t.kind)
      ((u.stageEnded t.slot t.kind).releaseBay b .free).chooseDue s (some b)
  | _, _, _ => s

/-- The retry timer of a bay expires (R75). -/
def State.retryBay (s : State) (b : BayNo) : State :=
  match (s.bay b).state, (s.bay b).retryTimer, (s.bay b).ticket with
  | .faultWait, some _, some t =>
    (s.modBay b fun r => { r with state := .busy, retryTimer := none }).startBay b t.slot
  | _, _, _ => s

/-- The overstay timer of a bay expires (R77). It runs once for each ticket. -/
def State.overstayed (s : State) (b : BayNo) : State :=
  match (s.bay b).overstayTimer with
  | none => s
  | some _ =>
    let marked := (s.bay b).overstay
    let s := s.modBay b fun r => { r with overstayTimer := none, overstay := true }
    if marked then s else s.raise .overstay

/-! ### Wash skipping (R69) -/

/-- Whether a WAITING WASH ticket is withdrawn: its bound key less the current minute is below the margin (R69). -/
def State.washTooLate (s : State) (t : Ticket) : Bool :=
  match s.boundPlan t.slot with
  | some r => r.key < s.ycs.minute + s.ss.params.washSkipMargin
  | none => false

/-- The skip examination of a minute advance (R69), in queue order. -/
def State.skipWashes (s : State) : State :=
  if s.ycs.clockSet then
    forEach (s.stc.washQueue.filter s.washTooLate)
      (fun t s => ((s.dequeue .wash t.slot).raise .washSkipped).stageEnded t.slot .wash) s
  else s

/-- The STC takes the minute advance: the wash skip, then a choice at every eligible FREE bay (R66, R69). -/
def State.serviceAdvance (s : State) : State := s.skipWashes.chooseAll

/-! ### Bay orders (R79) -/

/-- OPEN_BAY (R79): the outcome and the state. -/
def State.openBay (s : State) (b : BayNo) : Outcome × State :=
  match (s.bay b).state with
  | .free | .calling | .busy | .faultWait => (.ok, s)
  | .out => (.conflict, s)
  | .closed => (.ok, (s.releaseBay b .free).choose b)

/-- CLOSE_BAY (R79). -/
def State.closeBay (s : State) (b : BayNo) : Outcome × State :=
  match (s.bay b).state with
  | .free | .out => (.ok, s.releaseBay b .closed)
  | .calling => (.ok, ((s.returnTicket b).releaseBay b .closed).chooseKind (s.bay b).cfg.kind)
  | .busy | .faultWait => (.busy, s)
  | .closed => (.ok, s)

/-- CLEAR_BAY (R79). -/
def State.clearBay (s : State) (b : BayNo) : Outcome × State :=
  match (s.bay b).state with
  | .free => (.ok, s)
  | .calling | .busy | .faultWait => (.busy, s)
  | .out => (.ok, (s.releaseBay b .free).choose b)
  | .closed => (.conflict, s)

/-! ### Withdrawal (R10) -/

/-- A vehicle's ticket is removed from the bay that holds it, which becomes FREE and chooses (R10). -/
def State.withdrawFromBay (s : State) (b : BayNo) (v : Slot) : State :=
  if s.bayHolds b v then (s.releaseBay b .free).choose b else s

/-- A vehicle's ticket is removed wherever it stands (R10). -/
def State.withdrawTicket (s : State) (v : Slot) : State :=
  let s := (s.dequeue .fuel v).dequeue .wash v
  forEach (upTo 6) (fun b s => s.withdrawFromBay b v) s

end Sys2Proof.Machine
end

