-- ==== Sys2Proof/Machine/Yard.lean ====
section
/-! DEFINITION. The Fleet Store and the Yard Map acting on reports and vehicle orders: withdrawal (R10), gate-in and
gate-out (R7 to R14, R143), HOLD and UNHOLD (R16, R124, R144), YARD_SET (R17, R18), lane entry, lane exit and arrival
timeout (R28 to R34). -/

namespace Sys2Proof.Machine

/-! ### Withdrawal (R10) -/

/-- Withdraw a vehicle from every place it stands in but an entry in a lane it is to keep. A removal from a lane list
causes a retry when the withdrawal is complete (R10). A grant held for the vehicle falls with its PRESENT entry (R23,
R90). -/
def State.withdraw (s : State) (v : Slot) (keep : Option LaneNo) : State :=
  let held := (upTo 32).any fun l => keep ≠ some l && (s.entry l v).isSome
  let t := (((s.removeEntries v keep).withdrawTicket v).leaveWaitList v).modVeh v fun r =>
    { r with misorder := false, shift := false }
  if held then t.retry else t

/-! ### Gate (R8 to R14, R143) -/

/-- The changes of R8: an OUT vehicle comes in. -/
def State.enterYard (s : State) (v : Slot) : State :=
  s.modVeh v fun r =>
    { r with state := .inbound, location := .gate, arrival := s.ycs.minute, washCounter := min 7 (r.washCounter + 1),
             lastSoc := none, misorder := false, shift := false }

/-- The first stage of an entering vehicle (R9). -/
def State.firstStage (s : State) (v : Slot) : State :=
  match (s.veh v).propulsion with
  | .diesel => s.requestFuel v .gate
  | .electric =>
    if (s.veh v).washCounter ≥ s.ss.params.washInterval then s.requestWash v .gate
    else s.requestPlacement v .gate

/-- A vehicle passes the gate inbound: R8, then R9, then the choices for a ticket it was issued (R61, R66). -/
def State.enter (s : State) (v : Slot) : State := ((s.enterYard v).firstStage v).chooseDue s none

/-- Whether a vehicle is CALLED or DEPARTING. -/
def onCall (r : Vehicle) : Bool := r.state = .called || r.state = .departing

/-- A GATE_IN of a known vehicle (R8, R9, R11). A bay that the withdrawal frees chooses within it, before the entry (log 43). -/
def State.gateIn (s : State) (v : Slot) : State :=
  if (s.veh v).state = .out then s.enter v
  else
    let call := onCall (s.veh v)
    let s := s.yardConflict v (s.veh v).state kindGateIn.toNat
    let s := s.withdraw v none
    (if call then s.undoCall v else s).enter v

/-- A vehicle becomes OUT with location NONE. -/
def State.setOut (s : State) (v : Slot) : State := s.modVeh v fun r => { r with state := .out, location := .none }

/-- A row made GONE: the slot stays as a record (R143). -/
def PlanRow.goneRow (r : PlanRow) : PlanRow := { r with state := .gone, blocked := false, carried := false }

/-- GATE_OUT of a bus on call completes the call (R12, R143). -/
def State.completeCall (s : State) (v : Slot) : State :=
  let s := s.withdraw v none
  match (s.veh v).boundRow with
  | none => s.setOut v
  | some i =>
    match s.row i with
    | none => (s.setOut v).clearBinding v
    | some r =>
      let s := ((s.modRow i PlanRow.goneRow).setOut v).clearBinding v
      (s.notify (.gone i r.block (s.veh v).tag s.ycs.minute)).oweStepAt r.originLane

/-- A GATE_OUT of a known vehicle (R12 to R14). -/
def State.gateOut (s : State) (v : Slot) : State :=
  if (s.veh v).state = .out then s.yardConflict v .out kindGateOut.toNat
  else if onCall (s.veh v) then s.completeCall v
  else ((((s.raise .unscheduledExit).withdraw v none).unbindBound v).setOut v)

/-! ### Vehicle orders (R16 to R18) -/

/-- HOLD of a slot (R16, R124, R144). -/
def State.hold (s : State) (v : Slot) : Outcome × State :=
  if (s.veh v).tag = 0 then (.conflict, s)
  else if (s.veh v).held then (.ok, s)
  else
    let call := onCall (s.veh v)
    let s := s.modVeh v fun r => { r with held := true }
    (.ok, if call then (s.undoCall v).modVeh v endedCall else s.unbindBound v)

/-- UNHOLD of a slot (R16). -/
def State.unhold (s : State) (v : Slot) : Outcome × State :=
  if (s.veh v).tag = 0 then (.conflict, s) else (.ok, s.modVeh v fun r => { r with held := false })

/-- YARD_SET of a slot to a lane (R17). -/
def State.yardSet (s : State) (v : Slot) (l : LaneNo) : Outcome × State :=
  if (s.veh v).tag = 0 then (.conflict, s)
  else if onCall (s.veh v) then (.conflict, s)
  else if (s.entry l v).isSome then (.conflict, s)
  else if s.room l < s.units v then (.conflict, s)
  else
    let wasOut := (s.veh v).state = .out
    let s := s.addAtTail l ⟨v, .present, none⟩
    let s := s.withdraw v (some l)
    let s := if wasOut then s.modVeh v fun r => { r with arrival := s.ycs.minute } else s
    let s := s.modVeh v fun r => { r with state := .parked, location := .lane l .present none }
    (.ok, s.testLane l)

/-- YARD_SET OUT of a slot (R18). -/
def State.yardSetOut (s : State) (v : Slot) : Outcome × State :=
  if (s.veh v).tag = 0 then (.conflict, s)
  else if onCall (s.veh v) then (.conflict, s)
  else if (s.veh v).state = .out then (.ok, s)
  else (.ok, ((s.withdraw v none).unbindBound v).setOut v)

/-! ### Lane entry (R29 to R31) -/

/-- Make an EXPECTED entry PRESENT in a list of a THROUGH lane: it goes to the place of the first EXPECTED entry, and
each EXPECTED entry from there to its old place goes to the place of the next one; PRESENT entries keep their places
(R29). `carry` is what the next EXPECTED place takes. -/
def arriveThrough (v : Slot) (carry : Entry) : List Entry → List Entry
  | [] => []
  | e :: rest =>
    match e.standing with
    | .present => e :: arriveThrough v carry rest
    | .expected => carry :: (if e.slot = v then rest else arriveThrough v e rest)

/-- Make an EXPECTED entry PRESENT (R29): by lane kind. -/
def arrive (kind : LaneKind) (v : Slot) (entries : List Entry) : List Entry :=
  match kind with
  | .through => arriveThrough v ⟨v, .present, none⟩ entries
  | .deadEnd => ⟨v, .present, none⟩ :: entries.filter fun e => e.slot ≠ v

/-- A vehicle stands PRESENT in a lane: PARKED, shift mark cleared, and the lane is tested (R29, R30, R25). -/
def State.parkIn (s : State) (v : Slot) (l : LaneNo) : State :=
  (s.modVeh v fun r => { r with state := .parked, location := .lane l .present none, shift := false }).testLane l

/-- The reserved vehicle enters its lane (R29, first case). -/
def State.takeReservation (s : State) (v : Slot) (l : LaneNo) : State :=
  (s.writeEntries l (arrive (s.lane l).cfg.kind v (s.lane l).entries)).parkIn v l

/-- LANE_ENTRY of a vehicle with an entry in the lane (R29). A removal in the blocker's own lane is followed by its
retry when the handling is complete (R27). -/
def State.entryKnown (s : State) (v : Slot) (l : LaneNo) (e : Entry) (before : VehicleState) : State :=
  match e.standing with
  | .present => s
  | .expected =>
    match s.presentLane v with
    | some o =>
      let s := s.yardConflict v before kindLaneEntry.toNat
      ((s.removeEntry o v).takeReservation v l).retry
    | none => s.takeReservation v l

/-- What LANE_ENTRY raises of a vehicle that joins a lane, by its state before the report (R30 step 3). -/
def State.joinFlags (s : State) (v : Slot) (l : LaneNo) (r : Vehicle) (before : VehicleState) : State :=
  match r.state, r.location with
  | .toBerth, .lane _ .expected _ => s.raise .wrongLane
  | .toBerth, _ => (s.raise .wrongLane).yardConflict v before kindLaneEntry.toNat
  | .moving, .enRoute (some t) => if t = l then s else s.raise .wrongLane
  | .moving, _ => s
  | _, _ => s.yardConflict v before kindLaneEntry.toNat

/-- LANE_ENTRY of a vehicle with no entry in a lane that has room: it joins (R30). -/
def State.entryJoins (s : State) (v : Slot) (l : LaneNo) (before : VehicleState) : State :=
  let r := s.veh v
  let s := match (s.lane l).cfg.kind with
    | .through => s.addAtTail l ⟨v, .present, none⟩
    | .deadEnd => s.writeEntries l (⟨v, .present, none⟩ :: (s.lane l).entries)
  let s := s.withdraw v (some l)
  let s := s.joinFlags v l r before
  let s := if onCall r then s.undoCall v else s
  s.parkIn v l

/-- LANE_ENTRY of a vehicle with no entry in a lane without room: it becomes LOST (R31, R15). -/
def State.entryLost (s : State) (v : Slot) (before : VehicleState) : State :=
  let call := onCall (s.veh v)
  let s := s.withdraw v none
  let s := if call then s.undoCall v else s
  let s := s.modVeh v fun r => { r with state := .lost, location := .none, misorder := false, shift := false }
  s.yardConflict v before kindLaneEntry.toNat

/-- A LANE_ENTRY that reaches the yard map; `before` is the vehicle's state before the report (R29 to R31; log 20). -/
def State.laneEntered (s : State) (v : Slot) (l : LaneNo) (before : VehicleState) : State :=
  match s.entry l v with
  | some e => s.entryKnown v l e before
  | none => if s.units v ≤ s.room l then s.entryJoins v l before else s.entryLost v before

/-- A vehicle that is OUT is brought in by a lane report (R7). -/
def State.bringIn (s : State) (v : Slot) (cause : Nat) : State :=
  (s.modVeh v fun r => { r with state := .moving, location := .enRoute none, arrival := s.ycs.minute }).yardConflict v
    .out cause

/-- A LANE_ENTRY of a known vehicle (R7, then R29 to R31). -/
def State.laneEntry (s : State) (v : Slot) (l : LaneNo) : State :=
  match (s.veh v).state with
  | .lost => s.yardConflict v .lost kindLaneEntry.toNat
  | .out => (s.bringIn v kindLaneEntry.toNat).laneEntered v l .out
  | st => s.laneEntered v l st

/-! ### Lane exit (R32, R33) -/

/-- The state and location of a vehicle after its exit at the mouth (R32). -/
def afterMouthExit (r : Vehicle) : Vehicle :=
  match r.state, r.location with
  | .called, _ => { r with state := .departing, location := .enRoute none }
  | .toBerth, .lane _ _ (some sh) => { r with location := .lane sh .expected none }
  | _, _ => { r with state := .moving, location := .enRoute none }

/-- The arrival timer of a shunt reservation starts at the blocker's exit (R26, R32). -/
def State.startShuntTimer (s : State) (v : Slot) : State :=
  match (s.veh v).state, (s.veh v).location with
  | .toBerth, .lane sh .expected _ =>
    s.modLane sh fun r => { r with entries := r.entries.map fun e =>
      if e.slot = v then { e with timer := some s.ss.params.arrivalTimeout } else e }
  | _, _ => s

/-- LANE_EXIT of the vehicle of the PRESENT entry 0 (R32). -/
def State.exitAtMouth (s : State) (v : Slot) (l : LaneNo) : State :=
  ((((s.removeEntry l v).modVeh v afterMouthExit).startShuntTimer v).recheckChargers).retry

/-- The target of a vehicle whose PRESENT entry is removed away from the mouth: a blocker's shunt lane (R33, R5). -/
def shuntTarget : Location → Option LaneNo
  | .lane _ .present shunt => shunt
  | _ => none

/-- A vehicle becomes MOVING with location EN_ROUTE. -/
def State.setMoving (s : State) (v : Slot) (target : Option LaneNo) : State :=
  s.modVeh v fun r => { r with state := .moving, location := .enRoute target }

/-- LANE_EXIT of a PRESENT entry other than entry 0 (R33): one retry after the last removal (R27). -/
def State.exitFromInside (s : State) (v : Slot) (l : LaneNo) : State :=
  let target := shuntTarget (s.veh v).location
  let call := (s.veh v).state = .called
  let s := s.removeEntry l v
  let s := match target with
    | some sh => s.removeEntry sh v
    | none => s
  let s := if call then s.undoCall v else s
  ((s.setMoving v target).recheckChargers).retry

/-- A LANE_EXIT that reaches the yard map (R32, R33). -/
def State.laneExited (s : State) (v : Slot) (l : LaneNo) (before : VehicleState) : State :=
  match s.entry l v with
  | none => s.yardConflict v before kindLaneExit.toNat
  | some e =>
    match e.standing with
    | .present =>
      if s.entryIndex l v = 0 then s.exitAtMouth v l
      else (s.yardConflict v before kindLaneExit.toNat).exitFromInside v l
    | .expected => ((s.yardConflict v before kindLaneExit.toNat).withdraw v none).setMoving v none

/-- A LANE_EXIT of a known vehicle (R7, then R32, R33). -/
def State.laneExit (s : State) (v : Slot) (l : LaneNo) : State :=
  match (s.veh v).state with
  | .out => (s.bringIn v kindLaneExit.toNat).laneExited v l .out
  | st => s.laneExited v l st

/-! ### Arrival timeout (R34) -/

/-- The running arrival timer of a vehicle's EXPECTED entry in a lane expires (R34). -/
def State.arrivalLapse (s : State) (v : Slot) (l : LaneNo) : State :=
  match s.entry l v with
  | some ⟨_, .expected, some _⟩ => (((s.removeEntry l v).setMoving v (some l)).raise .arrivalLapse).retry
  | _ => s

/-! ### Lane orders (R36) -/

/-- A set state is ordered; a lane that becomes OPEN causes a retry (R35, R36). -/
def State.orderSetState (s : State) (l : LaneNo) (state : SetState) : State :=
  let t := s.modLane l fun r => { r with setState := state }
  if laneOpened s t then t.retry else t

/-- OPEN_LANE (R36). -/
def State.openLane (s : State) (l : LaneNo) : Outcome × State :=
  if (s.lane l).cfg.capacity = 0 then (.conflict, s) else (.ok, s.orderSetState l .opened)

/-- CLOSE_LANE (R36). -/
def State.closeLane (s : State) (l : LaneNo) : Outcome × State := (.ok, s.orderSetState l .closed)

end Sys2Proof.Machine
end

