-- ==== Sys2Proof/Machine/Line.lean ====
section
/-! DEFINITION. The Berth Line Controller and the Station Classifier: SILENT and recovery (R149, R154), the poll cycle and
the turns (R150 to R153, R155), the frame checks (R156, R190) and the routing of reports (R157). -/

namespace Sys2Proof.Machine

/-! ### SILENT marks (R154) -/

/-- The YM and the STC are told that a SILENT mark was cleared: a lane that becomes OPEN causes a retry (R35), and a FREE
bay whose unit station it is makes a choice (R65). The allocator does nothing at once (R91). YM first, then STC, the
order of R154's table (log 18). -/
def State.reportRecovery (before after : State) (recovered : Addr → Bool) : State :=
  let s := if laneOpened before after then after.retry else after
  forEach (upTo 6) (fun b s => match (s.bay b).cfg.unit with
    | some a => if recovered a then s.choose b else s
    | none => s) s

/-- A station's SILENT mark is cleared, and the clearing is reported as a recovery if it was set (R154). -/
def State.recover (s : State) (a : Addr) : State :=
  if s.silent a then
    State.reportRecovery s (s.modStation a fun r => { r with silent := false }) (fun x => x = a)
  else s

/-- The station has been heard: its miss count becomes 0, and a SILENT mark is cleared with its recovery (R153, R155). The
shift steps and the exchange that the recovery owes are taken here, before the report is routed (log 44). -/
def State.heardFrom (s : State) (a : Addr) : State :=
  ((s.modStation a fun r => { r with misses := 0 }).recover a).settle

/-- A station becomes SILENT (R154). -/
def State.becomeSilent (s : State) (a : Addr) : State :=
  let s := s.modStation a fun r => { r with silent := true }
  let s := (s.raise .stationSilent).notify (.stationSilent a (s.station a).cfg.kind (s.station a).cfg.index)
  s.chargingSilenced a

/-- A poll transaction with a station ended at the reply timeout (R153). -/
def State.missPoll (s : State) (a : Addr) : State :=
  let s := s.modStation a fun r => { r with misses := min 3 (r.misses + 1) }
  if (s.station a).misses = 3 && !s.silent a then s.becomeSilent a else s

/-! ### Turns and the poll cycle (R150, R152) -/

/-- The berth-line kinds (R147). -/
def berthKind : StationKind → Bool
  | .gateReader | .laneReader | .bayUnit | .charger | .meter | .display => true
  | .server | .maint | .unused => false

/-- Whether a station is taken in a cycle of the given count (R152). -/
def State.takenInCycle (s : State) (cycle : Nat) (a : Addr) : Bool :=
  berthKind (s.station a).cfg.kind && (s.station a).cfg.polled && a ≠ s.ownAddr && (!s.silent a || cycle = 0)

/-- The lowest address above a place that is taken in a cycle (R152). -/
def State.nextInCycle (s : State) (cycle : Nat) (place : Option Addr) : Option Addr :=
  (upTo 128).find? fun a => s.takenInCycle cycle a && (match place with
    | none => true
    | some p => p < a)

/-- The cycle count of the next cycle (R152). -/
def nextCycle (n : Nat) : Nat := (n + 1) % 8

/-- The station of the next poll turn, with the cycle count it is polled in; no station, after the cycle in progress and a
whole new one, is an idle turn (R152). -/
def State.pollChoice (s : State) : Nat × Option Addr :=
  match s.nextInCycle s.blc.cycleCount s.blc.place with
  | some a => (s.blc.cycleCount, some a)
  | none => (nextCycle s.blc.cycleCount, s.nextInCycle (nextCycle s.blc.cycleCount) none)

/-- A poll turn or an idle turn is over: the transaction count rises, and a directive turn follows (R150). -/
def State.endPollTurn (s : State) : State :=
  { s with blc := { s.blc with turn := .directive, transactions := min 16 (s.blc.transactions + 1) } }

/-- A poll transaction begins (R153). From here on a frame of the station is for this transaction (log 10). -/
def State.beginPoll (s : State) (cycle : Nat) (a : Addr) : State :=
  ({ s with blc := { s.blc with turn := .polling a, place := some a, cycleCount := cycle, abandoned := s.blc.abandoned.filter (· ≠ a) } }).sendBerth
    ⟨s.ownAddr, some a, kindPoll, []⟩

/-- An idle turn, which ends its empty cycle: the place goes behind the last address, so that the next poll turn begins
a new cycle (R150, R152; log 11). -/
def State.idle (s : State) (cycle : Nat) : State :=
  ({ s with blc := { s.blc with place := some 127, cycleCount := cycle } }).endPollTurn

/-- The turn after a directive turn: a call-in turn when the transaction count has reached 16 (R150). -/
def State.afterDirectiveTurn (s : State) : State :=
  { s with blc := { s.blc with turn := if s.blc.transactions ≥ 16 then .callIn else .poll } }

/-- A directive is transmitted to the address it carries (R151), with the own address as its source, a server directive too
(log 46). -/
def State.transmitDirective (s : State) (d : Directive) : State :=
  s.sendBerth ⟨s.ownAddr, some d.dest, directiveCode d.kind, d.payload⟩

/-- The oldest directive of the origin FIFO is taken: discarded with UNKNOWN_STATION when its destination is not of a
berth-line kind, transmitted otherwise (R151, R158). -/
def State.takeOrigin (s : State) (d : Directive) (rest : List Directive) : State :=
  let s := { s with blc := { s.blc with originFifo := rest, pointer := .forward } }
  if berthKind (s.station d.dest).cfg.kind then s.transmitDirective d else s.raise .unknownStation

/-- The oldest directive of the forward FIFO is taken and transmitted, without a further check (R151, R159). -/
def State.takeForward (s : State) (d : Directive) (rest : List Directive) : State :=
  ({ s with blc := { s.blc with forwardFifo := rest, pointer := .origin } }).transmitDirective d

/-- The directive turn's choice (R151). -/
def State.sendDirective (s : State) : State :=
  match s.blc.originFifo, s.blc.forwardFifo, s.blc.pointer with
  | [], [], _ => s
  | d :: rest, [], _ => s.takeOrigin d rest
  | [], d :: rest, _ => s.takeForward d rest
  | d :: rest, _ :: _, .origin => s.takeOrigin d rest
  | _ :: _, d :: rest, .forward => s.takeForward d rest

/-! ### The call-in slot (R155) -/

/-- One bit of the arbitration: a station that sends a 1 and hears a 0 stops (R155). -/
def arbitrateBit (bit : Nat) (answering : List Addr) : List Addr :=
  if answering.any fun a => !a.val.testBit bit then answering.filter fun a => !a.val.testBit bit else answering

/-- The arbitration of a call-in slot: the source addresses are sent most significant bit first, and a 0 overrides a 1
(R155, R188). -/
def arbitrate (answering : List Addr) : Option Addr :=
  ([7, 6, 5, 4, 3, 2, 1, 0].foldl (fun left bit => arbitrateBit bit left) answering).head?

/-- Whether some station of a berth-line kind is urgent-capable, so that a slot is held (R150). -/
def State.holdsSlots (s : State) : Bool :=
  (upTo 128).any fun a => berthKind (s.station a).cfg.kind && (s.station a).cfg.urgent

/-- The slot is over, and the sequence begins again with a poll turn (R150, R155). -/
def State.endSlot (s : State) : State := { s with blc := { s.blc with turn := .poll } }

/-! ### Frame checks (R156, R190) -/

/-- The payload length of a report kind, for the kinds a station may send (R147, R188, R190). -/
def reportLength (kind : Byte) : Option Nat :=
  if kind = kindGateIn ∨ kind = kindGateOut ∨ kind = kindLaneEntry ∨ kind = kindLaneExit ∨ kind = kindBayArrive then some 3
  else if kind = kindBayDone ∨ kind = kindBayFault ∨ kind = kindNothing then some 0
  else if kind = kindChargerReport then some 8
  else if kind = kindMeterReport then some 2
  else none

/-- Whether a station kind sends a report kind (R147). -/
def sends (station : StationKind) (kind : Byte) : Bool :=
  if !berthKind station then false
  else if kind = kindNothing then true
  else match station with
    | .gateReader => kind = kindGateIn || kind = kindGateOut
    | .laneReader => kind = kindLaneEntry || kind = kindLaneExit
    | .bayUnit => kind = kindBayArrive || kind = kindBayDone || kind = kindBayFault
    | .charger => kind = kindChargerReport
    | .meter => kind = kindMeterReport
    | _ => false

/-- Check 3: the source is a station of the berth line (R156). -/
def State.knownSource (s : State) (a : Addr) : Bool := berthKind (s.station a).cfg.kind && a ≠ s.ownAddr

/-- Check 4, with the length of R190: the report kind is one the station sends, and its payload has its length. -/
def State.reportFits (s : State) (t : Telegram) : Bool :=
  sends (s.station t.src).cfg.kind t.kind && reportLength t.kind = some t.payload.length

/-- What a received frame comes to (R153, R155, R156). -/
inductive Verdict where
  /-- accepted: its station is heard, and the report is routed -/
  | accepted
  /-- discarded with a flag; `ends` says that it ends the transaction or slot, `heard` that it counts as a reply -/
  | discarded (flag : EventFlag) (ends heard : Bool)
  /-- discarded without a flag: it came for a transaction that a soft reset abandoned (R160) -/
  | dropped
  deriving DecidableEq, Repr

/-- The station of the transaction or slot in progress. -/
def State.turnStation (s : State) : Option Addr :=
  match s.blc.turn with
  | .polling a => some a
  | .slot winner => winner
  | _ => none

/-- Whether a transaction or slot is in progress. -/
def Turn.inProgress : Turn → Bool
  | .polling _ | .slot _ => true
  | .poll | .directive | .callIn => false

/-- Whether a frame came for a transaction that a soft reset abandoned (R160): it is of a station that was cut off and whose
turn has not come again, or it names no station and comes outside any transaction and slot (log 10). -/
def State.forAbandoned (s : State) (frame : Option Telegram) : Bool :=
  match frame with
  | some t => decide (t.src ∈ s.blc.abandoned ∧ s.turnStation ≠ some t.src)
  | none => !s.blc.turn.inProgress && !s.blc.abandoned.isEmpty

/-- The verdict of the checks of R156 on a received frame; `none` is a frame that fails the check or length test. -/
def State.checked (s : State) (frame : Option Telegram) : Verdict :=
  match s.blc.turn, frame with
  | .polling _, none => .discarded .lineCheckError false false
  | .polling a, some t =>
    if t.src ≠ a then .discarded .lineCheckError false false
    else if !s.knownSource a then .discarded .unknownStation true true
    else if !s.reportFits t then .discarded .lineCheckError true true
    else .accepted
  | .slot _, none => .discarded .lineCheckError true false
  | .slot winner, some t =>
    if winner ≠ some t.src then .discarded .lineCheckError true false
    else if !s.knownSource t.src then .discarded .unknownStation true false
    else if !s.reportFits t then .discarded .lineCheckError true false
    else if !(s.station t.src).cfg.urgent then .discarded .lineCheckError true false
    else .accepted
  | _, _ => .discarded .lineCheckError false false

/-- The verdict on a received frame (R156, R160). -/
def State.verdict (s : State) (frame : Option Telegram) : Verdict :=
  if s.forAbandoned frame then .dropped else s.checked frame

/-- The transaction or slot in progress is over. -/
def State.endTransaction (s : State) : State :=
  match s.blc.turn with
  | .polling _ => s.endPollTurn
  | .slot _ => s.endSlot
  | _ => s

/-- The station of the transaction or slot counts as heard (R153, R155). -/
def State.heardInTurn (s : State) : State :=
  match s.turnStation with
  | some a => s.heardFrom a
  | none => s

/-- A frame is discarded with its flag; it may end the transaction or slot, and count as a reply (R156). -/
def State.discardFrame (s : State) (flag : EventFlag) (ends heard : Bool) : State :=
  let t := s.raise flag
  let t := if heard then t.heardInTurn else t
  if ends then t.endTransaction else t

/-! ### Routing (R157) -/

/-- The lane of a lane reader, the bay of a bay unit, the charger and the feeder of a station, by its index (R147). -/
def State.laneOf (s : State) (a : Addr) : LaneNo := Fin.ofNat 32 (s.station a).cfg.index
def State.bayOf (s : State) (a : Addr) : BayNo := Fin.ofNat 6 (s.station a).cfg.index
def State.chargerOf (s : State) (a : Addr) : ChargerNo := Fin.ofNat 64 (s.station a).cfg.index
def State.feederOf (s : State) (a : Addr) : FeederNo := Fin.ofNat 4 (s.station a).cfg.index

/-- Whether a report carries a tag: the five vehicle reports, and a CHARGER_REPORT with a connected tag (R7). -/
def carriesTag (t : Telegram) : Bool :=
  t.kind = kindGateIn || t.kind = kindGateOut || t.kind = kindLaneEntry || t.kind = kindLaneExit || t.kind = kindBayArrive
    || (t.kind = kindChargerReport && field t.payload 0 3 ≠ 0)

/-- The tag of a report is looked up, whatever its station's action: one held by no slot raises UNKNOWN_VEHICLE (R7). -/
def State.lookUp (s : State) (t : Telegram) : State :=
  if carriesTag t ∧ s.slotOf (field t.payload 0 3) = none then s.raise .unknownVehicle else s

/-- A report that names a vehicle is acted on with the slot that holds its tag, and not at all when no slot does (R7). -/
def State.resolved (s : State) (tag : Nat) (act : Slot → State) : State :=
  match s.slotOf tag with
  | some v => act v
  | none => s

/-- The owning block acts on an accepted report (R157, and the chapter of each block). -/
def State.own (s : State) (t : Telegram) : State :=
  let tag := field t.payload 0 3
  if t.kind = kindGateIn then s.resolved tag s.gateIn
  else if t.kind = kindGateOut then s.resolved tag s.gateOut
  else if t.kind = kindLaneEntry then s.resolved tag fun v => s.laneEntry v (s.laneOf t.src)
  else if t.kind = kindLaneExit then s.resolved tag fun v => s.laneExit v (s.laneOf t.src)
  else if t.kind = kindBayArrive then s.resolved tag fun v => s.bayArrive (s.bayOf t.src) v
  else if t.kind = kindBayDone then s.bayDone (s.bayOf t.src)
  else if t.kind = kindBayFault then s.bayFault (s.bayOf t.src)
  else if t.kind = kindChargerReport then
    s.chargerReport (s.chargerOf t.src) (tag ≠ 0) (s.slotOf tag) (field t.payload 3 2) (field t.payload 5 2)
      (markBit t.payload 7 0)
  else if t.kind = kindMeterReport then s.meterReport (s.feederOf t.src) (field t.payload 0 2)
  else s

/-- Whether a report is handed to its owner (R157). -/
def handsOn : Action → Bool
  | .consume | .copy => true
  | .pass => false

/-- Whether a report is placed in the depot forward FIFO (R157). -/
def forwards : Action → Bool
  | .consume => false
  | .copy | .pass => true

/-- An accepted report is routed by its station's action; NOTHING goes nowhere (R157). Its tag is looked up first, under PASS
too (R7); a report that is not handed on brings no vehicle in (log 41). -/
def State.route (s : State) (t : Telegram) : State :=
  if t.kind = kindNothing then s
  else
    let action := (s.station t.src).cfg.action
    let s := s.lookUp t
    let s := if handsOn action then (s.own t).settle else s
    if forwards action then s.forward ⟨t.src, t.kind, t.payload⟩ else s

/-- A frame arrives on the berth line: it is judged, and an accepted one ends the transaction or slot as a reply and is
routed (R153, R155, R156, R157; log 44). -/
def State.receiveFrame (s : State) (frame : Option Telegram) : State :=
  match s.verdict frame, frame with
  | .accepted, some t => (s.heardInTurn.endTransaction).route t
  | .accepted, none => s
  | .discarded flag ends heard, _ => s.discardFrame flag ends heard
  | .dropped, _ => s

/-- The frame of a report, as its station sends it to the part (R188). -/
def State.reportFrame (s : State) (src : Addr) (kind : Byte) (payload : List Byte) : Telegram :=
  ⟨src, some s.ownAddr, kind, payload⟩

end Sys2Proof.Machine
end

