-- ==== Sys2Proof/Machine/Rows.lean ====
section
/-! DEFINITION. What software sees: the codes of R190, the row layouts of R192, the table descriptors of R167, and the
payloads of answers and notices (R191, R193). -/

namespace Sys2Proof.Machine

/-! ### Enumerations, in the order of the rules that list them (R190, R192 note 1) -/

def stationKinds : List StationKind :=
  [.gateReader, .laneReader, .bayUnit, .charger, .meter, .display, .server, .maint, .unused]
def actions : List Action := [.consume, .copy, .pass]
def laneKinds : List LaneKind := [.through, .deadEnd]
def laneRoles : List LaneRole := [.park, .shunt]
def laneStates : List LaneState := [.opened, .closed, .degraded]
def setStates : List SetState := [.opened, .closed]
def standings : List Standing := [.present, .expected]
def chargerStates : List ChargerState := [.free, .connected, .charging, .waiting, .full, .fault]
def feederStates : List FeederState := [.normal, .shed, .tripped]
def queueKinds : List QueueKind := [.fuel, .wash]
def bayStates : List BayState := [.free, .calling, .busy, .faultWait, .out, .closed]
def ticketStates : List TicketState := [.waiting, .calledToBay, .inBay]
def propulsions : List Propulsion := [.diesel, .electric]
def lengthClasses : List LengthClass := [.standard, .articulated]
def vehicleStates : List VehicleState :=
  [.out, .inbound, .service, .toBerth, .parked, .called, .departing, .moving, .lost]
def kindReqs : List KindReq := [.any, .diesel, .electric]
def lengthReqs : List LengthReq := [.any, .standard, .articulated]
def rowStates : List RowState := [.planned, .bound, .short, .called, .gone, .missed, .cancelled]
def swapRegisters : List SwapRegister := [.none, .armed, .pending]
def origins : List Origin := [.gate, .serviceExit, .shunt]
def tables : List Table :=
  [.station, .lane, .charger, .feeder, .bay, .params, .fleet, .active, .standby, .queueFuel, .queueWash, .waitList,
   .events]
def outcomes : List Outcome := [.ok, .clamped, .busy, .pending, .range, .class, .conflict, .format]

/-- A code in one byte. -/
def codeByte {α : Type} [DecidableEq α] (list : List α) (x : α) : List Byte := toBytes 1 (codeIn list x)

/-- A field that may be absent: all ones in its width (R190). -/
def optBytes (width : Nat) : Option Nat → List Byte
  | some n => toBytes width n
  | none => List.replicate width 255

/-- A station field that may be absent (R190). -/
def stationBytes (a : Option Addr) : List Byte := optBytes 1 (a.map Fin.val)

/-- A fleet slot field that may be absent (R190). -/
def slotBytes (v : Option Slot) : List Byte := optBytes 2 (v.map Fin.val)

/-- A marks byte, bit 0 first (R192). -/
def marksByte (bits : List Bool) : List Byte := toBytes 1 (bits.foldr (fun b n => n * 2 + b.toNat) 0)

/-! ### Rows (R192) -/

/-- A STATION row (R149, R192). The SILENT mark has a byte of its own, sent as 1 when it is set (log 45). -/
def State.stationRow (s : State) (a : Addr) : List Byte :=
  let r := s.station a
  codeByte stationKinds r.cfg.kind ++ toBytes 1 r.cfg.index ++ toBytes 1 r.cfg.level ++ codeByte actions r.cfg.action
    ++ marksByte [r.cfg.polled, r.cfg.urgent] ++ toBytes 1 r.misses ++ toBytes 1 r.silent.toNat

/-- The bytes of one lane list entry: slot, status, first position (R22, R192). -/
def State.entryBytes (s : State) (l : LaneNo) (i : Nat) (e : Entry) : List Byte :=
  toBytes 2 e.slot.val ++ codeByte standings e.standing ++ toBytes 1 (s.firstPosition l i)

/-- A LANE row (R22, R192). -/
def State.laneRow (s : State) (l : LaneNo) : List Byte :=
  let r := s.lane l
  codeByte laneKinds r.cfg.kind ++ codeByte laneRoles r.cfg.role ++ toBytes 1 r.cfg.capacity
    ++ toBytes 1 r.cfg.reader.val ++ stationBytes r.cfg.mouth
    ++ codeByte laneStates (s.laneState l) ++ codeByte setStates r.setState ++ toBytes 1 r.front
    ++ toBytes 1 r.entries.length ++ (r.entries.mapIdx fun i e => s.entryBytes l i e).flatten

/-- A CHARGER row (R83, R192). -/
def State.chargerRow (s : State) (c : ChargerNo) : List Byte :=
  let r := s.charger c
  stationBytes r.cfg.station ++ toBytes 1 r.cfg.lane.val ++ toBytes 1 r.cfg.position ++ toBytes 1 r.cfg.feeder.val
    ++ toBytes 2 r.cfg.pMax ++ toBytes 2 r.cfg.pMin
    ++ codeByte chargerStates r.state ++ slotBytes r.connected ++ toBytes 2 r.grant ++ toBytes 2 r.actual
    ++ toBytes 1 r.turnAge ++ toBytes 1 r.hold ++ marksByte [r.resend]

/-- The sum of the grants of a feeder's chargers (R85). -/
def State.grantSum (s : State) (f : FeederNo) : Nat :=
  (((upTo 64).filter fun c => (s.charger c).cfg.feeder = f).map fun c => (s.charger c).grant).sum

/-- A FEEDER row (R85, R192). -/
def State.feederRow (s : State) (f : FeederNo) : List Byte :=
  let r := s.feeder f
  toBytes 2 r.cfg.rated ++ toBytes 2 r.cfg.limit ++ stationBytes r.cfg.meter ++ toBytes 2 r.cfg.fallback
    ++ codeByte feederStates r.state ++ toBytes 2 r.accumulator ++ toBytes 2 r.baseLoad ++ optBytes 2 r.reading
    ++ toBytes 2 r.budget ++ toBytes 2 (s.grantSum f)

/-- The tag of the vehicle in a slot, in three bytes. -/
def State.tagBytes (s : State) (v : Slot) : List Byte := toBytes 3 (s.veh v).tag

/-- The ticket bytes of a BAY row (R64, R192 note 2). -/
def State.heldTicketBytes (s : State) : Option Ticket → List Byte
  | some t => toBytes 2 t.slot.val ++ s.tagBytes t.slot ++ codeByte queueKinds t.kind ++ toBytes 2 t.join
      ++ toBytes 1 t.noShows ++ codeByte ticketStates t.state
  | none => slotBytes none ++ List.replicate 8 0

/-- A BAY row (R64, R192). -/
def State.bayRow (s : State) (b : BayNo) : List Byte :=
  let r := s.bay b
  codeByte queueKinds r.cfg.kind ++ stationBytes r.cfg.unit ++ stationBytes r.cfg.display
    ++ codeByte bayStates r.state ++ toBytes 2 r.callMinute ++ marksByte [r.faultCount ≠ 0, r.overstay]
    ++ s.heldTicketBytes r.ticket

/-- The PARAMS row: one byte for each parameter, in the order of R183 (R192). -/
def paramsRow (p : Params) : List Byte :=
  ([p.server.val, p.supervisionPeriod, p.arrivalTimeout, p.washInterval, p.priorityHorizon, p.washSkipMargin,
    p.noShowTimeout, p.retryDelay, p.overstayFuel, p.overstayWash, p.turnLength, p.ageLimit, p.callLead,
    p.departureGrace].map (toBytes 1)).flatten

/-- The code of a location kind: its place in the list of R5. -/
def locationCode : Location → Nat
  | .none => 0
  | .gate => 1
  | .queue _ => 2
  | .bay _ => 3
  | .lane .. => 4
  | .enRoute _ => 5

/-- The location bytes of a FLEET row: kind; lane, bay, queue kind or target; entry status; shunt lane. Parts that a
kind does not have are 255 (R192 note 2). -/
def locationBytes (x : Location) : List Byte :=
  toBytes 1 (locationCode x) ++ match x with
    | .none | .gate => [255, 255, 255]
    | .queue k => codeByte queueKinds k ++ [255, 255]
    | .bay b => toBytes 1 b.val ++ [255, 255]
    | .lane l standing shunt =>
      toBytes 1 l.val ++ codeByte standings standing ++ optBytes 1 (shunt.map Fin.val)
    | .enRoute target => optBytes 1 (target.map Fin.val) ++ [255, 255]

/-- A FLEET row (R2, R4, R192). -/
def fleetRow (r : Vehicle) : List Byte :=
  toBytes 3 r.tag ++ codeByte propulsions r.propulsion ++ codeByte lengthClasses r.length ++ optBytes 2 r.battery
    ++ optBytes 2 r.standby ++ toBytes 1 r.washProgramme ++ toBytes 1 r.washCounter
    ++ codeByte vehicleStates r.state ++ locationBytes r.location ++ marksByte [r.held, r.misorder, r.shift]
    ++ optBytes 1 r.boundRow ++ optBytes 2 r.lastSoc ++ toBytes 2 r.arrival

/-- A plan row in use (R110, R192). -/
def planRow (r : PlanRow) : List Byte :=
  toBytes 2 r.block ++ toBytes 2 r.key ++ codeByte kindReqs r.kindReq ++ codeByte lengthReqs r.lengthReq
    ++ toBytes 2 r.energy ++ slotBytes r.bound
    ++ codeByte rowStates r.state ++ optBytes 2 r.callMinute ++ optBytes 1 (r.originLane.map Fin.val)
    ++ marksByte [r.blocked, r.lowEnergy]

/-- An empty plan row: its slot field absent, every other field 0 (R192 over R109's "0 or absent"; log 30). -/
def emptyPlanRow : List Byte := List.replicate 8 0 ++ slotBytes none ++ List.replicate 5 0

/-- A row of a plan bank (R109). -/
def bankRow (bank : List PlanRow) (i : Nat) : List Byte :=
  match bank[i]? with
  | some r => planRow r
  | none => emptyPlanRow

/-- A queue row; an empty one has its slot absent and every other field 0 (R60, R192). -/
def State.queueRow (s : State) (k : QueueKind) (i : Nat) : List Byte :=
  match (s.queue k)[i]? with
  | some t => toBytes 2 t.slot.val ++ s.tagBytes t.slot ++ toBytes 2 t.join ++ toBytes 1 t.noShows
      ++ codeByte ticketStates t.state
  | none => slotBytes none ++ List.replicate 7 0

/-- A wait-list row (R52, R192). -/
def State.waitRow (s : State) (i : Nat) : List Byte :=
  match s.waitList[i]? with
  | some w => toBytes 2 w.slot.val ++ codeByte origins w.origin ++ toBytes 2 w.join
  | none => slotBytes none ++ List.replicate 3 0

/-- The event flag word (R191). -/
def State.flagWord (s : State) : List Byte := toBytes 4 s.er.flags.toNat

/-- The EVENTS row (R171, R192). -/
def State.eventsRow (s : State) : List Byte :=
  s.flagWord ++ [s.summary] ++ toBytes 2 s.ycs.minute ++ marksByte [s.ycs.clockSet, s.ycs.mode = .fallback]
    ++ toBytes 1 s.ds.active.length ++ toBytes 1 s.ds.standby.length ++ codeByte swapRegisters s.ds.swap
    ++ toBytes 2 s.waitList.length ++ toBytes 1 (s.liveTickets .fuel) ++ toBytes 1 (s.liveTickets .wash)

/-- The content of row `i` of a table as it stands (R170, R192). -/
def State.readRow (s : State) (t : Table) (i : Nat) : List Byte :=
  match t with
  | .station => s.stationRow (Fin.ofNat 128 i)
  | .lane => s.laneRow (Fin.ofNat 32 i)
  | .charger => s.chargerRow (Fin.ofNat 64 i)
  | .feeder => s.feederRow (Fin.ofNat 4 i)
  | .bay => s.bayRow (Fin.ofNat 6 i)
  | .params => paramsRow s.ss.params
  | .fleet => fleetRow (s.veh (Fin.ofNat 256 i))
  | .active => bankRow s.ds.active i
  | .standby => bankRow s.ds.standby i
  | .queueFuel => s.queueRow .fuel i
  | .queueWash => s.queueRow .wash i
  | .waitList => s.waitRow i
  | .events => s.eventsRow

/-! ### Descriptors (R167) -/

/-- Row limits (R167). -/
def rowLimit : Table → Nat
  | .station => 128
  | .lane => 32
  | .charger => 64
  | .feeder => 4
  | .bay => 6
  | .params => 1
  | .fleet => 256
  | .active | .standby => Config.bankRows
  | .queueFuel | .queueWash => Config.ticketCapacity
  | .waitList => 256
  | .events => 1

/-- Read classes (R167). -/
def readClass : Table → Nat
  | .station => 1
  | .lane | .charger | .feeder | .bay | .params | .fleet | .active | .standby => 2
  | .queueFuel | .queueWash | .waitList | .events => 3

/-- The class a PUT needs, none for a read-only table (R167). -/
def putClass : Table → Option Nat
  | .station | .lane | .charger | .feeder | .bay | .params | .fleet | .active | .standby => some 0
  | .queueFuel | .queueWash | .waitList | .events => none

/-- The payload lengths a PUT may have: the writable part alone, or a whole row (R192). A read-only table has no
writable part, so the whole row alone fits (log 24). -/
def putLengths : Table → List Nat
  | .station => [5, 7]
  | .lane => 5 :: (List.range 9).map fun c => 9 + 4 * c
  | .charger => [8, 18]
  | .feeder => [7, 18]
  | .bay => [3, 17]
  | .params => [14]
  | .fleet => [11, 22]
  | .active | .standby => [10, 15]
  | .queueFuel | .queueWash => [9]
  | .waitList => [5]
  | .events => [15]

/-- A tagged row (R191). -/
def taggedRow (t : Table) (row : Nat) (bytes : List Byte) : List Byte :=
  codeByte tables t ++ toBytes 2 row ++ bytes

/-- The no-row tag (R191). -/
def noRow : List Byte := [255, 255, 255]

/-! ### Answers (R191) -/

/-- The code of a deferred fault, 0 for none (R191). -/
def faultCode : Option FaultCode → Nat
  | none => 0
  | some .storeVerify => 1
  | some .loadInvalid => 2
  | some .swapInvalid => 3

/-- The payload of an answer: the four bytes, then the data (R191). -/
def answerPayload (a : Answer) : List Byte :=
  [a.summary] ++ codeByte outcomes a.outcome ++ toBytes 1 (faultCode a.fault + 128 * a.further.toNat) ++ [a.kind] ++ a.data

/-- The data of IDENT (R178, R191). -/
def State.identData (s : State) : List Byte :=
  toBytes 2 Config.vendorCode.toNat ++ toBytes 2 Config.partCode.toNat ++ [Config.revision] ++ toBytes 1 s.ownAddr.val
    ++ (tables.map fun t => toBytes 2 (rowLimit t)).flatten
    ++ toBytes 1 s.ds.active.length ++ toBytes 1 s.ds.standby.length

/-! ### Notices (R193) -/

/-- Cause and state fields of a SHORT notice (R193): cause; tag, 0 if none; vehicle state, 255 if none. -/
def shortBytes : Option (Nat × VehicleState) → List Byte
  | some (tag, state) => [0] ++ toBytes 3 tag ++ codeByte vehicleStates state
  | none => [1] ++ toBytes 3 0 ++ [255]

/-- The cause of a MISSED notice (R193). -/
def missCauses : List MissCause := [.grace, .rollover]

/-- The cause of a BAY_OUT notice (R193). -/
def bayOutCauses : List BayOutCause := [.serviceFault, .callFault]

/-- The fields of a feeder notice; a drawn power above 65535 is sent as 65535 (R107, R193). -/
def feederNotice (feeder : FeederNo) (accumulator drawn rated base : Nat) : List Byte :=
  toBytes 1 feeder.val ++ toBytes 2 accumulator ++ toBytes 2 (min 65535 drawn) ++ toBytes 2 rated ++ toBytes 2 base

/-- The payload of a notice (R193). -/
def noticePayload : Notice → List Byte
  | .placed tag slot lane position cls origin =>
    [0] ++ toBytes 3 tag ++ toBytes 2 slot.val ++ toBytes 1 lane.val ++ toBytes 1 position ++ toBytes 1 cls
      ++ codeByte origins origin
  | .called row block key tag lane entry lowEnergy atCallTime =>
    [1] ++ toBytes 1 row ++ toBytes 2 block ++ toBytes 2 key ++ toBytes 3 tag ++ toBytes 1 lane.val ++ toBytes 1 entry
      ++ marksByte [lowEnergy, atCallTime]
  | .gone row block tag minute => [2] ++ toBytes 1 row ++ toBytes 2 block ++ toBytes 3 tag ++ toBytes 2 minute
  | .missed row block key tag cause =>
    [3] ++ toBytes 1 row ++ toBytes 2 block ++ toBytes 2 key ++ toBytes 3 tag ++ codeByte missCauses cause
  | .short row block key released => [4] ++ toBytes 1 row ++ toBytes 2 block ++ toBytes 2 key ++ shortBytes released
  | .blocked row block tag lane entry =>
    [5] ++ toBytes 1 row ++ toBytes 2 block ++ toBytes 3 tag ++ toBytes 1 lane.val ++ toBytes 1 entry
  | .shuntFull lane tag slot row => [6] ++ toBytes 1 lane.val ++ toBytes 3 tag ++ toBytes 2 slot.val ++ toBytes 1 row
  | .noBerth tag slot origin entries =>
    [7] ++ toBytes 3 tag ++ toBytes 2 slot.val ++ codeByte origins origin ++ toBytes 2 entries
  | .bayOut bay cause tag => [8] ++ toBytes 1 bay.val ++ codeByte bayOutCauses cause ++ toBytes 3 tag
  | .bayNoShow bay tag slot kind =>
    [9] ++ toBytes 1 bay.val ++ toBytes 3 tag ++ toBytes 2 slot.val ++ codeByte queueKinds kind
  | .feederShed f accumulator drawn rated base => [10] ++ feederNotice f accumulator drawn rated base
  | .feederTrip f accumulator drawn rated base => [11] ++ feederNotice f accumulator drawn rated base
  | .stationSilent addr kind index => [12] ++ toBytes 1 addr.val ++ codeByte stationKinds kind ++ toBytes 1 index
  | .yardConflict tag slot before cause =>
    [13] ++ toBytes 3 tag ++ toBytes 2 slot.val ++ codeByte vehicleStates before ++ toBytes 1 cause

end Sys2Proof.Machine
end

