-- ==== Sys2Proof/Machine/Tables.lean ====
section
/-! DEFINITION. The PUT rules of the tables (R3, R37, R63, R82, R84, R113, R114, R148, R183), with the decoding of R190.
Each takes a row and a payload of one of the lengths of R192, and answers the outcome with the state: OK or CLAMPED for
an accepted PUT, another outcome and the state as it stood for a refused one. -/

namespace Sys2Proof.Machine

/-- CLAMPED when a field was clamped or rounded, OK otherwise (R164). -/
def clampedIf (changed : Bool) : Outcome := if changed then .clamped else .ok

/-- Whether an outcome is that of a request carried out (R164). -/
def Outcome.carriedOut (o : Outcome) : Bool := o = .ok || o = .clamped

/-! ### STATION (R148) -/

/-- The highest index of a kind that uses one as a number, none for the other kinds (R147). -/
def indexLimit : StationKind → Option Nat
  | .laneReader => some 31
  | .bayUnit => some 5
  | .charger => some 63
  | .meter => some 3
  | .gateReader | .display | .server | .maint | .unused => none

/-- The index as it is stored (R148): clamped to its kind's limit, a display role as it is, 0 where it is not used. -/
def storedIndex (kind : StationKind) (index : Nat) : Nat :=
  match indexLimit kind with
  | some limit => min limit index
  | none => if kind = .display then index else 0

/-- Whether storing an index clamps it; none is reported where the index is not used (R148). -/
def indexClamped (kind : StationKind) (index : Nat) : Bool :=
  match indexLimit kind with
  | some limit => limit < index
  | none => false

/-- The STATION fields of a PUT, after check 1 of R148; `none` is FORMAT. -/
def decodeStation (p : List Byte) : Option StationCfg :=
  match stationKinds[field p 0 1]?, actions[field p 3 1]? with
  | some kind, some action =>
    if kind = .display ∧ 3 ≤ field p 1 1 then none
    else some
      { kind := kind, index := storedIndex kind (field p 1 1), level := min 3 (field p 2 1), action := action,
        polled := markBit p 4 0, urgent := markBit p 4 1 }
  | _, _ => none

/-- Whether a PUT to a STATION row resets the entry's miss count and SILENT mark (R148). One that makes the entry UNUSED
changes its kind. -/
def resetsMisses (old new : StationCfg) : Bool :=
  old.kind ≠ new.kind || old.index ≠ new.index || (old.polled && !new.polled)

/-- An accepted PUT to a STATION row (R148): a SILENT mark it clears is reported as a recovery (R154), and the shift steps
of a retry follow (R140). -/
def State.writeStation (s : State) (a : Addr) (cfg : StationCfg) : State :=
  let t := s.modStation a fun r => { r with cfg := cfg }
  if resetsMisses (s.station a).cfg cfg then t.heardFrom a else t

/-- PUT to a STATION row (R148). -/
def State.putStationRow (s : State) (a : Addr) (p : List Byte) : Outcome × State :=
  match decodeStation p with
  | none => (.format, s)
  | some cfg =>
    if s.ss.storing then (.busy, s)
    else (clampedIf (3 < field p 2 1 || indexClamped cfg.kind (field p 1 1)), s.writeStation a cfg)

/-! ### LANE (R37) -/

/-- The LANE fields of a PUT, after check 1 of R37, the capacity clamped; `none` is FORMAT. -/
def decodeLane (p : List Byte) : Option LaneCfg := do
  let kind ← laneKinds[field p 0 1]?
  let role ← laneRoles[field p 1 1]?
  let reader ← addrField (field p 3 1)
  let mouth ← optAddrField (field p 4 1)
  some { kind := kind, role := role, capacity := min 8 (field p 2 1), reader := reader, mouth := mouth }

/-- The set state after a capacity is written (R37). -/
def setStateAfter (before : SetState) (old new : Nat) : SetState :=
  if new = 0 then (if old = 0 then before else .closed) else if old = 0 then .opened else before

/-- An accepted PUT to a LANE row: a change of capacity, or a lane that becomes OPEN, causes a retry (R35, R37), and the
shift steps of that retry follow (R140). -/
def State.writeLane (s : State) (l : LaneNo) (cfg : LaneCfg) : State :=
  let t := s.modLane l fun r =>
    { r with cfg := cfg, setState := setStateAfter r.setState r.cfg.capacity cfg.capacity }
  if (s.lane l).cfg.capacity ≠ cfg.capacity || laneOpened s t then t.retry.settle else t

/-- Whether a PUT changes what an occupied lane must keep (R37 check 3). -/
def shapeChanged (old new : LaneCfg) : Bool :=
  old.kind ≠ new.kind || old.role ≠ new.role || old.capacity ≠ new.capacity

/-- PUT to a LANE row (R37). -/
def State.putLaneRow (s : State) (l : LaneNo) (p : List Byte) : Outcome × State :=
  match decodeLane p with
  | none => (.format, s)
  | some cfg =>
    if s.ss.storing then (.busy, s)
    else if (s.lane l).entries ≠ [] ∧ shapeChanged (s.lane l).cfg cfg then (.conflict, s)
    else (clampedIf (8 < field p 2 1), s.writeLane l cfg)

/-! ### CHARGER (R82) -/

/-- P_max as it is stored (R82). -/
def storedPMax (n : Nat) : Nat := stepTen (clamp 10 300 n)

/-- P_min as it is stored beside a P_max (R82). -/
def storedPMin (n pMax : Nat) : Nat := min pMax (stepTen (clamp 10 100 n))

/-- The CHARGER fields of a PUT, after check 1 of R82, the powers clamped; `none` is FORMAT. -/
def decodeCharger (p : List Byte) : Option ChargerCfg :=
  match optAddrField (field p 0 1) with
  | none => none
  | some station =>
    if h : field p 1 1 < 32 ∧ field p 2 1 < 8 ∧ field p 3 1 < 4 then
      some
        { station := station, lane := ⟨field p 1 1, h.1⟩, position := field p 2 1, feeder := ⟨field p 3 1, h.2.2⟩,
          pMax := storedPMax (field p 4 2), pMin := storedPMin (field p 6 2) (storedPMax (field p 4 2)) }
    else none

/-- Whether a configured charger stands at a lane position (R82 check 3). -/
def State.chargerAt (s : State) (c : ChargerNo) (lane : LaneNo) (position : Nat) : Bool :=
  let r := (s.charger c).cfg
  r.station.isSome && r.lane = lane && r.position = position

/-- Whether another configured charger stands at the same lane position (R82 check 3). -/
def State.chargerPlaceTaken (s : State) (c : ChargerNo) (cfg : ChargerCfg) : Bool :=
  cfg.station.isSome && (upTo 64).any fun d => d ≠ c && s.chargerAt d cfg.lane cfg.position

/-- Whether a static change moves a charger (R82). -/
def chargerMoved (old new : ChargerCfg) : Bool :=
  old.station ≠ new.station || old.lane ≠ new.lane || old.position ≠ new.position || old.feeder ≠ new.feeder

/-- A charger takes a new static part (R82): a moved one lets its vehicle go under its old station and owes a SETPOINT
to the new one. -/
def State.moveCharger (s : State) (c : ChargerNo) (cfg : ChargerCfg) : State :=
  if chargerMoved (s.charger c).cfg cfg then
    (s.disconnect c).modCharger c fun r => { r with actual := 0, resend := true, cfg := cfg }
  else s.modCharger c fun r => { r with cfg := cfg }

/-- An accepted PUT to a CHARGER row (R82): a P_max below the grant withdraws it at once. -/
def State.writeCharger (s : State) (c : ChargerNo) (cfg : ChargerCfg) : State :=
  if cfg.pMax < (s.charger c).grant then (s.withdrawGrant c).moveCharger c cfg else s.moveCharger c cfg

/-- PUT to a CHARGER row (R82). -/
def State.putChargerRow (s : State) (c : ChargerNo) (p : List Byte) : Outcome × State :=
  match decodeCharger p with
  | none => (.format, s)
  | some cfg =>
    if s.ss.storing then (.busy, s)
    else if s.chargerPlaceTaken c cfg then (.conflict, s)
    else (clampedIf (cfg.pMax ≠ field p 4 2 || cfg.pMin ≠ field p 6 2), s.writeCharger c cfg)

/-! ### FEEDER (R84) -/

/-- A power in steps of ten up to 2000 kW (R84). -/
def storedPower (n : Nat) : Nat := stepTen (min 2000 n)

/-- The FEEDER fields of a PUT, the numbers clamped; `none` is FORMAT (R84). -/
def decodeFeeder (p : List Byte) : Option FeederCfg :=
  (optAddrField (field p 4 1)).map fun meter =>
    { rated := storedPower (field p 0 2), limit := clamp 10 32767 (field p 2 2), meter := meter,
      fallback := storedPower (field p 5 2) }

/-- A feeder takes a new static part: another meter station makes the last reading absent (R84). -/
def feederWith (r : Feeder) (cfg : FeederCfg) : Feeder :=
  { r with cfg := cfg, reading := if r.cfg.meter = cfg.meter then r.reading else none }

/-- PUT to a FEEDER row (R84). -/
def State.putFeederRow (s : State) (f : FeederNo) (p : List Byte) : Outcome × State :=
  match decodeFeeder p with
  | none => (.format, s)
  | some cfg =>
    if s.ss.storing then (.busy, s)
    else
      (clampedIf (cfg.rated ≠ field p 0 2 || cfg.limit ≠ field p 2 2 || cfg.fallback ≠ field p 5 2),
        s.modFeeder f fun r => feederWith r cfg)

/-! ### BAY (R63) -/

/-- The BAY fields of a PUT; `none` is FORMAT (R63). -/
def decodeBay (p : List Byte) : Option BayCfg := do
  let kind ← queueKinds[field p 0 1]?
  let unit ← optAddrField (field p 1 1)
  let display ← optAddrField (field p 2 1)
  some { kind := kind, unit := unit, display := display }

/-- Whether a bay holds a ticket by its state (R64). -/
def inUse : BayState → Bool
  | .calling | .busy | .faultWait => true
  | .free | .out | .closed => false

/-- PUT to a BAY row (R63). -/
def State.putBayRow (s : State) (b : BayNo) (p : List Byte) : Outcome × State :=
  match decodeBay p with
  | none => (.format, s)
  | some cfg =>
    if s.ss.storing then (.busy, s)
    else if inUse (s.bay b).state ∧ (s.bay b).cfg.kind ≠ cfg.kind then (.conflict, s)
    else (.ok, (s.modBay b fun r => { r with cfg := cfg }).choose b)

/-! ### PARAMS (R183) -/

/-- The parameters that a PUT carries, unclamped, beside a server station. -/
def rawParams (server : Addr) (p : List Byte) : Params :=
  { server := server, supervisionPeriod := field p 1 1, arrivalTimeout := field p 2 1, washInterval := field p 3 1,
    priorityHorizon := field p 4 1, washSkipMargin := field p 5 1, noShowTimeout := field p 6 1,
    retryDelay := field p 7 1, overstayFuel := field p 8 1, overstayWash := field p 9 1, turnLength := field p 10 1,
    ageLimit := field p 11 1, callLead := field p 12 1, departureGrace := field p 13 1 }

/-- Every parameter clamped to its range (R183). -/
def clampParams (p : Params) : Params :=
  { server := p.server, supervisionPeriod := clamp 1 60 p.supervisionPeriod,
    arrivalTimeout := clamp 1 30 p.arrivalTimeout, washInterval := clamp 1 7 p.washInterval,
    priorityHorizon := clamp 0 240 p.priorityHorizon, washSkipMargin := clamp 0 120 p.washSkipMargin,
    noShowTimeout := clamp 1 15 p.noShowTimeout, retryDelay := clamp 1 10 p.retryDelay,
    overstayFuel := clamp 1 30 p.overstayFuel, overstayWash := clamp 1 30 p.overstayWash,
    turnLength := clamp 1 30 p.turnLength, ageLimit := clamp 10 255 p.ageLimit, callLead := clamp 0 30 p.callLead,
    departureGrace := clamp 0 15 p.departureGrace }

/-- PUT to PARAMS (R183). -/
def State.putParamsRow (s : State) (p : List Byte) : Outcome × State :=
  match addrField (field p 0 1) with
  | none => (.format, s)
  | some server =>
    if s.ss.storing then (.busy, s)
    else
      (clampedIf (clampParams (rawParams server p) ≠ rawParams server p),
        { s with ss := { s.ss with params := clampParams (rawParams server p) } })

/-! ### FLEET (R3) -/

/-- The static fields of a FLEET PUT as they are stored; `none` is FORMAT. Batteries and standby targets are absent for a
DIESEL vehicle (R2, R3). -/
def decodeFleet (p : List Byte) : Option Vehicle := do
  let propulsion ← propulsions[field p 3 1]?
  let length ← lengthClasses[field p 4 1]?
  let battery := min 9999 (field p 5 2)
  some
    { tag := field p 0 3, propulsion := propulsion, length := length,
      battery := if propulsion = .electric then some battery else none,
      standby := if propulsion = .electric then some (min battery (min 9999 (field p 7 2))) else none,
      washProgramme := min 7 (field p 9 1), washCounter := min 7 (field p 10 1) }

/-- Whether a FLEET PUT clamps a field (R3). -/
def fleetClamped (r : Vehicle) (p : List Byte) : Bool :=
  (r.propulsion = .electric && (r.battery ≠ some (field p 5 2) || r.standby ≠ some (field p 7 2)))
    || r.washProgramme ≠ field p 9 1 || r.washCounter ≠ field p 10 1

/-- Whether another slot holds a tag (R3 check 2). -/
def State.tagTaken (s : State) (v : Slot) (tag : Nat) : Bool :=
  tag ≠ 0 && (upTo 256).any fun w => w ≠ v && (s.veh w).tag = tag

/-- Whether a row of either bank in state BOUND or CALLED names a slot (R3 check 4). -/
def State.planned (s : State) (v : Slot) : Bool :=
  s.ds.active.any (·.binds v) || s.ds.standby.any (·.binds v)

/-- A fleet record with the static part of another (R3). -/
def withStatic (r new : Vehicle) : Vehicle :=
  { r with tag := new.tag, propulsion := new.propulsion, length := new.length, battery := new.battery,
           standby := new.standby, washProgramme := new.washProgramme, washCounter := new.washCounter }

/-- The fleet record after an accepted PUT (R3): tag 0 empties the slot; a tag in an empty slot begins OUT. -/
def fleetAfter (old new : Vehicle) : Vehicle :=
  if new.tag = 0 then {} else if old.tag = 0 then withStatic {} new else withStatic old new

/-- Whether a PUT changes what only an OUT vehicle may change (R3 check 3). -/
def identityChanged (old new : Vehicle) : Bool :=
  old.tag ≠ new.tag || old.propulsion ≠ new.propulsion || old.length ≠ new.length

/-- PUT to a FLEET row (R3). A PUT of tag 0 stores none of its numbers, so it reports no clamping (log 25). -/
def State.putFleetRow (s : State) (v : Slot) (p : List Byte) : Outcome × State :=
  match decodeFleet p with
  | none => (.format, s)
  | some new =>
    let old := s.veh v
    if s.tagTaken v new.tag then (.conflict, s)
    else if old.tag ≠ 0 ∧ identityChanged old new ∧ old.state ≠ .out then (.conflict, s)
    else if old.tag ≠ 0 ∧ old.tag ≠ new.tag ∧ s.planned v then (.conflict, s)
    else (clampedIf (new.tag ≠ 0 && fleetClamped new p), s.setVeh v (fleetAfter old new))

/-! ### Plan banks (R113, R114) -/

/-- The row that a PUT to a plan bank carries, its numbers clamped and its state derived; `none` is FORMAT (check 1 of
R113 and R114). -/
def State.decodePlanRow (s : State) (p : List Byte) : Option PlanRow :=
  match kindReqs[field p 4 1]?, lengthReqs[field p 5 1]?, optSlotField (field p 8 2) with
  | some kindReq, some lengthReq, some bound =>
    if bound.any fun v => (s.veh v).tag = 0 then none
    else some
      { block := max 1 (field p 0 2), key := min 1439 (field p 2 2), kindReq := kindReq, lengthReq := lengthReq,
        energy := min 9999 (field p 6 2), bound := bound, state := if bound.isSome then .bound else .planned }
  | _, _, _ => none

/-- Whether a PUT to a plan bank clamps a field (R113). -/
def planClamped (r : PlanRow) (p : List Byte) : Bool :=
  r.block ≠ field p 0 2 || r.key ≠ field p 2 2 || r.energy ≠ field p 6 2

/-- A bank with row `i` rewritten, or appended when `i` is the row count (R109). -/
def writeRow (bank : List PlanRow) (i : Nat) (r : PlanRow) : List PlanRow :=
  if i < bank.length then bank.set i r else bank ++ [r]

/-- PUT to a STANDBY row (R113). -/
def State.putStandbyRow (s : State) (i : Nat) (p : List Byte) : Outcome × State :=
  match s.decodePlanRow p with
  | none => (.format, s)
  | some r =>
    if s.ds.swap = .pending then (.busy, s)
    else if s.ds.standby.length < i then (.range, s)
    else
      (clampedIf (planClamped r p), { s with ds := { s.ds with standby := writeRow s.ds.standby i r } })

/-- Whether a row in use may not be rewritten (R114 check 3). -/
def rowFixed (state : RowState) : Bool :=
  match state with
  | .called | .gone | .missed | .cancelled => true
  | .planned | .bound | .short => false

/-- Whether a key keeps the order with its neighbours in use (R114 check 4). -/
def keyFits (bank : List PlanRow) (i key : Nat) : Bool :=
  (i = 0 || (bank[i - 1]?).all fun r => r.key ≤ key) && (bank[i + 1]?).all fun r => key ≤ r.key

/-- Whether another ACTIVE row binds a slot (R114 check 5). -/
def boundElsewhere (bank : List PlanRow) (i : Nat) (v : Slot) : Bool :=
  (bank.mapIdx fun j r => j ≠ i && r.binds v).any id

/-- The bus of a rewritten ACTIVE row is unbound when the PUT gives another slot or none (R114 step 1). -/
def State.unbindRewritten (s : State) (i : Nat) (bound : Option Slot) : State :=
  match s.row i with
  | some old =>
    match old.state, old.bound with
    | .bound, some v => if bound = some v then s else s.clearBinding v
    | _, _ => s
  | none => s

/-- The bus of a written ACTIVE row is bound (R114 step 4). -/
def State.bindWritten (s : State) (i : Nat) (bound : Option Slot) : State :=
  match bound with
  | some v => s.modVeh v fun r => { r with boundRow := some i }
  | none => s

/-- An accepted PUT to an ACTIVE row, one change (R114). -/
def State.writeActive (s : State) (i : Nat) (r : PlanRow) : State :=
  let s := s.unbindRewritten i r.bound
  let s := { s with ds := { s.ds with active := writeRow s.ds.active i r } }
  s.bindWritten i r.bound

/-- PUT to an ACTIVE row (R114). -/
def State.putActiveRow (s : State) (i : Nat) (p : List Byte) : Outcome × State :=
  match s.decodePlanRow p with
  | none => (.format, s)
  | some r =>
    if s.ds.active.length < i then (.range, s)
    else if (s.row i).any fun old => rowFixed old.state then (.conflict, s)
    else if !keyFits s.ds.active i r.key then (.conflict, s)
    else if r.bound.any (boundElsewhere s.ds.active i) then (.conflict, s)
    else if r.bound.any fun v => (s.veh v).held then (.conflict, s)
    else (clampedIf (planClamped r p), s.writeActive i r)

end Sys2Proof.Machine
end

