-- ==== Sys2Proof/Machine/Requests.lean ====
section
/-! DEFINITION. The Table Access Unit: taking a request (R163, R164), telling what it asks (R164, R169, R174, R190), the
answers of SELECT, PUT, FETCH, CLEAR and IDENT (R168 to R172, R178), and the checks of an order (R174, R175). -/

namespace Sys2Proof.Machine

/-! ### What a request asks -/

/-- The orders, in the order of their codes (R191). -/
inductive OrderKind where
  | swapNow | swapAtRollover | cancelSwap | cancelRow | hold | unhold | yardSet | openLane | closeLane
  | openBay | closeBay | clearBay | clearFeeder | clockSet | store | load | reset
  deriving DecidableEq, Repr

/-- The orders by code (R191). -/
def orderKinds : List OrderKind :=
  [.swapNow, .swapAtRollover, .cancelSwap, .cancelRow, .hold, .unhold, .yardSet, .openLane, .closeLane,
   .openBay, .closeBay, .clearBay, .clearFeeder, .clockSet, .store, .load, .reset]

/-- Bytes of an order's operands (R191). -/
def operandBytes : OrderKind → Nat
  | .swapNow | .swapAtRollover | .cancelSwap | .store | .load | .reset => 0
  | .openLane | .closeLane | .openBay | .closeBay | .clearBay | .clearFeeder => 1
  | .cancelRow | .hold | .unhold | .clockSet => 2
  | .yardSet => 3

/-- The class an order needs (R174). -/
def orderClass : OrderKind → Nat
  | .openLane | .closeLane | .openBay | .closeBay | .clearBay => 1
  | .swapNow | .swapAtRollover | .cancelSwap | .cancelRow | .hold | .unhold | .yardSet | .clearFeeder | .clockSet
  | .store | .load | .reset => 0

/-- Which command of the table a request is. -/
inductive Asked where
  /-- of no request kind, of no order kind, or of a length that does not fit (R164, R169, R174) -/
  | malformed
  | select
  | fetch
  | clear
  | ident
  /-- a PUT that reaches the rule of the pointer's table (R169 check 3) -/
  | put (table : Table)
  /-- a PUT refused before it (R169 checks 1 and 2) -/
  | putRefused
  | order (kind : OrderKind)
  /-- YARD_SET with OUT (R18) -/
  | yardSetOut
  deriving DecidableEq, Repr

/-- The class of a requester (R164). -/
def State.requesterClass (s : State) (a : Addr) : Nat :=
  match (s.station a).cfg.kind with
  | .server | .maint => (s.station a).cfg.level
  | .unused => if a = s.ss.params.server then 0 else 3
  | .gateReader | .laneReader | .bayUnit | .charger | .meter | .display => 3

/-- Check 1 of a PUT: the class it needs (R169). -/
def State.meetsPut (s : State) (a : Addr) (t : Table) : Bool :=
  match putClass t with
  | some n => s.requesterClass a ≤ n
  | none => false

/-- What an ORDER asks (R174 check 1, R191). -/
def askedOrder (payload : List Byte) : Asked :=
  match payload with
  | [] => .malformed
  | code :: operands =>
    match orderKinds[code.toNat]? with
    | none => .malformed
    | some k =>
      if operands.length ≠ operandBytes k then .malformed
      else if k = .yardSet ∧ field payload 3 1 = 255 then .yardSetOut
      else .order k

/-- What a PUT asks (R169). -/
def State.askedPut (s : State) (r : Request) : Asked :=
  if r.payload.length ∉ putLengths s.tau.table then .malformed
  else if s.meetsPut r.src s.tau.table ∧ s.tau.row < rowLimit s.tau.table then .put s.tau.table
  else .putRefused

/-- What a request asks (R164, R190). -/
def State.asked (s : State) (r : Request) : Asked :=
  if r.kind = kindSelect then (if r.payload.length = 3 then .select else .malformed)
  else if r.kind = kindPut then s.askedPut r
  else if r.kind = kindFetch then (if r.payload.length = 0 then .fetch else .malformed)
  else if r.kind = kindClear then (if r.payload.length = 4 then .clear else .malformed)
  else if r.kind = kindOrder then askedOrder r.payload
  else if r.kind = kindIdent then (if r.payload.length = 0 then .ident else .malformed)
  else .malformed

/-! ### Taking and answering a request -/

/-- Outcome and data of an answer (R191). -/
structure Reply where
  outcome : Outcome
  data : List Byte
  deriving DecidableEq, Repr

/-- The request the TAU takes next, and those behind it: the oldest of the buffer, when the answer slot is empty and no
soft reset is due (R163, R176; log 22). -/
def State.nextRequest (s : State) : Option (Request × List Request) :=
  match s.dlp.answer, s.dlp.requests with
  | none, r :: rest => if s.dlp.reset = .due then none else some (r, rest)
  | _, _ => none

/-- A request is accepted: it leaves the buffer, and the deferred fault slot is emptied (R163, R164, R177). -/
def State.takeRequest (s : State) (rest : List Request) : State :=
  { s with dlp := { s.dlp with requests := rest }, er := { s.er with deferred := none, further := false } }

/-- The answer that a reply makes, with the snapshot and the fault of the state the request found (R164). -/
def State.answerTo (found : State) (r : Request) (reply : Reply) : Answer :=
  { dest := r.src, summary := found.summary, outcome := reply.outcome, fault := found.er.deferred,
    further := found.er.further, kind := r.kind, data := reply.data }

/-- An answer is placed in the answer slot (R163). -/
def State.placeAnswer (s : State) (a : Answer) : State := { s with dlp := { s.dlp with answer := some a } }

/-- The TAU takes the oldest request, if it is the command asked for, handles it and places its answer (R163, R164); a
command whose request is not there does not take place (log 4, log 7). -/
def State.takeAndAnswer (s : State) (asked : Asked) (handle : Request → State → Reply × State) : State :=
  match s.nextRequest with
  | some (r, rest) =>
    if s.asked r = asked then
      (handle r (s.takeRequest rest)).2.placeAnswer (s.answerTo r (handle r (s.takeRequest rest)).1)
    else s
  | none => s

/-! ### Answers of the table access requests -/

/-- A refusal with an empty payload, or the answer of an order. -/
def reply (o : Outcome) : Reply := ⟨o, []⟩

/-- A request that is not valid (R164). -/
def State.answerMalformed (s : State) (_ : Request) : Reply × State := (reply .format, s)

/-- SELECT (R168). -/
def State.answerSelect (s : State) (r : Request) : Reply × State :=
  match tables[field r.payload 0 1]? with
  | none => (reply .format, s)
  | some t =>
    if readClass t < s.requesterClass r.src then (reply .class, s)
    else if rowLimit t ≤ field r.payload 1 2 then (reply .range, s)
    else (reply .ok, { s with tau := { s.tau with table := t, row := field r.payload 1 2 } })

/-- The data of a FETCH (R170 step 1, R191). -/
def latchData : Option Latch → List Byte
  | some x => taggedRow x.table x.row x.bytes
  | none => noRow

/-- Steps 2 and 3 of a FETCH (R170). -/
def State.advanceLatch (s : State) : State :=
  let t := s.tau.table
  let row := s.tau.row
  if row < rowLimit t then
    { s with tau := { s.tau with row := row + 1, latch := some ⟨t, row, s.readRow t row⟩ } }
  else { s with tau := { s.tau with latch := none } }

/-- Whether a requester may read through the latch (R170). -/
def State.meetsFetch (s : State) (a : Addr) : Bool :=
  s.requesterClass a ≤ readClass s.tau.table && s.tau.latch.all fun x => s.requesterClass a ≤ readClass x.table

/-- FETCH (R170). -/
def State.answerFetch (s : State) (r : Request) : Reply × State :=
  if s.meetsFetch r.src then (⟨.ok, latchData s.tau.latch⟩, s.advanceLatch) else (reply .class, s)

/-- The flag mask of a CLEAR (R191). -/
def maskOf (payload : List Byte) : BitVec 32 := BitVec.ofNat 32 (field payload 0 4)

/-- The class a CLEAR needs: the CLEAR class of EVENTS, or its read class for an empty mask (R172). -/
def clearClass (mask : BitVec 32) : Nat := if mask = 0 then readClass .events else 1

/-- CLEAR (R172). -/
def State.answerClear (s : State) (r : Request) : Reply × State :=
  if s.requesterClass r.src ≤ clearClass (maskOf r.payload) then
    (⟨.ok, s.flagWord⟩, { s with er := { s.er with flags := s.er.flags &&& ~~~ maskOf r.payload } })
  else (reply .class, s)

/-- IDENT (R178). -/
def State.answerIdent (s : State) (_ : Request) : Reply × State := (⟨.ok, s.identData⟩, s)

/-- A PUT refused before the rule of its table: no class meets, or the pointer stands at the row limit (R169). -/
def State.answerPutRefused (s : State) (r : Request) : Reply × State :=
  (reply (if s.meetsPut r.src s.tau.table then .range else .class), s)

/-- The row the access pointer names, tagged, as it stands (R169). -/
def State.pointerRow (s : State) : List Byte := taggedRow s.tau.table s.tau.row (s.readRow s.tau.table s.tau.row)

/-- The access pointer advances within its table (R169). -/
def State.advancePointer (s : State) : State := { s with tau := { s.tau with row := s.tau.row + 1 } }

/-- A PUT that has reached the rule of its table (R169): the answer carries the row as it stood, and an accepted PUT
advances the pointer. -/
def State.answerPut (s : State) (result : Outcome × State) : Reply × State :=
  (⟨result.1, s.pointerRow⟩, if result.1.carriedOut then result.2.advancePointer else s)

/-! ### Orders (R174, R175) -/

/-- Whether an operation of the same kind as an order is in flight (R175). -/
def State.inFlight (s : State) : OrderKind → Bool
  | .store => s.ss.storing
  | .load => s.ss.loading
  | .swapNow | .swapAtRollover => s.ds.swap ≠ .none
  | .cancelSwap | .cancelRow | .hold | .unhold | .yardSet | .openLane | .closeLane | .openBay | .closeBay | .clearBay
  | .clearFeeder | .clockSet | .reset => false

/-- Checks 2 and 3 of an order, then its owner's decision (R174). Check 1 has been made by `asked`. -/
def State.answerOrder (s : State) (r : Request) (k : OrderKind) (owner : Outcome × State) : Reply × State :=
  if orderClass k < s.requesterClass r.src then (reply .class, s)
  else if s.inFlight k then (reply .pending, s)
  else (reply owner.1, owner.2)

/-- The operand of an order, `width` bytes from byte `start` of the payload (R191). -/
def Request.operand (r : Request) (start width : Nat) : Nat := field r.payload start width

/-- An order that names a fleet slot: a slot above 255 is refused with RANGE (R190). -/
def State.withSlot (s : State) (n : Nat) (owner : Slot → Outcome × State) : Outcome × State :=
  if h : n < 256 then owner ⟨n, h⟩ else (.range, s)

/-- An order that names a lane (R36, R17). -/
def State.withLane (s : State) (n : Nat) (owner : LaneNo → Outcome × State) : Outcome × State :=
  if h : n < 32 then owner ⟨n, h⟩ else (.range, s)

/-- An order that names a bay (R79). -/
def State.withBay (s : State) (n : Nat) (owner : BayNo → Outcome × State) : Outcome × State :=
  if h : n < 6 then owner ⟨n, h⟩ else (.range, s)

/-- An order that names a feeder (R105). -/
def State.withFeeder (s : State) (n : Nat) (owner : FeederNo → Outcome × State) : Outcome × State :=
  if h : n < 4 then owner ⟨n, h⟩ else (.range, s)

/-- The shift steps and a pending exchange follow an order that was carried out (R140, R119); a refused order changes
nothing. -/
def settled (result : Outcome × State) : Outcome × State :=
  if result.1.carriedOut then (result.1, result.2.settle) else result

/-- CLEAR_FEEDER of a feeder (R105). -/
def State.clearFeeder (s : State) (f : FeederNo) : Outcome × State :=
  (.ok, s.modFeeder f fun r => { r with state := .normal, accumulator := 0 })

/-- CLOCK_SET (R181): the minute is written, the mark set, and a call scan made at once. -/
def State.setClock (s : State) (minute : Nat) : Outcome × State :=
  (clampedIf (1439 < minute),
    ({ s with ycs := { s.ycs with minute := min 1439 minute, clockSet := true } }).callScan)

/-- STORE (R185): the image is made invalid, and stays so until the STORE has completed. -/
def State.startStore (s : State) : Outcome × State :=
  if s.ss.loading then (.busy, s)
  else (.ok, { s with ss := { s.ss with storing := true, flash := none } })

/-- Whether the yard is in use as a LOAD asks (R186 check 2). -/
def State.yardInUse (s : State) : Bool :=
  ((upTo 32).any fun l => (s.lane l).entries ≠ []) || (upTo 6).any fun b => inUse (s.bay b).state

/-- LOAD (R186). -/
def State.startLoad (s : State) : Outcome × State :=
  if s.ss.storing then (.busy, s)
  else if s.yardInUse then (.conflict, s)
  else (.ok, { s with ss := { s.ss with loading := true } })

/-- RESET (R176): the soft reset waits for its answer's transmission. -/
def State.orderReset (s : State) : Outcome × State := (.ok, { s with dlp := { s.dlp with reset := .ordered } })

end Sys2Proof.Machine
end

