-- ==== Sys2Proof/Machine/Link.lean ====
section
/-! DEFINITION. The Depot Link Port: what arrives on the depot link (R162, R163, R159), the supervision of the server (R182),
and what is sent on it (R165). -/

namespace Sys2Proof.Machine

/-! ### Receiving -/

/-- A valid telegram is counted by the supervision: one from the server station restarts the timer and makes the mode
NORMAL (R162, R182). -/
def State.superviseFrom (s : State) (src : Addr) : State :=
  if src = s.ss.params.server then
    { s with ycs := { s.ycs with mode := .normal, supervision := some s.ss.params.supervisionPeriod } }
  else s

/-- The supervision timer expires (R182). -/
def State.lapse (s : State) : State :=
  match s.ycs.supervision with
  | some _ => ({ s with ycs := { s.ycs with mode := .fallback, supervision := none } }).raise .supervisionLapse
  | none => s

/-- A request joins the request buffer, or finds it full (R163). -/
def State.bufferRequest (s : State) (r : Request) : State :=
  if s.dlp.requests.length < Config.requestCapacity then
    { s with dlp := { s.dlp with requests := s.dlp.requests ++ [r] } }
  else s.raise .linkOverrun

/-- A server directive is checked by the BLC and joins the berth forward FIFO (R159). -/
def State.checkDirective (s : State) (d : Directive) : State :=
  if berthKind (s.station d.dest).cfg.kind then s.forwardDirective d else s.raise .unknownStation

/-! ### Sending (R165) -/

/-- The three sources of the depot link's output (R165). -/
inductive Source where
  | answer | notice | forward
  deriving DecidableEq, Repr

/-- The source of the next telegram, none when the line waits (R165). While a soft reset is due there is none: the answer
to RESET is the last telegram sent under the old state (R176; log 22). -/
def State.nextSource (s : State) : Option Source :=
  match s.dlp.reset with
  | .due => none
  | .none | .ordered =>
    match s.dlp.answer, s.dlp.notices, s.dlp.forwards, s.dlp.pointer with
    | some _, _, _, _ => some .answer
    | none, _ :: _, [], _ => some .notice
    | none, [], _ :: _, _ => some .forward
    | none, _ :: _, _ :: _, .notice => some .notice
    | none, _ :: _, _ :: _, .forward => some .forward
    | none, [], [], _ => none

/-- An answer has been transmitted: the slot is empty, and an ordered soft reset is due (R163, R165, R176). -/
def State.sendAnswer (s : State) : State :=
  match s.dlp.answer with
  | some a =>
    let t := s.sendDepot ⟨s.ownAddr, some a.dest, kindAnswer, answerPayload a⟩
    { t with dlp := { t.dlp with answer := none, reset := if t.dlp.reset = .ordered then .due else t.dlp.reset } }
  | none => s

/-- The oldest notice is sent to the server station (R165, R193). -/
def State.sendNotice (s : State) : State :=
  match s.dlp.notices with
  | n :: rest =>
    let t := s.sendDepot ⟨s.ownAddr, some s.ss.params.server, kindNotice, noticePayload n⟩
    { t with dlp := { t.dlp with notices := rest, pointer := .forward } }
  | [] => s

/-- The oldest forwarded report is sent with its station's source address, its kind and payload unchanged (R165, R188). -/
def State.sendForward (s : State) : State :=
  match s.dlp.forwards with
  | r :: rest =>
    let t := s.sendDepot ⟨r.src, some s.ss.params.server, r.kind, r.payload⟩
    { t with dlp := { t.dlp with forwards := rest, pointer := .notice } }
  | [] => s

/-- Transmit from a source when it is the one R165 chooses (log 4). -/
def State.transmitFrom (s : State) (source : Source) (send : State → State) : State :=
  if s.nextSource = some source then send s else s

end Sys2Proof.Machine
end

