-- ==== Sys2Proof/Machine/Settings.lean ====
section
/-! DEFINITION. The Settings Store and the Yard Clock: the working configuration (R184), power-on and soft reset (R20, R38, R58,
R81, R108, R125, R138, R160, R179, R180, R182, R187), the ends of STORE and LOAD (R185, R186, R161), and the minute
advance (R180). -/

namespace Sys2Proof.Machine

/-! ### The working configuration (R184) -/

/-- The working configuration as it stands (R184). -/
def State.configuration (s : State) : Configuration :=
  { stations := s.blc.stations.map Station.cfg
    lanes := s.lanes.map Lane.cfg
    chargers := s.ca.chargers.map Charger.cfg
    feeders := s.ca.feeders.map Feeder.cfg
    bays := s.stc.bays.map Bay.cfg
    params := s.ss.params }

/-- The set state a lane takes from its capacity (R38). -/
def setStateOf (capacity : Nat) : SetState := if capacity = 0 then .closed else .opened

/-- A lane record at its reset values (R38). -/
def freshLane (cfg : LaneCfg) : Lane := { cfg := cfg, setState := setStateOf cfg.capacity }

/-- The state of the part after power-on with a working configuration: every block at its power-on values. -/
def State.ofConfiguration (c : Configuration) : State :=
  { lanes := c.lanes.map freshLane
    stc := { bays := c.bays.map fun cfg => { cfg := cfg } }
    ca := { chargers := c.chargers.map fun cfg => { cfg := cfg }, feeders := c.feeders.map fun cfg => { cfg := cfg } }
    blc := { stations := c.stations.map fun cfg => { cfg := cfg } }
    ss := { params := c.params } }

/-- The event flags after power-on: CONFIG_DEFAULTED when the image was not usable (R179, R184). -/
def State.defaulted (s : State) (flash : Option Configuration) : State :=
  match flash with
  | some _ => s
  | none => s.raise .configDefaulted

/-- Power-on (R184): the flash image, or the factory defaults; the straps; the flash image itself is kept. -/
def State.startUp (s : State) (straps : Addr) : State :=
  let t := State.ofConfiguration (s.ss.flash.getD {})
  { t.defaulted s.ss.flash with
    ss := { t.ss with flash := s.ss.flash }, ownAddr := straps, pending := s.pending }

/-! ### Soft reset (R176) -/

/-- A fleet record after a soft reset: its static part kept, its dynamic part at the empty-slot values (R20). -/
def Vehicle.afterReset (r : Vehicle) : Vehicle := withStatic {} r

/-- A bay after a soft reset (R81): OUT and CLOSED kept, the call minute kept. -/
def Bay.afterReset (r : Bay) : Bay :=
  { cfg := r.cfg, state := match r.state with
      | .out => .out
      | .closed => .closed
      | .free | .calling | .busy | .faultWait => .free
    callMinute := r.callMinute }

/-- A feeder after a soft reset: its state and accumulator kept (R108). -/
def Feeder.afterReset (r : Feeder) : Feeder := { cfg := r.cfg, state := r.state, accumulator := r.accumulator }

/-- The stations whose frame may still come for a transaction or slot that a soft reset abandons, or that an earlier one
abandoned (R160; log 10). -/
def State.cutOff (s : State) : List Addr :=
  match s.turnStation with
  | some a => a :: s.blc.abandoned.filter (· ≠ a)
  | none => s.blc.abandoned

/-- The soft reset of every block (R20, R38, R58, R81, R108, R125, R138, R160, R179, R182, R187). What was last sent on the
two lines has been sent (log 26). -/
def State.softly (s : State) : State :=
  { fleet := s.fleet.map Vehicle.afterReset
    lanes := s.lanes.map fun r => freshLane r.cfg
    stc := { bays := s.stc.bays.map Bay.afterReset }
    ca := { chargers := s.ca.chargers.map fun r => { cfg := r.cfg }, feeders := s.ca.feeders.map Feeder.afterReset }
    blc := { stations := s.blc.stations.map fun r => { cfg := r.cfg }
             abandoned := s.cutOff, out := s.blc.out }
    dlp := { out := s.dlp.out }
    ycs := { minute := s.ycs.minute, clockSet := s.ycs.clockSet }
    ss := { params := s.ss.params, flash := if s.ss.storing then none else s.ss.flash }
    ownAddr := s.ownAddr
    pending := s.pending }

/-- The soft reset with its flags: SOFT_RESET, and STORE_FAILED when a STORE was abandoned (R179, R187). -/
def State.softReset (s : State) : State :=
  if s.ss.storing then (s.softly.raise .softReset).raise .storeFailed else s.softly.raise .softReset

/-! ### The ends of STORE and LOAD (R185, R186) -/

/-- A STORE ends (R185 steps 3 and 4). `verified` is what the read back of the image finds. -/
def State.endStore (s : State) (verified : Bool) : State :=
  if verified then { s with ss := { s.ss with storing := false, flash := some s.configuration } }
  else (({ s with ss := { s.ss with storing := false, flash := none } }).placeFault .storeVerify).raise .storeFailed

/-- A lane under a LOAD: one with an occupied list keeps its kind, role, capacity and set state (R186, R38). -/
def loadedLane (r : Lane) (cfg : LaneCfg) : Lane :=
  if r.entries = [] then { r with cfg := cfg, setState := setStateOf cfg.capacity }
  else { r with cfg := { r.cfg with reader := cfg.reader, mouth := cfg.mouth } }

/-- A bay under a LOAD: one in use keeps its kind (R186). -/
def loadedBay (r : Bay) (cfg : BayCfg) : Bay :=
  { r with cfg := if inUse r.state then { cfg with kind := r.cfg.kind } else cfg }

/-- The content of the image replaces the working configuration in one change (R186): chargers as R82 states for a PUT, a
P_max below the grant included (R186, R102; log 37), in ascending number, the model's choice of the order of their SETPOINTs
(log 17); feeders with their dynamic parts kept (R108), miss counts and SILENT marks cleared and the poll cycle restarted
(R161). -/
def State.install (s : State) (c : Configuration) : State :=
  let s := forEach (upTo 64) (fun n s => s.writeCharger n (c.chargers.get n)) s
  { s with
    lanes := Vector.zipWith loadedLane s.lanes c.lanes
    stc := { s.stc with bays := Vector.zipWith loadedBay s.stc.bays c.bays }
    ca := { s.ca with feeders := Vector.zipWith (fun r cfg => { r with cfg := cfg }) s.ca.feeders c.feeders }
    blc := { s.blc with stations := c.stations.map fun cfg => { cfg := cfg }, place := none, cycleCount := 0 }
    ss := { s.ss with params := c.params } }

/-- A LOAD ends (R186). The retry and the choice at every eligible FREE bay that follow take in what the recoveries of
R161 call for. -/
def State.endLoad (s : State) : State :=
  let s := { s with ss := { s.ss with loading := false } }
  match s.ss.flash with
  | none => s.placeFault .loadInvalid
  | some c => ((s.install c).retry.chooseAll).settle

/-! ### The minute advance (R180) -/

/-- A block takes a minute advance, with the shift steps that follow its own handling (R140, R180). The YM does nothing
(R26). -/
def State.takeAdvance (s : State) : AdvanceTaker → State
  | .yardMap => s
  | .placement => s.retry.settle
  | .service => s.serviceAdvance.settle
  | .departures => s.departureAdvance
  | .round f => s.round f

/-- The blocks in the order a minute advance reaches them: the order given, each once, and those it leaves out after it
(log 12). -/
def takers (order : List AdvanceTaker) : List AdvanceTaker :=
  order.dedup ++ AdvanceTaker.all.filter fun t => t ∉ order

/-- The minute advances by 1, from 1439 to 0 (R180). -/
def State.nextMinute (s : State) : State :=
  { s with ycs := { s.ycs with minute := (s.ycs.minute + 1) % Config.dayMinutes } }

/-- A minute advance (R180): the queues stand in the order of the new minute before a block takes it (R60). -/
def State.advance (s : State) (order : List AdvanceTaker) : State :=
  forEach (takers order) (fun t s => s.takeAdvance t) ((s.nextMinute.requeueWrapped .fuel).requeueWrapped .wash)

end Sys2Proof.Machine
end

