-- ==== Sys2Proof/Machine/BerthTurns.lean ====
section
/-! DEFINITION. The meanings of the turns of the berth line (R150 to R155) and of a rejected frame (R156). A turn that is not
due does not take place (log 4). -/

namespace Sys2Proof.Machine

/-- POLL: the next station of the poll cycle is polled, or the turn is an idle turn (R150, R152, R153). -/
def execPoll (s : State) : StepResult :=
  .next (match s.blc.turn, s.pollChoice with
    | .poll, (n, some a) => s.beginPoll n a
    | .poll, (n, none) => s.idle n
    | _, _ => s)

/-- IDLE_TURN: when the poll cycle holds no station (R150, R152). -/
def execIdleTurn (s : State) : StepResult :=
  .next (match s.blc.turn, s.pollChoice with
    | .poll, (n, none) => s.idle n
    | _, _ => s)

/-- REPLY_TIMEOUT of the poll transaction in progress (R153). -/
def execReplyTimeout (s : State) : StepResult :=
  .next (match s.blc.turn with
    | .polling a => (s.missPoll a).endPollTurn
    | _ => s)

/-- DIRECTIVE_TURN (R150, R151). -/
def execDirectiveTurn (s : State) : StepResult :=
  .next (match s.blc.turn with
    | .directive => s.sendDirective.afterDirectiveTurn
    | _ => s)

/-- The call-in turn (R150, R155): the transaction count returns to 0, and a slot is held when a station of the berth line is
urgent-capable; `answering` are the stations that answer it. A frame of the winner is for this slot (log 10). -/
def State.callInTurn (s : State) (answering : List Addr) : State :=
  let t := { s with blc := { s.blc with transactions := 0 } }
  if s.holdsSlots then
    ({ t with blc := { t.blc with
        turn := .slot (arbitrate answering)
        abandoned := s.blc.abandoned.filter fun a => arbitrate answering ≠ some a } }).sendBerth
      ⟨s.ownAddr, none, kindCallIn, []⟩
  else { t with blc := { t.blc with turn := .poll } }

/-- CALL_IN (R150, R155). -/
def execCallIn (answering : List Addr) (s : State) : StepResult :=
  .next (match s.blc.turn with
    | .callIn => s.callInTurn answering
    | _ => s)

/-- CALL_IN_TIMEOUT: the slot ends when no station answered (R155). -/
def execCallInTimeout (s : State) : StepResult :=
  .next (match s.blc.turn with
    | .slot none => s.endSlot
    | _ => s)

/-- BERTH_FRAME_REJECTED: a frame that the checks of R156 do not accept. One that they accept is a report, and its own
command (log 4). -/
def execBerthFrameRejected (frame : List Byte) (s : State) : StepResult :=
  .next (if s.verdict (parseTelegram frame) = .accepted then s else s.receiveFrame (parseTelegram frame))

end Sys2Proof.Machine
end

