-- ==== Sys2Proof/Machine/DepotLink.lean ====
section
/-! DEFINITION. The meanings of what arrives on the depot link and of what is sent on it. A command whose row's condition does
not hold does not take place (log 4). -/

namespace Sys2Proof.Machine

/-- LINK_FRAME_CHECK_FAIL (R162, R188). -/
def execLinkFrameCheckFail (frame : List Byte) (s : State) : StepResult :=
  .next (if parseTelegram frame = none then s.raise .lineCheckError else s)

/-- Whether a valid telegram is for another address and of no directive kind (R162); only a CALL_IN kind carries
destination 255 (R188). -/
def State.discards (s : State) (dest : Option Addr) (kind : Byte) : Bool :=
  dest ≠ some s.ownAddr && (directiveOf kind).isNone && (dest.isSome || kind = kindCallIn)

/-- LINK_TELEGRAM_DISCARDED (R162, R182). -/
def execLinkTelegramDiscarded (src : Addr) (dest : Option Addr) (kind : Byte) (_ : List Byte) (s : State) : StepResult :=
  .next (if s.discards dest kind then (s.superviseFrom src).raise .lineCheckError else s)

/-- SERVER_DIRECTIVE (R159, R162, R182). -/
def execServerDirective (src dest : Addr) (kind : DirectiveKind) (payload : List Byte) (s : State) : StepResult :=
  .next (if dest = s.ownAddr then s else (s.superviseFrom src).checkDirective ⟨dest, kind, payload⟩)

/-- REQUEST_RECEIVED (R162, R163, R182). -/
def execRequestReceived (src : Addr) (kind : Byte) (payload : List Byte) (s : State) : StepResult :=
  .next ((s.superviseFrom src).bufferRequest ⟨src, kind, payload⟩)

/-- TRANSMIT_ANSWER (R163, R165). -/
def execTransmitAnswer (s : State) : StepResult := .next (s.transmitFrom .answer State.sendAnswer)

/-- TRANSMIT_NOTICE (R165). -/
def execTransmitNotice (s : State) : StepResult := .next (s.transmitFrom .notice State.sendNotice)

/-- TRANSMIT_FORWARD (R165). -/
def execTransmitForward (s : State) : StepResult := .next (s.transmitFrom .forward State.sendForward)

end Sys2Proof.Machine
end

