-- ==== Sys2Proof/Machine/Orders.lean ====
section
/-! DEFINITION. The meanings of the orders (R174). Each takes the oldest request of the request buffer (log 7). -/

namespace Sys2Proof.Machine

/-- Take the oldest request as an order of a kind: checks 2 and 3 of R174, then the owner. -/
def State.takeOrder (s : State) (k : OrderKind) (owner : Request → State → Outcome × State) : State :=
  s.takeAndAnswer (.order k) fun r s => s.answerOrder r k (owner r s)

/-- SWAP_NOW (R117, R118). -/
def execSwapNow (s : State) : StepResult := .next (s.takeOrder .swapNow fun _ s => s.swapNow)

/-- SWAP_AT_ROLLOVER (R117). -/
def execSwapAtRollover (s : State) : StepResult := .next (s.takeOrder .swapAtRollover fun _ s => s.swapAtRollover)

/-- CANCEL_SWAP (R120). -/
def execCancelSwap (s : State) : StepResult := .next (s.takeOrder .cancelSwap fun _ s => s.cancelSwap)

/-- CANCEL_ROW (R123). -/
def execCancelRow (s : State) : StepResult := .next (s.takeOrder .cancelRow fun r s => s.cancelRow (r.operand 1 2))

/-- HOLD (R16, R124, R144). -/
def execHold (s : State) : StepResult :=
  .next (s.takeOrder .hold fun r s => settled (s.withSlot (r.operand 1 2) s.hold))

/-- UNHOLD (R16, R124). -/
def execUnhold (s : State) : StepResult := .next (s.takeOrder .unhold fun r s => s.withSlot (r.operand 1 2) s.unhold)

/-- YARD_SET to a lane (R17). -/
def execYardSet (s : State) : StepResult :=
  .next (s.takeOrder .yardSet fun r s =>
    settled (s.withLane (r.operand 3 1) fun l => s.withSlot (r.operand 1 2) fun v => s.yardSet v l))

/-- YARD_SET with OUT (R18): the checks of R174 are those of YARD_SET. -/
def execYardSetOut (s : State) : StepResult :=
  .next (s.takeAndAnswer .yardSetOut fun r s =>
    s.answerOrder r .yardSet (settled (s.withSlot (r.operand 1 2) s.yardSetOut)))

/-- OPEN_LANE (R36). -/
def execOpenLane (s : State) : StepResult :=
  .next (s.takeOrder .openLane fun r s => settled (s.withLane (r.operand 1 1) s.openLane))

/-- CLOSE_LANE (R36). -/
def execCloseLane (s : State) : StepResult :=
  .next (s.takeOrder .closeLane fun r s => s.withLane (r.operand 1 1) s.closeLane)

/-- OPEN_BAY (R79). -/
def execOpenBay (s : State) : StepResult := .next (s.takeOrder .openBay fun r s => s.withBay (r.operand 1 1) s.openBay)

/-- CLOSE_BAY (R79). -/
def execCloseBay (s : State) : StepResult := .next (s.takeOrder .closeBay fun r s => s.withBay (r.operand 1 1) s.closeBay)

/-- CLEAR_BAY (R79). -/
def execClearBay (s : State) : StepResult := .next (s.takeOrder .clearBay fun r s => s.withBay (r.operand 1 1) s.clearBay)

/-- CLEAR_FEEDER (R105). -/
def execClearFeeder (s : State) : StepResult :=
  .next (s.takeOrder .clearFeeder fun r s => s.withFeeder (r.operand 1 1) s.clearFeeder)

/-- CLOCK_SET (R181, R127). -/
def execClockSet (s : State) : StepResult := .next (s.takeOrder .clockSet fun r s => s.setClock (r.operand 1 2))

/-- STORE (R185). -/
def execStore (s : State) : StepResult := .next (s.takeOrder .store fun _ s => s.startStore)

/-- LOAD (R186). -/
def execLoad (s : State) : StepResult := .next (s.takeOrder .load fun _ s => s.startLoad)

/-- RESET (R176). -/
def execReset (s : State) : StepResult := .next (s.takeOrder .reset fun _ s => s.orderReset)

end Sys2Proof.Machine
end

