-- ==== Sys2Proof/Machine/Reports.lean ====
section
/-! DEFINITION. The meanings of the reports: each arrives as the frame of its station, is judged by R156 and routed by R157
(R189). -/

namespace Sys2Proof.Machine

/-- NOTHING (R153, R157). -/
def execNothing (src : Addr) (s : State) : StepResult := .next (s.receiveFrame (some (s.reportFrame src kindNothing [])))

/-- GATE_IN (R7 to R11). -/
def execGateIn (src : Addr) (tag : Nat) (s : State) : StepResult :=
  .next (s.receiveFrame (some (s.reportFrame src kindGateIn (tagPayload tag))))

/-- GATE_OUT (R7, R12 to R14, R143). -/
def execGateOut (src : Addr) (tag : Nat) (s : State) : StepResult :=
  .next (s.receiveFrame (some (s.reportFrame src kindGateOut (tagPayload tag))))

/-- LANE_ENTRY (R7, R28 to R31). -/
def execLaneEntry (src : Addr) (tag : Nat) (s : State) : StepResult :=
  .next (s.receiveFrame (some (s.reportFrame src kindLaneEntry (tagPayload tag))))

/-- LANE_EXIT (R7, R32, R33, R142). -/
def execLaneExit (src : Addr) (tag : Nat) (s : State) : StepResult :=
  .next (s.receiveFrame (some (s.reportFrame src kindLaneExit (tagPayload tag))))

/-- BAY_ARRIVE (R7, R70, R71). -/
def execBayArrive (src : Addr) (tag : Nat) (s : State) : StepResult :=
  .next (s.receiveFrame (some (s.reportFrame src kindBayArrive (tagPayload tag))))

/-- BAY_DONE (R73). -/
def execBayDone (src : Addr) (s : State) : StepResult := .next (s.receiveFrame (some (s.reportFrame src kindBayDone [])))

/-- BAY_FAULT (R74, R76). -/
def execBayFault (src : Addr) (s : State) : StepResult :=
  .next (s.receiveFrame (some (s.reportFrame src kindBayFault [])))

/-- CHARGER_REPORT (R86, R87). -/
def execChargerReport (src : Addr) (tag soc power : Nat) (marks : Byte) (s : State) : StepResult :=
  .next (s.receiveFrame (some (s.reportFrame src kindChargerReport (chargerPayload tag soc power marks))))

/-- METER_REPORT (R88). -/
def execMeterReport (src : Addr) (draw : Nat) (s : State) : StepResult :=
  .next (s.receiveFrame (some (s.reportFrame src kindMeterReport (meterPayload draw))))

end Sys2Proof.Machine
end

