-- ==== Sys2Proof/Machine/Supply.lean ====
section
/-! DEFINITION. The meanings of POWER_ON and SOFT_RESET. -/

namespace Sys2Proof.Machine

/-- POWER_ON (R184; at any time, log 28). -/
def execPowerOn (straps : Addr) (s : State) : StepResult := .next (s.startUp straps)

/-- SOFT_RESET: made when the answer to an accepted RESET has been transmitted, and at no other time (R176; log 4). -/
def execSoftReset (s : State) : StepResult := .next (if s.dlp.reset = .due then s.softReset else s)

end Sys2Proof.Machine
end

