-- ==== Sys2Proof/Machine/TableAccess.lean ====
section
/-! DEFINITION. The meanings of the table access requests. Each takes the oldest request of the request buffer (log 7). -/

namespace Sys2Proof.Machine

/-- REQUEST_FORMAT_REFUSED (R164, R169, R174). -/
def execRequestFormatRefused (s : State) : StepResult := .next (s.takeAndAnswer .malformed fun r s => s.answerMalformed r)

/-- SELECT (R168). -/
def execSelect (s : State) : StepResult := .next (s.takeAndAnswer .select fun r s => s.answerSelect r)

/-- FETCH (R170). -/
def execFetch (s : State) : StepResult := .next (s.takeAndAnswer .fetch fun r s => s.answerFetch r)

/-- CLEAR (R172). -/
def execClear (s : State) : StepResult := .next (s.takeAndAnswer .clear fun r s => s.answerClear r)

/-- IDENT (R178). -/
def execIdent (s : State) : StepResult := .next (s.takeAndAnswer .ident fun r s => s.answerIdent r)

/-- PUT to STATION (R148, R169). -/
def execPutStation (s : State) : StepResult :=
  .next (s.takeAndAnswer (.put .station) fun r s => s.answerPut (s.putStationRow (Fin.ofNat 128 s.tau.row) r.payload))

/-- PUT to LANE (R37, R169). -/
def execPutLane (s : State) : StepResult :=
  .next (s.takeAndAnswer (.put .lane) fun r s => s.answerPut (s.putLaneRow (Fin.ofNat 32 s.tau.row) r.payload))

/-- PUT to CHARGER (R82, R169). -/
def execPutCharger (s : State) : StepResult :=
  .next (s.takeAndAnswer (.put .charger) fun r s => s.answerPut (s.putChargerRow (Fin.ofNat 64 s.tau.row) r.payload))

/-- PUT to FEEDER (R84, R169). -/
def execPutFeeder (s : State) : StepResult :=
  .next (s.takeAndAnswer (.put .feeder) fun r s => s.answerPut (s.putFeederRow (Fin.ofNat 4 s.tau.row) r.payload))

/-- PUT to BAY (R63, R169). -/
def execPutBay (s : State) : StepResult :=
  .next (s.takeAndAnswer (.put .bay) fun r s => s.answerPut (s.putBayRow (Fin.ofNat 6 s.tau.row) r.payload))

/-- PUT to PARAMS (R183, R169). -/
def execPutParams (s : State) : StepResult :=
  .next (s.takeAndAnswer (.put .params) fun r s => s.answerPut (s.putParamsRow r.payload))

/-- PUT to FLEET (R3, R169). -/
def execPutFleet (s : State) : StepResult :=
  .next (s.takeAndAnswer (.put .fleet) fun r s => s.answerPut (s.putFleetRow (Fin.ofNat 256 s.tau.row) r.payload))

/-- PUT to ACTIVE (R114, R169). -/
def execPutActive (s : State) : StepResult :=
  .next (s.takeAndAnswer (.put .active) fun r s => s.answerPut (s.putActiveRow s.tau.row r.payload))

/-- PUT to STANDBY (R113, R169). -/
def execPutStandby (s : State) : StepResult :=
  .next (s.takeAndAnswer (.put .standby) fun r s => s.answerPut (s.putStandbyRow s.tau.row r.payload))

/-- A PUT to a read-only table, or refused before the rule of its table (R167, R169). -/
def execPutReadOnly (s : State) : StepResult := .next (s.takeAndAnswer .putRefused fun r s => s.answerPutRefused r)

end Sys2Proof.Machine
end

