-- ==== Sys2Proof/Machine/Time.lean ====
section
/-! DEFINITION. The meanings of the events of time: the minute advance, the expiries of the timers, and the ends of STORE and
LOAD. An expiry takes place while its timer runs (log 4, log 6). -/

namespace Sys2Proof.Machine

/-- MINUTE_ADVANCE (R180). -/
def execMinuteAdvance (order : List AdvanceTaker) (s : State) : StepResult := .next (s.advance order)

/-- SUPERVISION_TIMEOUT (R182). -/
def execSupervisionTimeout (s : State) : StepResult := .next s.lapse

/-- ARRIVAL_TIMEOUT (R34). -/
def execArrivalTimeout (lane : LaneNo) (slot : Slot) (s : State) : StepResult := .next (s.arrivalLapse slot lane).settle

/-- NO_SHOW_TIMEOUT (R72). -/
def execNoShowTimeout (bay : BayNo) (s : State) : StepResult := .next (s.noShow bay).settle

/-- RETRY_TIMEOUT (R75). -/
def execRetryTimeout (bay : BayNo) (s : State) : StepResult := .next (s.retryBay bay)

/-- OVERSTAY_TIMEOUT (R77). -/
def execOverstayTimeout (bay : BayNo) (s : State) : StepResult := .next (s.overstayed bay)

/-- STORE_COMPLETE (R185). -/
def execStoreComplete (verified : Bool) (s : State) : StepResult :=
  .next (if s.ss.storing then s.endStore verified else s)

/-- LOAD_COMPLETE (R186, R161). -/
def execLoadComplete (s : State) : StepResult := .next (if s.ss.loading then s.endLoad else s)

end Sys2Proof.Machine
end

