-- ==== Sys2Proof/Machine/Dispatch.lean ====
section
/-! DEFINITION. The meaning of every command, one arm each. -/

namespace Sys2Proof.Machine

def exec (i : Instr) (s : State) : Host.Outcome State Fault Refusal :=
  match i with
  | .powerOn straps => Sys2Proof.Machine.execPowerOn straps s
  | .softReset => Sys2Proof.Machine.execSoftReset s
  | .poll => Sys2Proof.Machine.execPoll s
  | .idleTurn => Sys2Proof.Machine.execIdleTurn s
  | .replyTimeout => Sys2Proof.Machine.execReplyTimeout s
  | .directiveTurn => Sys2Proof.Machine.execDirectiveTurn s
  | .callIn answering => Sys2Proof.Machine.execCallIn answering s
  | .callInTimeout => Sys2Proof.Machine.execCallInTimeout s
  | .berthFrameRejected frame => Sys2Proof.Machine.execBerthFrameRejected frame s
  | .nothing src => Sys2Proof.Machine.execNothing src s
  | .gateIn src tag => Sys2Proof.Machine.execGateIn src tag s
  | .gateOut src tag => Sys2Proof.Machine.execGateOut src tag s
  | .laneEntry src tag => Sys2Proof.Machine.execLaneEntry src tag s
  | .laneExit src tag => Sys2Proof.Machine.execLaneExit src tag s
  | .bayArrive src tag => Sys2Proof.Machine.execBayArrive src tag s
  | .bayDone src => Sys2Proof.Machine.execBayDone src s
  | .bayFault src => Sys2Proof.Machine.execBayFault src s
  | .chargerReport src tag soc power marks => Sys2Proof.Machine.execChargerReport src tag soc power marks s
  | .meterReport src draw => Sys2Proof.Machine.execMeterReport src draw s
  | .linkFrameCheckFail frame => Sys2Proof.Machine.execLinkFrameCheckFail frame s
  | .linkTelegramDiscarded src dest kind payload => Sys2Proof.Machine.execLinkTelegramDiscarded src dest kind payload s
  | .serverDirective src dest kind payload => Sys2Proof.Machine.execServerDirective src dest kind payload s
  | .requestReceived src kind payload => Sys2Proof.Machine.execRequestReceived src kind payload s
  | .requestFormatRefused => Sys2Proof.Machine.execRequestFormatRefused s
  | .select => Sys2Proof.Machine.execSelect s
  | .fetch => Sys2Proof.Machine.execFetch s
  | .clear => Sys2Proof.Machine.execClear s
  | .ident => Sys2Proof.Machine.execIdent s
  | .putStation => Sys2Proof.Machine.execPutStation s
  | .putLane => Sys2Proof.Machine.execPutLane s
  | .putCharger => Sys2Proof.Machine.execPutCharger s
  | .putFeeder => Sys2Proof.Machine.execPutFeeder s
  | .putBay => Sys2Proof.Machine.execPutBay s
  | .putParams => Sys2Proof.Machine.execPutParams s
  | .putFleet => Sys2Proof.Machine.execPutFleet s
  | .putActive => Sys2Proof.Machine.execPutActive s
  | .putStandby => Sys2Proof.Machine.execPutStandby s
  | .putReadOnly => Sys2Proof.Machine.execPutReadOnly s
  | .swapNow => Sys2Proof.Machine.execSwapNow s
  | .swapAtRollover => Sys2Proof.Machine.execSwapAtRollover s
  | .cancelSwap => Sys2Proof.Machine.execCancelSwap s
  | .cancelRow => Sys2Proof.Machine.execCancelRow s
  | .hold => Sys2Proof.Machine.execHold s
  | .unhold => Sys2Proof.Machine.execUnhold s
  | .yardSet => Sys2Proof.Machine.execYardSet s
  | .yardSetOut => Sys2Proof.Machine.execYardSetOut s
  | .openLane => Sys2Proof.Machine.execOpenLane s
  | .closeLane => Sys2Proof.Machine.execCloseLane s
  | .openBay => Sys2Proof.Machine.execOpenBay s
  | .closeBay => Sys2Proof.Machine.execCloseBay s
  | .clearBay => Sys2Proof.Machine.execClearBay s
  | .clearFeeder => Sys2Proof.Machine.execClearFeeder s
  | .clockSet => Sys2Proof.Machine.execClockSet s
  | .store => Sys2Proof.Machine.execStore s
  | .load => Sys2Proof.Machine.execLoad s
  | .reset => Sys2Proof.Machine.execReset s
  | .transmitAnswer => Sys2Proof.Machine.execTransmitAnswer s
  | .transmitNotice => Sys2Proof.Machine.execTransmitNotice s
  | .transmitForward => Sys2Proof.Machine.execTransmitForward s
  | .minuteAdvance order => Sys2Proof.Machine.execMinuteAdvance order s
  | .supervisionTimeout => Sys2Proof.Machine.execSupervisionTimeout s
  | .arrivalTimeout lane slot => Sys2Proof.Machine.execArrivalTimeout lane slot s
  | .noShowTimeout bay => Sys2Proof.Machine.execNoShowTimeout bay s
  | .retryTimeout bay => Sys2Proof.Machine.execRetryTimeout bay s
  | .overstayTimeout bay => Sys2Proof.Machine.execOverstayTimeout bay s
  | .storeComplete verified => Sys2Proof.Machine.execStoreComplete verified s
  | .loadComplete => Sys2Proof.Machine.execLoadComplete s

end Sys2Proof.Machine
end

