-- ==== Sys2Proof/Safety.lean ====
section
/-! DEFINITION. What the claims speak of: the laws that spec/ says hold of every state of the part, and the situations in
which a command takes effect (a request at the front of the buffer, a report that answers a poll). -/

namespace Sys2Proof.Machine

/-! ### Laws -/

/-- No FIFO or buffer holds more than its capacity (R158, R159, R163, R166). -/
def State.BuffersBounded (s : State) : Prop :=
  s.blc.originFifo.length ≤ 16 ∧ s.blc.forwardFifo.length ≤ 16 ∧ s.dlp.requests.length ≤ 4
    ∧ s.dlp.notices.length ≤ 16 ∧ s.dlp.forwards.length ≤ 32

/-- The supervision timer runs exactly in NORMAL (R182), and the minute is a minute of the service day (R180). -/
def State.SupervisionLaw (s : State) : Prop :=
  (s.ycs.mode = .normal ↔ s.ycs.supervision.isSome) ∧ s.ycs.minute < 1440

/-- Miss counts are 0..3, a station is SILENT exactly at 3 (R149), and the line's counters are in range (R150, R152). A
station whose polled mark is clear is never SILENT (R149): it has at most the miss of a poll that was in flight when the
mark was cleared (R148). -/
def State.StationLaw (s : State) : Prop :=
  (∀ a, (s.station a).misses ≤ 3 ∧ ((s.station a).silent = true ↔ (s.station a).misses = 3)
      ∧ ((s.station a).cfg.polled = false → (s.station a).silent = false ∧ (s.station a).misses ≤ 1
          ∧ (s.blc.turn = .polling a → (s.station a).misses = 0)))
    ∧ s.blc.transactions ≤ 16 ∧ s.blc.cycleCount < 8

/-- At most one of STORE and LOAD is in flight, and the flash image is invalid while a STORE is (R185, R186). -/
def State.SettingsLaw (s : State) : Prop :=
  ¬ (s.ss.storing = true ∧ s.ss.loading = true) ∧ (s.ss.storing = true → s.ss.flash = none)

/-- The law of the grants (R89, R98, R102): a nonzero grant belongs to a charger that could be a candidate; grants are
multiples of 10 up to the charger's maximum; their sum on a feeder is at most its budget, and 0 when it is TRIPPED. -/
def State.GrantLaw (s : State) : Prop :=
  (∀ c, (s.charger c).grant ≤ (s.charger c).cfg.pMax ∧ (s.charger c).grant % 10 = 0
      ∧ (0 < (s.charger c).grant → s.isCandidate c = true))
    ∧ ∀ f, s.grantSum f ≤ (s.feeder f).budget ∧ ((s.feeder f).state = .tripped → s.grantSum f = 0)

/-- A charger's connected vehicle is PARKED with its PRESENT entry covering the charger's position (R87, R90). So a
nonzero grant goes to such a vehicle only, and only while the charger's station is configured and not SILENT (R89). -/
def State.ConnectionLaw (s : State) : Prop :=
  ∀ c, (∀ v, (s.charger c).connected = some v → s.parkedAt v c = true)
    ∧ (0 < (s.charger c).grant → s.heard (s.charger c).cfg.station = true
        ∧ ∃ v, (s.charger c).connected = some v ∧ s.parkedAt v c = true)

/-- A feeder's accumulator stays within 0..65535, and a feeder in SHED has a nonzero accumulator (R95). -/
def State.FeederLaw (s : State) : Prop :=
  ∀ f, (s.feeder f).accumulator ≤ 65535 ∧ ((s.feeder f).state = .shed → (s.feeder f).accumulator ≠ 0)

/-- The range of a station table entry's index, by its kind (R147). -/
def StationCfg.indexInRange (c : StationCfg) : Prop :=
  c.index ≤ match c.kind with
    | .laneReader => 31
    | .bayUnit => 5
    | .charger => 63
    | .meter => 3
    | .display => 2
    | .gateReader | .server | .maint | .unused => 0

/-- Every parameter is in its range (R183). -/
def Params.InRange (p : Params) : Prop := clampParams p = p

/-- Every field of a configuration is in its range (R21, R82, R84, R147, R183). -/
def Configuration.InRange (c : Configuration) : Prop :=
  (∀ a, (c.stations.get a).indexInRange ∧ (c.stations.get a).level ≤ 3)
    ∧ (∀ l, (c.lanes.get l).capacity ≤ 8)
    ∧ (∀ n, (c.chargers.get n).position ≤ 7 ∧ 10 ≤ (c.chargers.get n).pMax ∧ (c.chargers.get n).pMax ≤ 300
        ∧ (c.chargers.get n).pMax % 10 = 0 ∧ 10 ≤ (c.chargers.get n).pMin ∧ (c.chargers.get n).pMin ≤ 100
        ∧ (c.chargers.get n).pMin ≤ (c.chargers.get n).pMax ∧ (c.chargers.get n).pMin % 10 = 0)
    ∧ (∀ f, (c.feeders.get f).rated ≤ 2000 ∧ (c.feeders.get f).rated % 10 = 0 ∧ 10 ≤ (c.feeders.get f).limit
        ∧ (c.feeders.get f).limit ≤ 32767 ∧ (c.feeders.get f).fallback ≤ 2000 ∧ (c.feeders.get f).fallback % 10 = 0)
    ∧ c.params.InRange

/-- The working configuration and the flash image are in range (R21, R82, R84, R147, R183). -/
def State.RangeLaw (s : State) : Prop :=
  s.configuration.InRange ∧ ∀ c, s.ss.flash = some c → c.InRange

/-- An empty slot holds the empty-slot values, and no two slots hold one tag (R1); a held bus has no bound row (R16); a bus
whose shift mark is set is TO_BERTH (R4), and one that stands PRESENT in its lane with a reservation in a shunt lane has the
mark set (R56); a bus with no entry in a lane has no misorder mark (R27). -/
def State.FleetLaw (s : State) : Prop :=
  (∀ v, ((s.veh v).tag = 0 → s.veh v = {})
      ∧ ((s.veh v).held = true → (s.veh v).boundRow = none)
      ∧ ((s.veh v).shift = true → (s.veh v).state = .toBerth)
      ∧ (∀ l m, (s.veh v).location = .lane l .present (some m) → (s.veh v).shift = true)
      ∧ (s.inSomeLane v = false → (s.veh v).misorder = false))
    ∧ ∀ v w, (s.veh v).tag = (s.veh w).tag → (s.veh v).tag ≠ 0 → v = w

/-- The places a slot stands in: its entries in lane lists by ascending lane, its tickets in the queues, the bays that hold
a ticket of it, and its entries in the wait list (R6). -/
structure Places where
  lanes : List (LaneNo × Standing) := []
  queues : List QueueKind := []
  bays : List BayNo := []
  waits : Nat := 0
  deriving DecidableEq, Repr

/-- The places in which a slot stands. -/
def State.placesOf (s : State) (v : Slot) : Places :=
  { lanes := (upTo 32).flatMap fun l => ((s.lane l).entries.filter fun e => e.slot = v).map fun e => (l, e.standing)
    queues := ((s.queue .fuel ++ s.queue .wash).filter fun t => t.slot = v).map Ticket.kind
    bays := (upTo 6).filter fun b => s.bayHolds b v
    waits := (s.waitList.filter fun w => w.slot = v).length }

/-- The places that the state and the location record of a vehicle name (the tables of R5 and R6); `none` where the two do
not go together. -/
def placesNamed : VehicleState → Location → Option Places
  | .out, .none | .lost, .none | .moving, .enRoute _ | .departing, .enRoute none => some {}
  | .inbound, .gate => some { waits := 1 }
  | .service, .queue k => some { queues := [k] }
  | .service, .bay b => some { bays := [b] }
  | .toBerth, .lane l .expected none => some { lanes := [(l, .expected)] }
  | .toBerth, .lane l .present (some m) =>
    if l < m then some { lanes := [(l, .present), (m, .expected)] }
    else if m < l then some { lanes := [(m, .expected), (l, .present)] }
    else none
  | .parked, .lane l .present none | .called, .lane l .present none => some { lanes := [(l, .present)] }
  | _, _ => none

/-- Each slot stands in one place, or a shifted blocker in its two lane entries, and its state and location record name
exactly that (R5, R6); so the wait list holds no slot twice (R52), and no slot has two live tickets (R59). -/
def State.PlaceLaw (s : State) : Prop :=
  ∀ v, placesNamed (s.veh v).state (s.veh v).location = some (s.placesOf v)

/-- The law of the lane lists: the units of the entries fit the capacity less the window front, no slot stands twice in a
list, the front is 0 in a DEAD_END lane and in an empty one (R22, R24); an EXPECTED entry has its timer running unless it
is the shunt reservation of a bus that has not left its lane, and a PRESENT entry has none (R22, R26). -/
def State.LaneLaw (s : State) : Prop :=
  ∀ l, s.unitsIn (s.lane l).entries + (s.lane l).front ≤ (s.lane l).cfg.capacity
    ∧ ((s.lane l).entries.map Entry.slot).Nodup
    ∧ ((s.lane l).cfg.kind = .deadEnd ∨ (s.lane l).entries = [] → (s.lane l).front = 0)
    ∧ ∀ e ∈ (s.lane l).entries,
        e.timer.isSome ↔ e.standing = .expected ∧ (s.presentLane e.slot) = none

/-- The law of the shift records: a lane's record is SHIFTING with a blocker exactly while that bus stands PRESENT in the lane
with a reservation in a shunt lane (R56, R138). -/
def State.ShiftLaw (s : State) : Prop :=
  ∀ l v, s.shiftRecord l = .shifting v ↔ ∃ m, (s.veh v).location = .lane l .present (some m)

/-- The law of the tickets: a queue holds WAITING tickets of its kind, a bay a ticket of its kind, CALLED_TO_BAY while it is
CALLING and IN_BAY after; the no-show count is 0 or 1; and no more than 64 tickets of a kind are live (R59, R60, R64). -/
def State.TicketLaw (s : State) : Prop :=
  (∀ k, ∀ t ∈ s.queue k, t.kind = k ∧ t.state = .waiting ∧ t.noShows ≤ 1)
    ∧ (∀ b t, (s.bay b).ticket = some t → t.kind = (s.bay b).cfg.kind ∧ t.noShows ≤ 1
        ∧ (t.state = .calledToBay ↔ (s.bay b).state = .calling)
        ∧ (t.state = .inBay ↔ (s.bay b).state = .busy ∨ (s.bay b).state = .faultWait))
    ∧ ∀ k, s.liveTickets k ≤ 64

/-- The law of the bindings: a bound row field names an ACTIVE row exactly when that row, BOUND or CALLED, holds the slot
(R112); a bus is CALLED or DEPARTING exactly while that row is CALLED (R6, section 7.7); a row has a bound slot as its
state says, and the BLOCKED and carried marks only while it is CALLED (R111, R128, R137); the STANDBY rows name slots that
hold a vehicle (R113, R3); and a PENDING swap has a valid STANDBY bank (R116, R119). -/
def State.BindingLaw (s : State) : Prop :=
  (∀ v i, (s.veh v).boundRow = some i ↔ ∃ r, s.row i = some r ∧ r.binds v = true)
    ∧ (∀ v, (s.veh v).state = .called ∨ (s.veh v).state = .departing ↔
        ∃ r, s.boundPlan v = some r ∧ r.state = .called)
    ∧ (∀ r ∈ s.ds.active,
        (r.state = .bound ∨ r.state = .called ∨ r.state = .gone → r.bound.isSome = true)
        ∧ (r.state = .planned ∨ r.state = .short ∨ r.state = .cancelled → r.bound = none)
        ∧ (r.blocked = true ∨ r.carried = true → r.state = .called))
    ∧ (∀ r ∈ s.ds.standby, (r.state = .bound ↔ r.bound.isSome = true) ∧ (r.blocked || r.carried) = false
        ∧ ∀ v, r.bound = some v → (s.veh v).tag ≠ 0)
    ∧ (s.ds.swap = .pending → validBank s.ds.standby = true)

/-- A bay in CALLING, BUSY or FAULT_WAIT holds a ticket and no other does; its timers run as the table of R64 says. -/
def State.BayLaw (s : State) : Prop :=
  ∀ b, ((s.bay b).ticket.isSome ↔ (s.bay b).state = .calling ∨ (s.bay b).state = .busy ∨ (s.bay b).state = .faultWait)
    ∧ ((s.bay b).noShowTimer.isSome ↔ (s.bay b).state = .calling)
    ∧ ((s.bay b).retryTimer.isSome ↔ (s.bay b).state = .faultWait)
    ∧ ((s.bay b).overstayTimer.isSome → (s.bay b).state = .busy ∨ (s.bay b).state = .faultWait)

/-- The keys of the ACTIVE bank do not decrease (R114); a STANDBY row is PLANNED or BOUND (R111); a PENDING swap has a
STANDBY bank in key order (R117, R119, R122); no bank has more than 200 rows (R109). -/
def State.PlanLaw (s : State) : Prop :=
  (s.ds.active.map PlanRow.key).Pairwise (· ≤ ·) ∧ s.ds.active.length ≤ 200 ∧ s.ds.standby.length ≤ 200
    ∧ (∀ r ∈ s.ds.standby, r.state = .planned ∨ r.state = .bound)
    ∧ (s.ds.swap = .pending → (s.ds.standby.map PlanRow.key).Pairwise (· ≤ ·))

/-- Between commands no lane is owed a shift step (R140) and no exchange is due (R119). -/
def State.AtRest (s : State) : Prop :=
  s.ds.stepDue = [] ∧ ¬ (s.ds.swap = .pending ∧ s.anyCalled = false)

/-- All the laws together: what is true of every state the part reaches from a reset. Each statement that a step keeps a
law of the yard has this premise, because the laws of the yard rest on one another. -/
def State.Lawful (s : State) : Prop :=
  (s.BuffersBounded ∧ s.SupervisionLaw ∧ s.StationLaw ∧ s.SettingsLaw ∧ s.GrantLaw ∧ s.BayLaw ∧ s.PlanLaw ∧ s.AtRest)
    ∧ s.RangeLaw ∧ s.FleetLaw ∧ s.PlaceLaw ∧ s.LaneLaw ∧ s.ShiftLaw
    ∧ s.TicketLaw ∧ s.BindingLaw ∧ s.FeederLaw ∧ s.ConnectionLaw

/-! ### A request and its answer -/

/-- The TAU can take request `r`, the oldest of the buffer (R163). -/
def State.Takes (s : State) (r : Request) (rest : List Request) : Prop :=
  s.dlp.answer = none ∧ s.dlp.requests = r :: rest ∧ s.dlp.reset ≠ .due

/-- The state in which request `r` has been taken and answered, and nothing else has changed (R163, R164, R177). -/
def State.answered (s : State) (r : Request) (rest : List Request) (outcome : Outcome) (data : List Byte) : State :=
  { s with
    dlp := { s.dlp with
      requests := rest
      answer := some
        { dest := r.src, summary := s.summary, outcome := outcome, fault := s.er.deferred, further := s.er.further,
          kind := r.kind, data := data } }
    er := { s.er with deferred := none, further := false } }

/-- Request `r` is an order of class 0 rank with this code and these operand bytes, and the TAU can take it. -/
def State.TakesOrder (s : State) (r : Request) (rest : List Request) (code : Byte) (operands : List Byte) : Prop :=
  s.Takes r rest ∧ r.kind = 53 ∧ r.payload = code :: operands ∧ s.requesterClass r.src = 0

/-- Request `r` is a PUT of class 0 to the row the access pointer names, and the TAU can take it (R169). -/
def State.TakesPut (s : State) (r : Request) (rest : List Request) (table : Table) (row : Nat) : Prop :=
  s.Takes r rest ∧ r.kind = 50 ∧ s.requesterClass r.src = 0 ∧ s.tau.table = table ∧ s.tau.row = row
    ∧ row < rowLimit table

/-- The state in which a PUT has been taken and refused by the rule of its table: answered with the row as it stands, and
nothing else has changed (R169). -/
def State.putRefused (s : State) (r : Request) (rest : List Request) (outcome : Outcome) : State :=
  s.answered r rest outcome (taggedRow s.tau.table s.tau.row (s.readRow s.tau.table s.tau.row))

/-- The state in which a PUT has been taken and carried out as far as the TAU goes: answered with the row as it stood, and
the pointer advanced (R169). -/
def State.putAnswered (s : State) (r : Request) (rest : List Request) (outcome : Outcome) : State :=
  { s.putRefused r rest outcome with tau := { s.tau with row := s.tau.row + 1 } }

/-- A field that carries a station address or its absence carries neither: 128..254 (R190). -/
def noStation (n : Nat) : Prop := 128 ≤ n ∧ n ≤ 254

/-! ### A report -/

/-- The source, kind and payload of the frame a report command stands for (R188, R189). -/
def reportOf : Instr → Option (Addr × Byte × List Byte)
  | .nothing src => some (src, 10, [])
  | .gateIn src tag => some (src, 1, toBytes 3 tag)
  | .gateOut src tag => some (src, 2, toBytes 3 tag)
  | .laneEntry src tag => some (src, 3, toBytes 3 tag)
  | .laneExit src tag => some (src, 4, toBytes 3 tag)
  | .bayArrive src tag => some (src, 5, toBytes 3 tag)
  | .bayDone src => some (src, 6, [])
  | .bayFault src => some (src, 7, [])
  | .chargerReport src tag soc power marks => some (src, 8, toBytes 3 tag ++ toBytes 2 soc ++ toBytes 2 power ++ [marks])
  | .meterReport src draw => some (src, 9, toBytes 2 draw)
  | _ => none

/-- A report of a kind from station `src` answers the poll in progress and is accepted (R153, R156). -/
def State.Answers (s : State) (src : Addr) (kind : Byte) : Prop :=
  s.blc.turn = .polling src ∧ s.knownSource src = true ∧ sends (s.station src).cfg.kind kind = true

/-- An accepted reply from a station that is not SILENT, whose report its owner acts on and nobody forwards (R157), in a
state at rest. -/
def State.Delivers (s : State) (src : Addr) (kind : Byte) : Prop :=
  s.Answers src kind ∧ (s.station src).silent = false ∧ (s.station src).cfg.action = .consume ∧ s.AtRest

/-- The state in which an accepted reply has ended its poll transaction, and nothing else has changed (R150, R153). The turn
register, and that the transaction count rises here, are the model's inference (log 8). -/
def State.replied (s : State) (src : Addr) : State :=
  { s with
    blc := { s.blc with
      stations := s.blc.stations.set src.val { s.station src with misses := 0 } src.isLt
      turn := .directive
      transactions := min 16 (s.blc.transactions + 1) } }

/-- The tickets of each queue are of its kind (R60). -/
def State.QueuesOfTheirKind (s : State) : Prop := ∀ k, ∀ t ∈ s.queue k, t.kind = k

/-- A vehicle stands in no lane, queue, bay or wait list (R10). -/
def State.StandsNowhere (s : State) (v : Slot) : Prop :=
  s.inSomeLane v = false ∧ s.hasTicket v = false ∧ ∀ w ∈ s.waitList, w.slot ≠ v

/-- Between `s` and `t` the call of a bus has been undone: the row that was CALLED for it is PLANNED and unbound, and keeps
what R144 and R145 keep, unless an exchange that was PENDING has replaced the bank. -/
def CallUndone (s t : State) (v : Slot) : Prop :=
  ∀ i r, (s.veh v).boundRow = some i → s.row i = some r → r.state = .called → s.ds.swap ≠ .pending →
    t.row i = some { r with state := .planned, bound := none, blocked := false, carried := false }
      ∧ (t.veh v).boundRow = none

/-- No call is blocked: no CALLED row of the ACTIVE bank has its BLOCKED mark set (R137). -/
def State.NoneBlocked (s : State) : Prop := ∀ r ∈ s.ds.active, ¬ (r.state = .called ∧ r.blocked = true)

end Sys2Proof.Machine
end

