-- ==== Sys2Proof/Certificates/Slice0/Obligations.lean ====
section
/-! DEFINITION. The statements for the provers. A statement about a command says what state it answers (`exec c s = .next t`),
under hypotheses on the state and the operands alone. -/

open Sys2Proof Sys2Proof.Machine

/-- Fields laid out one after the other, each with its width in bytes and its value (R188 to R193). -/
def laidOut (fields : List (Nat × Nat)) : List Byte := fields.flatMap fun f => toBytes f.1 f.2

/-- The value of byte `n` of a payload. -/
def byteOf (payload : List Byte) (n : Nat) : Nat := (payload.getD n 0).toNat

/-! ### The queue and the telegrams -/

/-- A step takes the command at the front of the queue and does what exec does with it on the state with the queue's
rest; an empty queue idles, which is the model's choice (log 5). -/
def Obligations.StepRunsFrontCommand : Prop :=
  (∀ c rest s, s.pending = c :: rest → step s = exec c { s with pending := rest })
    ∧ ∀ s : State, s.pending = [] → step s = .next s

/-- Every telegram of R188 is read back from its bytes. What the check and length tests of R188 let through is a telegram of
R188, byte for byte. On a line each byte is one character, a start bit, eight data bits with the most significant first and a
stop bit, so the bits of a telegram determine it too. -/
def Obligations.TelegramsRoundTrip : Prop :=
  (∀ t : Telegram, t.payload.length ≤ 48 → (t.dest = none → t.kind = 34) → parseTelegram (telegramBytes t) = some t)
  ∧ (∀ bytes t, parseTelegram bytes = some t →
    bytes = telegramBytes t ∧ t.payload.length ≤ 48 ∧ (t.dest = none → t.kind = 34))
  ∧ (∀ b : Byte, character b =
      [.start, .data (b.getLsbD 7), .data (b.getLsbD 6), .data (b.getLsbD 5), .data (b.getLsbD 4), .data (b.getLsbD 3),
        .data (b.getLsbD 2), .data (b.getLsbD 1), .data (b.getLsbD 0), .stop])
  ∧ (∀ t : Telegram, (encodeTelegram t).length = 10 * (t.payload.length + 6)
      ∧ ∀ n b, (telegramBytes t)[n]? = some b → ((encodeTelegram t).drop (10 * n)).take 10 = character b)
  ∧ ∀ t u : Telegram, t.payload.length ≤ 48 → (t.dest = none → t.kind = 34) → u.payload.length ≤ 48 →
    (u.dest = none → u.kind = 34) → encodeTelegram t = encodeTelegram u → t = u

/-! ### Reset -/

/-- The state after reset meets every law of Safety.lean, on which the EveryStepKeeps statements rest. -/
def Obligations.ResetMeetsEveryLaw : Prop := State.reset.Lawful

/-- POWER_ON with a valid flash image: that configuration, and every block at its power-on values. POWER_ON with an
invalid flash image gives the factory state with CONFIG_DEFAULTED, which `State.reset` is. The model's choices: that
`State.reset` has no usable image (log 2); that POWER_ON may come in every state, and keeps the flash and the queue of commands
(log 28, 5); that nothing stands on either line after it (log 26); and that a poll turn is next, no frame is awaited and no
shift step is owed (log 8, 10, 13). -/
def Obligations.PowerOnLoadsTheImage : Prop :=
  (∀ straps s (c : Configuration), s.ss.flash = some c →
    exec (.powerOn straps) s = .next
      { fleet := Vector.replicate 256 {}
        lanes := c.lanes.map fun k => ⟨k, if k.capacity = 0 then .closed else .opened, 0, []⟩
        waitList := []
        stc := ⟨[], [], c.bays.map fun k => ⟨k, .free, none, 0, 0, false, none, none, none⟩⟩
        ca := ⟨c.chargers.map fun k => ⟨k, .free, none, 0, 0, 0, 0, true⟩,
               c.feeders.map fun k => ⟨k, .normal, 0, 0, none, 0⟩⟩
        ds := ⟨[], [], .none, Vector.replicate 32 .idle, []⟩
        blc := ⟨c.stations.map fun k => ⟨k, 0, false⟩, [], [], none, 0, 0, .origin, .poll, [], none⟩
        dlp := ⟨[], none, [], [], .notice, .none, none⟩
        tau := ⟨.station, 0, none⟩
        er := ⟨0, none, false⟩
        ycs := ⟨0, false, .fallback, none⟩
        ss := ⟨c.params, some c, false, false⟩
        ownAddr := straps
        pending := s.pending })
  ∧ (∀ straps (s : State), s.ss.flash = none →
    exec (.powerOn straps) s = .next { State.reset with ownAddr := straps, pending := s.pending })

/-- SOFT_RESET, once the answer to an accepted RESET has been sent: what is kept and what is lost. That the reset is due
from that transmission until the command comes, that the stations whose turn it abandons are kept, that a poll turn is next, and
that no shift step is owed, are the model's choices (log 22, 10, 8, 13). -/
def Obligations.SoftResetKeepsConfiguration : Prop :=
  ∀ s : State, s.dlp.reset = .due → ∃ t, exec .softReset s = .next t
    ∧ t.configuration = s.configuration ∧ t.ownAddr = s.ownAddr
    ∧ t.ycs = { s.ycs with mode := .fallback, supervision := none }
    ∧ (∀ v, t.veh v = { tag := (s.veh v).tag, propulsion := (s.veh v).propulsion, length := (s.veh v).length,
                        battery := (s.veh v).battery, standby := (s.veh v).standby,
                        washProgramme := (s.veh v).washProgramme, washCounter := (s.veh v).washCounter })
    ∧ (∀ l, t.lane l = ⟨(s.lane l).cfg, if (s.lane l).cfg.capacity = 0 then .closed else .opened, 0, []⟩)
    ∧ t.waitList = [] ∧ t.stc.fuelQueue = [] ∧ t.stc.washQueue = []
    ∧ (∀ b, t.bay b = ⟨(s.bay b).cfg, if (s.bay b).state = .out ∨ (s.bay b).state = .closed then (s.bay b).state else .free,
        none, (s.bay b).callMinute, 0, false, none, none, none⟩)
    ∧ (∀ c, t.charger c = ⟨(s.charger c).cfg, .free, none, 0, 0, 0, 0, true⟩)
    ∧ (∀ f, t.feeder f = ⟨(s.feeder f).cfg, (s.feeder f).state, (s.feeder f).accumulator, 0, none, 0⟩)
    ∧ t.ds = ⟨[], [], .none, Vector.replicate 32 .idle, []⟩
    ∧ (∀ a, t.station a = ⟨(s.station a).cfg, 0, false⟩)
    ∧ t.blc.originFifo = [] ∧ t.blc.forwardFifo = [] ∧ t.blc.place = none ∧ t.blc.cycleCount = 0
    ∧ t.blc.transactions = 0 ∧ t.blc.pointer = .origin ∧ t.blc.turn = .poll
    ∧ (∀ a, a ∈ t.blc.abandoned ↔ a ∈ s.blc.abandoned ∨ s.blc.turn = .polling a ∨ s.blc.turn = .slot (some a))
    ∧ t.dlp.reset = .none ∧ t.dlp.requests = [] ∧ t.dlp.answer = none ∧ t.dlp.notices = [] ∧ t.dlp.forwards = [] ∧ t.dlp.pointer = .notice
    ∧ t.tau = ⟨.station, 0, none⟩ ∧ t.er.deferred = none ∧ t.er.further = false
    ∧ (∀ f, t.flag f = true ↔ f = .softReset ∨ f = .storeFailed ∧ s.ss.storing = true)
    ∧ t.ss = ⟨s.ss.params, if s.ss.storing = true then none else s.ss.flash, false, false⟩

/-! ### Laws that every step keeps -/

/-- Every step keeps every FIFO and buffer within its capacity (R158, R159, R163, R166). Every step keeps the miss
counts within 0..3, the SILENT marks where they are 3 and a polled station's, and the line's counters in range (R149, R150,
R152). -/
def Obligations.EveryStepKeepsBuffersAndStations : Prop :=
  (∀ s t : State, s.BuffersBounded → step s = .next t → t.BuffersBounded)
  ∧ (∀ s t : State, s.StationLaw → step s = .next t → t.StationLaw)

/-- Every step keeps the supervision timer running exactly in NORMAL, and the minute below 1440 (R182, R180). Every step
keeps STORE and LOAD apart, and the flash image invalid during a STORE (R185, R186). Every step keeps every field of the
working configuration and of the flash image in its range (R21, R82, R84, R147, R183). -/
def Obligations.EveryStepKeepsSupervisionAndSettings : Prop :=
  (∀ s t : State, s.SupervisionLaw → step s = .next t → t.SupervisionLaw)
  ∧ (∀ s t : State, s.SettingsLaw → step s = .next t → t.SettingsLaw)
  ∧ (∀ s t : State, s.RangeLaw → step s = .next t → t.RangeLaw)

/-- Every step keeps the law of the grants: a nonzero grant belongs to a charger that could be a candidate, is a multiple of
10 and at most P_max, and the grants of a feeder fit its budget and are 0 when it is TRIPPED (R89, R98, R102). That a LOAD
with a P_max below the grant withdraws it is the model's inference (log 37). From a state that meets all laws, every step
keeps the laws of the yard: a grant goes to a PARKED vehicle that covers the charger's position (R89, R90), SHED has a nonzero
accumulator (R95), each vehicle stands in one place (R6, R52), a lane's entries fit it (R22), a record is SHIFTING exactly
while its blocker has a shunt reservation (R138), tickets are of their kind and live once (R59, R60), and a bound row field
names a row exactly when the row binds (R112). -/
def Obligations.EveryStepKeepsGrantLaw : Prop :=
  (∀ s t : State, s.GrantLaw → step s = .next t → t.GrantLaw)
  ∧ ∀ s t : State, s.Lawful → step s = .next t →
    t.ConnectionLaw ∧ t.FeederLaw ∧ t.FleetLaw ∧ t.PlaceLaw ∧ t.LaneLaw ∧ t.ShiftLaw ∧ t.TicketLaw ∧ t.BindingLaw

/-- Every step keeps the law of the bays: CALLING, BUSY and FAULT_WAIT hold a ticket and no other state does, and the
timers run in the states of the table of R64. -/
def Obligations.EveryStepKeepsBayLaw : Prop :=
  ∀ s t : State, s.BayLaw → step s = .next t → t.BayLaw

/-- Every step keeps the ACTIVE keys from decreasing, both banks within 200 rows, the STANDBY rows PLANNED or BOUND, and
a pending STANDBY bank in key order (R109, R111, R114, R117, R119, R122). -/
def Obligations.EveryStepKeepsPlanLaw : Prop :=
  ∀ s t : State, s.PlanLaw → step s = .next t → t.PlanLaw

/-- After every step from a state at rest no lane is owed a shift step (R140) and no exchange is due (R119). That the
shift steps of an event come before its exchange is the model's choice (log 13). -/
def Obligations.EveryStepEndsAtRest : Prop :=
  ∀ s t : State, s.AtRest → step s = .next t → t.AtRest

/-! ### Rules of the whole part -/

/-- The working configuration changes by a PUT to one of its tables or by the end of a LOAD, and by nothing else but
POWER_ON. While a STORE is in flight it stays as it was (R185), and is what a verified STORE leaves in flash. No command
changes the queue, which is the model's own (log 5), and none but POWER_ON the own address. -/
def Obligations.ConfigurationChangesOnlyBy : Prop :=
  (∀ c (s t : State), exec c s = .next t → (∀ straps, c ≠ .powerOn straps) → t.configuration ≠ s.configuration →
    c = .putStation ∨ c = .putLane ∨ c = .putCharger ∨ c = .putFeeder ∨ c = .putBay ∨ c = .putParams
      ∨ c = .loadComplete)
  ∧ ((∀ c (s t : State), s.SettingsLaw → s.ss.storing = true → exec c s = .next t → (∀ straps, c ≠ .powerOn straps) →
      t.configuration = s.configuration)
    ∧ ∀ s : State, s.ss.storing = true →
      exec (.storeComplete true) s = .next { s with ss := ⟨s.ss.params, some s.configuration, false, s.ss.loading⟩ })
  ∧ ∀ c (s t : State), exec c s = .next t → t.pending = s.pending
      ∧ ((∀ straps, c ≠ .powerOn straps) → t.ownAddr = s.ownAddr)

/-- An event flag that is set stays set until an accepted CLEAR names it in its mask or a reset clears it (R172, R173).
-/
def Obligations.FlagsStayUntilCleared : Prop :=
  ∀ c (s t : State), exec c s = .next t → (∀ straps, c ≠ .powerOn straps) → c ≠ .softReset →
    ∀ f, s.flag f = true → t.flag f = true
      ∨ c = .clear ∧ ∃ r rest, s.Takes r rest ∧ r.kind = 52 ∧ s.requesterClass r.src ≤ 1
          ∧ (BitVec.ofNat 32 (ofBytes r.payload)).getLsbD (flagBit f) = true

/-- In FALLBACK no block generates a notice: the notice FIFO only loses from its front (R166). Only a valid telegram
from the server station makes the mode NORMAL (R182). -/
def Obligations.FallbackUntilTheServerIsHeard : Prop :=
  (∀ c (s t : State), s.ycs.mode = .fallback → exec c s = .next t → t.dlp.notices <:+ s.dlp.notices)
  ∧ (∀ c (s t : State), s.ycs.mode = .fallback → exec c s = .next t → t.ycs.mode = .normal →
    (∃ dest kind payload, c = .linkTelegramDiscarded s.ss.params.server dest kind payload)
      ∨ (∃ dest kind payload, c = .serverDirective s.ss.params.server dest kind payload)
      ∨ ∃ kind payload, c = .requestReceived s.ss.params.server kind payload)

/-- A TRIPPED feeder stays TRIPPED until CLEAR_FEEDER or power-on (R95, R105, R108). A bay that is OUT without a ticket
stays so until CLEAR_BAY, CLOSE_BAY or power-on (R79). -/
def Obligations.LatchedUntilCleared : Prop :=
  (∀ c (s t : State) f, (s.feeder f).state = .tripped → exec c s = .next t → (∀ straps, c ≠ .powerOn straps) →
    c ≠ .clearFeeder → (t.feeder f).state = .tripped)
  ∧ (∀ c (s t : State) b, (s.bay b).state = .out → (s.bay b).ticket = none → exec c s = .next t →
    (∀ straps, c ≠ .powerOn straps) → c ≠ .clearBay → c ≠ .closeBay →
    (t.bay b).state = .out ∧ (t.bay b).ticket = none)

/-! ### Turns of the berth line -/

/-- The station of a poll turn is the lowest one above the place that R152 takes, in this cycle or in the next; there is none
exactly when neither cycle takes one, and the cycle count has then gone up. POLL polls the station of the poll turn; with none
it is an idle turn, as IDLE_TURN is. The turn register, the place after an idle turn, that a poll ends the wait for the
station's abandoned frame, and the bits last sent are the model's choices (log 8, 11, 10, 26). -/
def Obligations.PollTurn : Prop :=
  (∀ (s : State) n a, s.pollChoice = (n, some a) →
    s.takenInCycle n a = true
    ∧ (n = s.blc.cycleCount ∧ (∀ p, s.blc.place = some p → p < a)
          ∧ (∀ b, s.takenInCycle n b = true → (∀ p, s.blc.place = some p → p < b) → a ≤ b)
      ∨ n = (s.blc.cycleCount + 1) % 8 ∧ (∀ b, s.takenInCycle n b = true → a ≤ b)
          ∧ ∀ b, s.takenInCycle s.blc.cycleCount b = true → ∃ p, s.blc.place = some p ∧ b ≤ p))
  ∧ (∀ (s : State) n, s.pollChoice = (n, none) ↔ n = (s.blc.cycleCount + 1) % 8
      ∧ (∀ b, s.takenInCycle s.blc.cycleCount b = true → ∃ p, s.blc.place = some p ∧ b ≤ p)
      ∧ ∀ b, s.takenInCycle n b = false)
  ∧ (∀ (s : State) n a, s.takenInCycle n a = true ↔
      (s.station a).cfg.kind ≠ .server ∧ (s.station a).cfg.kind ≠ .maint ∧ (s.station a).cfg.kind ≠ .unused
      ∧ (s.station a).cfg.polled = true ∧ a ≠ s.ownAddr ∧ ((s.station a).silent = false ∨ n = 0))
  ∧ (∀ s : State, s.blc.turn = .poll →
    (∀ n a, s.pollChoice = (n, some a) →
      exec .poll s = .next
        { s with blc := { s.blc with
            turn := .polling a, place := some a, cycleCount := n, abandoned := s.blc.abandoned.filter (· ≠ a)
            out := some (encodeTelegram ⟨s.ownAddr, some a, 33, []⟩) } })
    ∧ ∀ n, s.pollChoice = (n, none) →
      exec .poll s = exec .idleTurn s
      ∧ exec .idleTurn s = .next
        { s with blc := { s.blc with
            turn := .directive, place := some 127, cycleCount := n
            transactions := min 16 (s.blc.transactions + 1) } })

/-- REPLY_TIMEOUT counts a miss and ends the transaction; a station that is SILENT, or has not reached its third miss,
has no more said of it. The third miss makes a station SILENT: flag, notice, and what the allocator does (R154, R91). A
reply makes a SILENT station heard again, and a FREE bay that it is the unit of chooses a ticket (R154, R65). The directive turn
comes next (R150); the turn register, and that the transaction count rises at the end of the transaction, are the model's
inference (log 8). -/
def Obligations.MissesAndSilence : Prop :=
  (∀ (s : State) a, s.blc.turn = .polling a → (s.station a).misses < 2 ∨ (s.station a).silent = true →
    exec .replyTimeout s = .next
      { s with blc := { s.blc with
          stations := s.blc.stations.set a.val { s.station a with misses := min 3 ((s.station a).misses + 1) } a.isLt
          turn := .directive
          transactions := min 16 (s.blc.transactions + 1) } })
  ∧ (∀ (s : State) a, s.blc.turn = .polling a → (s.station a).misses = 2 → (s.station a).silent = false →
    ∃ t, exec .replyTimeout s = .next t
      ∧ t.station a = { s.station a with misses := 3, silent := true }
      ∧ (∀ b, b ≠ a → t.station b = s.station b)
      ∧ t.blc.turn = .directive
      ∧ t.flag .stationSilent = true
      ∧ t.dlp.notices = (if s.ycs.mode = .normal ∧ s.dlp.notices.length < 16 then
          s.dlp.notices ++ [.stationSilent a (s.station a).cfg.kind (s.station a).cfg.index] else s.dlp.notices)
      ∧ (∀ c, (s.charger c).cfg.station = some a → t.charger c =
          { s.charger c with grant := 0, resend := true, hold := 0, state := unchargedState (s.charger c) })
      ∧ (∀ c, (s.charger c).cfg.station ≠ some a → t.charger c = s.charger c)
      ∧ (∀ f, (s.feeder f).cfg.meter = some a → t.feeder f = { s.feeder f with reading := none })
      ∧ (∀ f, (s.feeder f).cfg.meter ≠ some a → t.feeder f = s.feeder f)
      ∧ t.fleet = s.fleet ∧ t.lanes = s.lanes ∧ t.waitList = s.waitList ∧ t.stc = s.stc ∧ t.ds = s.ds
      ∧ t.tau = s.tau ∧ t.ycs = s.ycs ∧ t.ss = s.ss
      ∧ t.blc.originFifo = s.blc.originFifo ∧ t.blc.forwardFifo = s.blc.forwardFifo)
  ∧ ∀ (s : State) src b, s.Answers src 10 → (s.station src).silent = true → (s.bay b).cfg.unit = some src →
      (∀ d, d ≠ b → (s.bay d).cfg.unit ≠ some src) → (s.bay b).state = .free → s.queue (s.bay b).cfg.kind ≠ [] →
      ∃ t, exec (.nothing src) s = .next t
        ∧ t.station src = { s.station src with misses := 0, silent := false }
        ∧ (t.bay b).state = .calling ∧ (∃ k ∈ s.queue (s.bay b).cfg.kind, (t.bay b).ticket = some { k with state := .calledToBay })
        ∧ (∀ d, d ≠ b → t.bay d = s.bay d) ∧ t.ca.feeders = s.ca.feeders ∧ t.ss = s.ss ∧ t.ycs = s.ycs

/-- DIRECTIVE_TURN takes one directive as the table of R151 says, and checks only the part's own (R158, R159). The turn
register, the bits last sent, and the own address as the source of a server directive are the model's choices (log 8, 26, 46). -/
def Obligations.DirectiveTurn : Prop :=
  ∀ (s : State), s.blc.turn = .directive → ∀ next, next = (if s.blc.transactions ≥ 16 then Turn.callIn else Turn.poll) →
    (s.blc.originFifo = [] → s.blc.forwardFifo = [] →
      exec .directiveTurn s = .next { s with blc := { s.blc with turn := next } })
    ∧ (∀ d rest, s.blc.originFifo = d :: rest → s.blc.forwardFifo = [] ∨ s.blc.pointer = .origin →
        (berthKind (s.station d.dest).cfg.kind = true →
          exec .directiveTurn s = .next
            { s with blc := { s.blc with
                originFifo := rest, pointer := .forward, turn := next
                out := some (encodeTelegram ⟨s.ownAddr, some d.dest, directiveCode d.kind, d.payload⟩) } })
        ∧ (berthKind (s.station d.dest).cfg.kind = false →
          exec .directiveTurn s = .next
            ({ s with blc := { s.blc with originFifo := rest, pointer := .forward, turn := next } }.raise .unknownStation)))
    ∧ ∀ d rest, s.blc.forwardFifo = d :: rest → s.blc.originFifo = [] ∨ s.blc.pointer = .forward →
        exec .directiveTurn s = .next
          { s with blc := { s.blc with
              forwardFifo := rest, pointer := .origin, turn := next
              out := some (encodeTelegram ⟨s.ownAddr, some d.dest, directiveCode d.kind, d.payload⟩) } }

/-- CALL_IN holds a slot, which the lowest answering address wins; with no urgent-capable station it holds none.
CALL_IN_TIMEOUT ends a slot that nobody answered. The model's choices: that the answering stations are an operand and the
winner is kept in the turn register (log 8, 9), that the slot ends the wait for the winner's abandoned frame (log 10), and the
bits last sent (log 26). -/
def Obligations.CallInTurn : Prop :=
  (∀ (s : State) answering, s.blc.turn = .callIn → s.holdsSlots = true →
    exec (.callIn answering) s = .next
      { s with blc := { s.blc with
          turn := .slot answering.min?, transactions := 0
          abandoned := s.blc.abandoned.filter fun a => answering.min? ≠ some a
          out := some (encodeTelegram ⟨s.ownAddr, none, 34, []⟩) } })
  ∧ (∀ (s : State) answering, s.blc.turn = .callIn → s.holdsSlots = false →
    exec (.callIn answering) s = .next { s with blc := { s.blc with turn := .poll, transactions := 0 } })
  ∧ ∀ s : State, s.blc.turn = .slot none →
    exec .callInTimeout s = .next { s with blc := { s.blc with turn := .poll } }

/-- BERTH_FRAME_REJECTED: what each failed check of R156 raises and ends, in a poll transaction and in a call-in slot, where a
station whose urgent mark is clear is turned away too (R155). A polled station that was SILENT is heard again by a frame that
fails check 3 or 4 (R154, R156). That a frame of another source than the winner ends the slot is the model's choice (log 9). A
frame outside any transaction is discarded with LINE_CHECK_ERROR, a report that comes so too. One of a station whose
transaction a soft reset abandoned is discarded without a flag (R160); which frames those are is the model's choice (log
10). The turn that comes next is that of R150; the turn register, and that the transaction count rises at the end of the poll
transaction, are the model's inference (log 8). -/
def Obligations.RejectedFrames : Prop :=
  (∀ (s : State) frame,
    (∀ a, s.blc.turn = .polling a → (∀ f, parseTelegram frame = some f → f.src ≠ a ∧ f.src ∉ s.blc.abandoned) →
      exec (.berthFrameRejected frame) s = .next (s.raise .lineCheckError))
    ∧ (∀ a f flag, s.blc.turn = .polling a → parseTelegram frame = some f → f.src = a → s.AtRest →
        s.knownSource a = false ∧ flag = .unknownStation
          ∨ s.knownSource a = true ∧ s.reportFits f = false ∧ flag = .lineCheckError →
        ((s.station a).silent = false → exec (.berthFrameRejected frame) s = .next ((s.replied a).raise flag))
        ∧ ((s.station a).silent = true →
          (∃ t, exec (.berthFrameRejected frame) s = .next t
            ∧ t.station a = { s.station a with misses := 0, silent := false } ∧ (∀ b, b ≠ a → t.station b = s.station b)
            ∧ t.blc.turn = .directive ∧ t.blc.transactions = min 16 (s.blc.transactions + 1) ∧ t.flag flag = true
            ∧ t.dlp.forwards = s.dlp.forwards ∧ t.ca.feeders = s.ca.feeders ∧ t.ss = s.ss ∧ t.ycs = s.ycs ∧ t.tau = s.tau)
          ∧ (s.waitList = [] →
            (∀ b, (s.bay b).cfg.unit = some a → (s.bay b).state ≠ .free ∨ s.queue (s.bay b).cfg.kind = []) →
            exec (.berthFrameRejected frame) s = .next
              (((s.replied a).setStation a { s.station a with misses := 0, silent := false }).raise flag))))
    ∧ (∀ winner, s.blc.turn = .slot winner →
        (∀ f, parseTelegram frame = some f → winner ≠ some f.src ∧ f.src ∉ s.blc.abandoned) →
        exec (.berthFrameRejected frame) s = .next
          ({ s with blc := { s.blc with turn := .poll } }.raise .lineCheckError))
    ∧ (∀ f, s.blc.turn = .slot (some f.src) → parseTelegram frame = some f →
        (s.knownSource f.src = false →
          exec (.berthFrameRejected frame) s = .next
            ({ s with blc := { s.blc with turn := .poll } }.raise .unknownStation))
        ∧ (s.knownSource f.src = true → s.reportFits f = false ∨ (s.station f.src).cfg.urgent = false →
          exec (.berthFrameRejected frame) s = .next
            ({ s with blc := { s.blc with turn := .poll } }.raise .lineCheckError)))
    ∧ (s.blc.turn = .poll ∨ s.blc.turn = .directive ∨ s.blc.turn = .callIn →
        (parseTelegram frame = none → s.blc.abandoned = []) → (∀ f, parseTelegram frame = some f → f.src ∉ s.blc.abandoned) →
        exec (.berthFrameRejected frame) s = .next (s.raise .lineCheckError))
    ∧ (∀ f, parseTelegram frame = some f → f.src ∈ s.blc.abandoned → s.blc.turn ≠ .polling f.src →
        s.blc.turn ≠ .slot (some f.src) → exec (.berthFrameRejected frame) s = .next s)
    ∧ (s.blc.turn = .poll ∨ s.blc.turn = .directive ∨ s.blc.turn = .callIn → parseTelegram frame = none →
        s.blc.abandoned ≠ [] → exec (.berthFrameRejected frame) s = .next s))
  ∧ ∀ c src kind payload (s : State), reportOf c = some (src, kind, payload) → s.blc.turn ≠ .polling src →
    (∀ winner, s.blc.turn ≠ .slot winner) →
    (src ∉ s.blc.abandoned → exec c s = .next (s.raise .lineCheckError)) ∧ (src ∈ s.blc.abandoned → exec c s = .next s)

/-! ### Reports -/

/-- Every accepted report ends its transaction or slot, clears the misses and the SILENT mark of its station, is
forwarded by its station's action, and leaves the requests, the answer, the table access, the clock, the settings and
the configuration alone (R153, R155, R157). The turn that comes next is that of R150; the turn register, and that the
transaction count rises at the end of the poll transaction, are the model's inference (log 8). -/
def Obligations.ReportEndsItsTurn : Prop :=
  ∀ c src kind payload (s : State), reportOf c = some (src, kind, payload) →
    s.knownSource src = true → sends (s.station src).cfg.kind kind = true →
    s.blc.turn = .polling src ∨ s.blc.turn = .slot (some src) ∧ (s.station src).cfg.urgent = true →
    ∃ t, exec c s = .next t
      ∧ t.station src = { s.station src with misses := 0, silent := false }
      ∧ (∀ a, a ≠ src → t.station a = s.station a)
      ∧ (s.blc.turn = .polling src → t.blc.turn = .directive ∧ t.blc.transactions = min 16 (s.blc.transactions + 1))
      ∧ (s.blc.turn = .slot (some src) → t.blc.turn = .poll ∧ t.blc.transactions = s.blc.transactions)
      ∧ t.dlp.forwards = (if kind ≠ 10 ∧ (s.station src).cfg.action ≠ .consume ∧ s.dlp.forwards.length < 32 then
          s.dlp.forwards ++ [⟨src, kind, payload⟩] else s.dlp.forwards)
      ∧ (kind ≠ 10 → (s.station src).cfg.action ≠ .consume → 32 ≤ s.dlp.forwards.length → t.flag .forwardDrop = true)
      ∧ t.tau = s.tau ∧ t.ycs = s.ycs ∧ t.ss = s.ss ∧ t.dlp.requests = s.dlp.requests ∧ t.dlp.answer = s.dlp.answer
      ∧ t.dlp.reset = s.dlp.reset ∧ t.dlp.out = s.dlp.out ∧ t.configuration = s.configuration ∧ t.er.deferred = s.er.deferred
      ∧ t.blc.forwardFifo = s.blc.forwardFifo ∧ t.blc.place = s.blc.place ∧ t.blc.cycleCount = s.blc.cycleCount
      ∧ t.blc.pointer = s.blc.pointer ∧ t.blc.out = s.blc.out

/-- A report does the same whichever way it comes. In a call-in slot it does what it does as a reply to a poll, the
turns and the count apart (R155). With action COPY it does what it does with CONSUME, and is then forwarded (R157). -/
def Obligations.FormsOfAReportAgree : Prop :=
  ∀ c src kind payload (s t : State), reportOf c = some (src, kind, payload) → s.Answers src kind → exec c s = .next t →
    ((s.station src).cfg.urgent = true →
      exec c { s with blc := { s.blc with turn := .slot (some src) } } = .next
        { t with blc := { t.blc with turn := .poll, transactions := s.blc.transactions } })
    ∧ (kind ≠ 10 → (s.station src).cfg.action = .consume →
      exec c (s.modStation src fun r => { r with cfg := { r.cfg with action := .copy } }) = .next
        ((t.modStation src fun r => { r with cfg := { r.cfg with action := .copy } }).forward ⟨src, kind, payload⟩))

/-- NOTHING is a reply and no more, and a report with action PASS is forwarded and no more, but that a tag held by no slot
raises UNKNOWN_VEHICLE there too (R7, R157). That a PASS report of an OUT or a LOST vehicle raises nothing and brings none in is
the model's inference (log 41). A report with a tag held by no slot raises UNKNOWN_VEHICLE and is not acted on (R7). -/
def Obligations.RepliesThatDoNothingElse : Prop :=
  ((∀ (s : State) src, s.Answers src 10 → (s.station src).silent = false → s.AtRest →
    exec (.nothing src) s = .next (s.replied src))
  ∧ ∀ c src kind payload (s : State) tag known passed, reportOf c = some (src, kind, payload) → kind ≠ 10 → s.Answers src kind →
      (s.station src).silent = false → s.AtRest → (s.station src).cfg.action = .pass → s.dlp.forwards.length < 32 →
      tag = ofBytes (payload.take 3) →
      known = (kind = 6 ∨ kind = 7 ∨ kind = 9 ∨ kind = 8 ∧ tag = 0 ∨ ∃ v, s.slotOf tag = some v) →
      passed = { s.replied src with dlp := { s.dlp with forwards := s.dlp.forwards ++ [⟨src, kind, payload⟩] } } →
      (known → exec c s = .next passed) ∧ (¬ known → exec c s = .next (passed.raise .unknownVehicle)))
  ∧ (∀ (s : State) src tag, s.slotOf (tag % 2 ^ 24) = none →
    (s.Delivers src 1 → exec (.gateIn src tag) s = .next ((s.replied src).raise .unknownVehicle))
    ∧ (s.Delivers src 2 → exec (.gateOut src tag) s = .next ((s.replied src).raise .unknownVehicle))
    ∧ (s.Delivers src 3 → exec (.laneEntry src tag) s = .next ((s.replied src).raise .unknownVehicle))
    ∧ (s.Delivers src 4 → exec (.laneExit src tag) s = .next ((s.replied src).raise .unknownVehicle))
    ∧ (s.Delivers src 5 → exec (.bayArrive src tag) s = .next ((s.replied src).raise .unknownVehicle)))

/-- GATE_IN of an OUT bus that is DIESEL, or ELECTRIC and due for a wash: the record of R8 and a FUEL or WASH ticket (R9, R61),
which a bay may take at once (R66); with that queue full, QUEUE_FULL and the next stage, the wash counter kept (R61, R62).
GATE_IN of an OUT ELECTRIC bus that needs no wash goes to placement (R8, R9): a reservation when a lane is a candidate
(R42, R48), the end of the wait list when none is (R51). GATE_IN of a bus that is not OUT (R11): YARD_CONFLICT with its
notice, the bus withdrawn and its call undone (R145), and a new visit. -/
def Obligations.GateInStartsAVisit : Prop :=
  (∀ (s : State) src tag v k, s.Delivers src 1 → tag < 2 ^ 24 → s.slotOf tag = some v → (s.veh v).state = .out →
    (s.veh v).propulsion = .diesel ∧ k = .fuel
      ∨ (s.veh v).propulsion = .electric ∧ s.ss.params.washInterval ≤ min 7 ((s.veh v).washCounter + 1) ∧ k = .wash →
    s.hasTicket v = false → s.liveTickets k < 64 → s.QueuesOfTheirKind →
    ∃ t loc, exec (.gateIn src tag) s = .next t
      ∧ t.veh v = { s.veh v with
          state := .service, location := loc, arrival := s.ycs.minute, washCounter := min 7 ((s.veh v).washCounter + 1)
          lastSoc := none, misorder := false, shift := false }
      ∧ (loc = .queue k ∧ Ticket.mk v k s.ycs.minute 0 .waiting ∈ t.queue k
        ∨ ∃ b, loc = .bay b ∧ (t.bay b).state = .calling
            ∧ (t.bay b).ticket = some ⟨v, k, s.ycs.minute, 0, .calledToBay⟩)
      ∧ (∀ w, w ≠ v → t.veh w = s.veh w ∨ ∃ b, t.veh w = { s.veh w with location := .bay b } ∧ t.bayHolds b w = true)
      ∧ t.lanes = s.lanes ∧ t.waitList = s.waitList ∧ t.ca = s.ca ∧ t.ds = s.ds ∧ (∀ d, d ≠ k → t.queue d = s.queue d)
      ∧ t.tau = s.tau ∧ t.ycs = s.ycs ∧ t.ss = s.ss ∧ t.dlp = s.dlp)
  ∧ (∀ (s : State) src tag v n, s.Delivers src 1 → tag < 2 ^ 24 → s.slotOf tag = some v → (s.veh v).state = .out →
    n = min 7 ((s.veh v).washCounter + 1) → s.hasTicket v = false → s.inSomeLane v = false →
    (∀ w ∈ s.waitList, w.slot ≠ v) → s.QueuesOfTheirKind →
    ((s.veh v).propulsion = .diesel ∧ 64 ≤ s.liveTickets .fuel ∧ (n < s.ss.params.washInterval ∨ 64 ≤ s.liveTickets .wash)
        ∨ (s.veh v).propulsion = .electric ∧ s.ss.params.washInterval ≤ n ∧ 64 ≤ s.liveTickets .wash →
      ∃ t, exec (.gateIn src tag) s = .next t ∧ t.flag .queueFull = true ∧ (t.veh v).washCounter = n
        ∧ ((t.veh v).state = .toBerth ∨ (t.veh v).state = .inbound) ∧ t.stc = s.stc)
    ∧ ((s.veh v).propulsion = .diesel → 64 ≤ s.liveTickets .fuel → s.ss.params.washInterval ≤ n → s.liveTickets .wash < 64 →
      ∃ t, exec (.gateIn src tag) s = .next t ∧ t.flag .queueFull = true ∧ (t.veh v).washCounter = n
        ∧ (t.veh v).state = .service ∧ t.stc.fuelQueue = s.stc.fuelQueue
        ∧ (Ticket.mk v .wash s.ycs.minute 0 .waiting ∈ t.stc.washQueue
          ∨ ∃ b, (t.bay b).ticket = some ⟨v, .wash, s.ycs.minute, 0, .calledToBay⟩)))
  ∧ (∀ (s : State) src tag v, s.Delivers src 1 → tag < 2 ^ 24 → s.slotOf tag = some v → (s.veh v).state = .out →
    (s.veh v).propulsion = .electric → min 7 ((s.veh v).washCounter + 1) < s.ss.params.washInterval →
    s.inSomeLane v = false → (∀ w ∈ s.waitList, w.slot ≠ v) → s.NoneBlocked →
    ((∃ l, s.candidate .park v l = true) →
      ∃ t l, exec (.gateIn src tag) s = .next t ∧ s.candidate .park v l = true
        ∧ (t.veh v).state = .toBerth ∧ (t.veh v).location = .lane l .expected none
        ∧ (t.veh v).arrival = s.ycs.minute ∧ (t.veh v).lastSoc = none
        ∧ t.entry l v = some ⟨v, .expected, some s.ss.params.arrivalTimeout⟩
        ∧ t.waitList = s.waitList ∧ t.stc = s.stc ∧ (∀ w, w ≠ v → t.veh w = s.veh w)
        ∧ ∀ m, m ≠ l → t.lane m = s.lane m)
    ∧ ((∀ l, s.candidate .park v l = false) →
      ∃ t, exec (.gateIn src tag) s = .next t
        ∧ t.veh v = { s.veh v with
            state := .inbound, location := .gate, arrival := s.ycs.minute
            washCounter := min 7 ((s.veh v).washCounter + 1), lastSoc := none, misorder := false, shift := false }
        ∧ t.waitList = s.waitList ++ [⟨v, .gate, s.ycs.minute⟩] ∧ t.flag .noBerth = true
        ∧ t.lanes = s.lanes ∧ t.stc = s.stc ∧ t.ca = s.ca ∧ t.ds = s.ds ∧ ∀ w, w ≠ v → t.veh w = s.veh w))
  ∧ ∀ (s : State) src tag v, s.Delivers src 1 → tag < 2 ^ 24 → s.slotOf tag = some v → (s.veh v).state ≠ .out →
    ∃ t, exec (.gateIn src tag) s = .next t
      ∧ t.flag .yardConflict = true
      ∧ (s.ycs.mode = .normal → s.dlp.notices.length < 16 →
          s.dlp.notices ++ [.yardConflict tag v (s.veh v).state 1] <+: t.dlp.notices)
      ∧ (t.veh v).arrival = s.ycs.minute ∧ (t.veh v).washCounter = min 7 ((s.veh v).washCounter + 1)
      ∧ (t.veh v).lastSoc = none ∧ (t.veh v).shift = false ∧ (t.veh v).held = (s.veh v).held
      ∧ ((t.veh v).state = .service ∨ (t.veh v).state = .toBerth ∨ (t.veh v).state = .inbound)
      ∧ t.presentLane v = none
      ∧ ((s.veh v).state = .called ∨ (s.veh v).state = .departing → CallUndone s t v)

/-- GATE_OUT of a bus that is already OUT is not acted on; YARD_CONFLICT is raised, with its notice (R14, and R19 for
the notice). GATE_OUT completes a call (R12, R143): the row GONE with its slot as a record, the bus OUT, unbound, and in no
lane, queue, bay or wait list (R10), a GONE notice in NORMAL mode while its FIFO has room (R166), and neither UNSCHEDULED_EXIT
nor YARD_CONFLICT raised. GATE_OUT of any other bus is an unscheduled exit (R13): its flag, the bus OUT and
nowhere, and its BOUND row PLANNED again. -/
def Obligations.GateOutEndsAVisit : Prop :=
  (∀ (s : State) src tag v, s.Delivers src 2 → tag < 2 ^ 24 → s.slotOf tag = some v → (s.veh v).state = .out →
    exec (.gateOut src tag) s = .next (((s.replied src).raise .yardConflict).notify (.yardConflict tag v .out 2)))
  ∧ (∀ (s : State) src tag v i r, s.Delivers src 2 → tag < 2 ^ 24 → s.slotOf tag = some v →
    (s.veh v).state = .called ∨ (s.veh v).state = .departing → (s.veh v).boundRow = some i → s.row i = some r →
    r.state = .called → r.bound = some v → s.ds.swap ≠ .pending →
    ∃ t, exec (.gateOut src tag) s = .next t
      ∧ t.row i = some { r with state := .gone, blocked := false, carried := false }
      ∧ t.veh v = { s.veh v with state := .out, location := .none, boundRow := none, misorder := false, shift := false }
      ∧ t.inSomeLane v = false ∧ t.hasTicket v = false ∧ (∀ w ∈ t.waitList, w.slot ≠ v)
      ∧ t.ds.standby = s.ds.standby ∧ t.ds.active.length = s.ds.active.length
      ∧ (s.ycs.mode = .normal → t.dlp.notices.length < 16 → .gone i r.block tag s.ycs.minute ∈ t.dlp.notices)
      ∧ (s.ycs.mode = .normal → s.dlp.notices.length < 16 → s.waitList = [] →
          s.dlp.notices ++ [.gone i r.block tag s.ycs.minute] <+: t.dlp.notices)
      ∧ (s.flag .unscheduledExit = false → t.flag .unscheduledExit = false)
      ∧ (s.flag .yardConflict = false → t.flag .yardConflict = false))
  ∧ ∀ (s : State) src tag v, s.Delivers src 2 → tag < 2 ^ 24 → s.slotOf tag = some v → (s.veh v).state ≠ .out →
    (s.veh v).state ≠ .called → (s.veh v).state ≠ .departing →
    ∃ t, exec (.gateOut src tag) s = .next t
      ∧ t.flag .unscheduledExit = true
      ∧ (t.veh v).state = .out ∧ (t.veh v).location = .none ∧ (t.veh v).misorder = false ∧ (t.veh v).shift = false
      ∧ (t.veh v).held = (s.veh v).held ∧ (t.veh v).arrival = (s.veh v).arrival ∧ (t.veh v).lastSoc = (s.veh v).lastSoc
      ∧ t.StandsNowhere v
      ∧ ∀ i r, (s.veh v).boundRow = some i → s.row i = some r → r.state = .bound → s.ds.swap ≠ .pending →
          (t.veh v).boundRow = none
          ∧ t.row i = some { r with state := .planned, bound := none, blocked := false, carried := false }

/-- LANE_ENTRY of a bus into the lane of its reservation: it is PARKED there and its entry is PRESENT (R29), at entry 0 of a
DEAD_END lane, and in a THROUGH lane at the place of the first EXPECTED entry, the others keeping their order; a shifted blocker
whose LANE_EXIT was not read is taken out of its own lane first, with YARD_CONFLICT; a repeated read is nothing. LANE_EXIT at
the mouth (R32, R24): the entry goes, a THROUGH lane's window front moves, and the bus is MOVING, or DEPARTING when it was
CALLED; a shifted blocker goes on to its shunt reservation, whose timer starts. LANE_ENTRY of a bus with no entry in the lane:
it joins a lane with room, with the flags of its state (R30), and is LOST in one without (R31); a LOST bus stays so, and an
OUT one is brought in (R7). LANE_EXIT away from the mouth, of a reservation, and of a bus not in the lane (R33). That the
notice carries the state before the report is the model's inference (log 20). -/
def Obligations.LaneEntryAndExit : Prop :=
  (∀ (s : State) src tag v l timer, s.Delivers src 3 → tag < 2 ^ 24 → s.slotOf tag = some v → s.laneOf src = l →
    (s.veh v).state = .toBerth → s.entry l v = some ⟨v, .expected, timer⟩ → s.presentLane v = none →
    ((s.lane l).entries.map Entry.slot).Nodup → s.NoneBlocked →
    ∃ t, exec (.laneEntry src tag) s = .next t
      ∧ (t.veh v).state = .parked ∧ (t.veh v).location = .lane l .present none ∧ (t.veh v).shift = false
      ∧ t.presentIn l v = true ∧ (t.lane l).entries.length = (s.lane l).entries.length
      ∧ ((s.lane l).cfg.kind = .deadEnd →
          (t.lane l).entries = ⟨v, .present, none⟩ :: (s.lane l).entries.filter (fun e => e.slot ≠ v))
      ∧ ((s.lane l).cfg.kind = .through →
          (t.lane l).entries[(s.lane l).entries.findIdx fun e => e.standing = .expected]? = some ⟨v, .present, none⟩
          ∧ (∀ (i : Nat) e, (s.lane l).entries[i]? = some e → e.standing = .present → (t.lane l).entries[i]? = some e)
          ∧ (t.lane l).entries.filter (fun e => e.standing = .expected)
            = (s.lane l).entries.filter (fun e => e.standing = .expected ∧ e.slot ≠ v))
      ∧ (∀ m, m ≠ l → t.lane m = s.lane m) ∧ t.waitList = s.waitList ∧ t.stc = s.stc ∧ t.ds.active = s.ds.active
      ∧ ∀ w, w ≠ v → t.veh w = { s.veh w with misorder := (t.veh w).misorder })
  ∧ (∀ (s : State) src tag v l rest timer, s.Delivers src 4 → tag < 2 ^ 24 → s.slotOf tag = some v → s.laneOf src = l →
    (s.veh v).state = .parked ∨ (s.veh v).state = .called →
    (s.lane l).entries = ⟨v, .present, timer⟩ :: rest → (∀ e ∈ rest, e.slot ≠ v) → (∀ w ∈ s.waitList, w.slot ≠ v) →
    (∀ m, m ≠ l → s.entry m v = none) →
    ∃ t, exec (.laneExit src tag) s = .next t
      ∧ t.veh v = { s.veh v with
          state := if (s.veh v).state = .called then .departing else .moving, location := .enRoute none, misorder := false }
      ∧ t.inSomeLane v = false
      ∧ (t.lane l).front = (match (s.lane l).cfg.kind with
          | .deadEnd => 0
          | .through => if rest = [] then 0 else (s.lane l).front + s.units v)
      ∧ (∀ c, (t.charger c).connected ≠ some v))
  ∧ (∀ (s : State) src tag v l, s.Delivers src 3 → tag < 2 ^ 24 → s.slotOf tag = some v → s.laneOf src = l →
    ((s.veh v).state = .lost →
      exec (.laneEntry src tag) s = .next (((s.replied src).raise .yardConflict).notify (.yardConflict tag v .lost 3)))
    ∧ ((s.veh v).state ≠ .lost → s.entry l v = none → s.units v ≤ s.room l → s.NoneBlocked →
      ∃ t, exec (.laneEntry src tag) s = .next t
        ∧ (t.veh v).state = .parked ∧ (t.veh v).location = .lane l .present none ∧ (t.veh v).shift = false
        ∧ (t.veh v).arrival = (if (s.veh v).state = .out then s.ycs.minute else (s.veh v).arrival)
        ∧ t.presentIn l v = true ∧ (∀ m, m ≠ l → t.entry m v = none) ∧ t.hasTicket v = false
        ∧ (∀ w ∈ t.waitList, w.slot ≠ v)
        ∧ (s.waitList = [] → (t.lane l).entries = match (s.lane l).cfg.kind with
            | .through => (s.lane l).entries ++ [⟨v, .present, none⟩]
            | .deadEnd => ⟨v, .present, none⟩ :: (s.lane l).entries)
        ∧ ((s.veh v).state = .toBerth ∨ (s.veh v).state = .moving ∧ (∃ m, m ≠ l ∧ (s.veh v).location = .enRoute (some m)) →
            t.flag .wrongLane = true)
        ∧ ((s.veh v).state = .moving →
            (s.veh v).location = .enRoute none ∨ (s.veh v).location = .enRoute (some l) →
            s.flag .wrongLane = false → t.flag .wrongLane = false)
        ∧ ((s.veh v).state ≠ .moving → (∀ m sh, (s.veh v).state = .toBerth → (s.veh v).location ≠ .lane m .expected sh) →
            t.flag .yardConflict = true
            ∧ (s.ycs.mode = .normal → t.dlp.notices.length < 16 →
                .yardConflict tag v (s.veh v).state 3 ∈ t.dlp.notices))
        ∧ ((s.veh v).state = .called ∨ (s.veh v).state = .departing → CallUndone s t v))
    ∧ ((s.veh v).state ≠ .lost → s.entry l v = none → s.room l < s.units v →
      ∃ t, exec (.laneEntry src tag) s = .next t
        ∧ (t.veh v).state = .lost ∧ (t.veh v).location = .none ∧ (t.veh v).misorder = false ∧ (t.veh v).shift = false
        ∧ t.StandsNowhere v ∧ t.flag .yardConflict = true
        ∧ ((s.veh v).state = .called ∨ (s.veh v).state = .departing → CallUndone s t v)))
  ∧ (∀ (s : State) src tag v l, s.Delivers src 4 → tag < 2 ^ 24 → s.slotOf tag = some v → s.laneOf src = l →
    (s.entry l v = none → (s.veh v).state ≠ .out →
      exec (.laneExit src tag) s = .next
        (((s.replied src).raise .yardConflict).notify (.yardConflict tag v (s.veh v).state 4)))
    ∧ (s.entry l v = none → (s.veh v).state = .out →
      ∃ t, exec (.laneExit src tag) s = .next t
        ∧ t.veh v = { s.veh v with state := .moving, location := .enRoute none, arrival := s.ycs.minute }
        ∧ t.flag .yardConflict = true ∧ t.lanes = s.lanes ∧ t.waitList = s.waitList ∧ t.stc = s.stc ∧ t.ds = s.ds)
    ∧ (∀ timer, s.entry l v = some ⟨v, .expected, timer⟩ →
      ∃ t, exec (.laneExit src tag) s = .next t
        ∧ (t.veh v).state = .moving ∧ (t.veh v).location = .enRoute none ∧ (t.veh v).misorder = false
        ∧ (t.veh v).shift = false ∧ t.StandsNowhere v ∧ t.flag .yardConflict = true)
    ∧ (∀ timer sh, s.entry l v = some ⟨v, .present, timer⟩ → s.entryIndex l v ≠ 0 → (s.veh v).state ≠ .out →
      (s.veh v).location = .lane l .present sh → (∀ m, m ≠ l → some m ≠ sh → s.entry m v = none) →
      (∀ w ∈ s.waitList, w.slot ≠ v) →
      ∃ t, exec (.laneExit src tag) s = .next t
        ∧ (t.veh v).state = .moving ∧ (t.veh v).location = .enRoute sh ∧ t.inSomeLane v = false
        ∧ t.flag .yardConflict = true
        ∧ ((s.veh v).state = .called → CallUndone s t v))
    ∧ ∀ sh rest timer, (s.veh v).state = .toBerth → (s.veh v).location = .lane l .present (some sh) → sh ≠ l →
      (s.lane l).entries = ⟨v, .present, timer⟩ :: rest → (∀ e ∈ rest, e.slot ≠ v) →
      s.entry sh v = some ⟨v, .expected, none⟩ → (∀ m, m ≠ l → s.presentIn m v = false) → (∀ w ∈ s.waitList, w.slot ≠ v) →
      ∃ t, exec (.laneExit src tag) s = .next t
        ∧ (t.veh v).state = .toBerth ∧ (t.veh v).location = .lane sh .expected none ∧ (t.veh v).shift = (s.veh v).shift
        ∧ t.entry l v = none ∧ t.entry sh v = some ⟨v, .expected, some s.ss.params.arrivalTimeout⟩)
  ∧ ∀ (s : State) src tag v l, s.Delivers src 3 → tag < 2 ^ 24 → s.slotOf tag = some v → s.laneOf src = l →
    (∀ timer, (s.veh v).state ≠ .out → (s.veh v).state ≠ .lost → s.entry l v = some ⟨v, .present, timer⟩ →
      exec (.laneEntry src tag) s = .next (s.replied src))
    ∧ ∀ o, o ≠ l → (s.veh v).state = .toBerth → (s.veh v).location = .lane o .present (some l) →
      s.entry l v = some ⟨v, .expected, none⟩ → s.presentLane v = some o → (∀ m, m ≠ o → s.presentIn m v = false) →
      ((s.lane l).entries.map Entry.slot).Nodup → (∀ w ∈ s.waitList, w.slot ≠ v) → s.blockedRowsIn l = [] →
      ∃ t, exec (.laneEntry src tag) s = .next t
        ∧ (t.veh v).state = .parked ∧ (t.veh v).location = .lane l .present none ∧ (t.veh v).shift = false
        ∧ t.presentIn l v = true ∧ t.entry o v = none ∧ t.flag .yardConflict = true
        ∧ (s.ycs.mode = .normal → s.dlp.notices.length < 16 →
            s.dlp.notices ++ [.yardConflict tag v .toBerth 3] <+: t.dlp.notices)

/-- BAY_ARRIVE of the bus a bay has called (R70, first case): the ticket is IN_BAY, the bay BUSY, its timers changed
over, and BAY_START placed. BAY_ARRIVE of another bus: one with a WAITING ticket of the bay's kind is served, the called
ticket going back to its queue (R70, second case; R71 at a FREE bay); any other is an intruder, and a repeated read is
nothing (R70, R71). -/
def Obligations.BayArriveOfTheCalledBus : Prop :=
  (∀ (s : State) src tag v b k unit, s.Delivers src 5 → tag < 2 ^ 24 → s.slotOf tag = some v → s.bayOf src = b →
      (s.bay b).state = .calling → (s.bay b).ticket = some k → k.slot = v → (s.bay b).cfg.unit = some unit →
      s.blc.originFifo.length < 16 →
      exec (.bayArrive src tag) s = .next
        { (((s.replied src).setVeh v { s.veh v with location := .bay b }).setBay b
            { s.bay b with
              ticket := some { k with state := .inBay }, state := .busy, noShowTimer := none
              overstayTimer := some (match (s.bay b).cfg.kind with
                | .fuel => s.ss.params.overstayFuel
                | .wash => s.ss.params.overstayWash) }) with
          blc := { (s.replied src).blc with originFifo := s.blc.originFifo ++
            [⟨unit, .bayStart, match (s.bay b).cfg.kind with
              | .fuel => [0]
              | .wash => toBytes 1 (s.veh v).washProgramme⟩] } })
  ∧ ∀ (s : State) src tag v b, s.Delivers src 5 → tag < 2 ^ 24 → s.slotOf tag = some v → s.bayOf src = b →
    (∀ k w, (s.bay b).state = .calling → (s.bay b).ticket = some k → k.slot ≠ v →
      s.waitingTicket (s.bay b).cfg.kind v = some w → k.kind = (s.bay b).cfg.kind → s.QueuesOfTheirKind →
      (∀ q ∈ s.queue k.kind, q.slot ≠ k.slot) →
      ∃ t, exec (.bayArrive src tag) s = .next t
        ∧ t.bay b = { s.bay b with
            ticket := some { w with state := .inBay }, state := .busy, faultCount := 0, overstay := false, noShowTimer := none
            overstayTimer := some (match (s.bay b).cfg.kind with
              | .fuel => s.ss.params.overstayFuel
              | .wash => s.ss.params.overstayWash) }
        ∧ (t.veh v).location = .bay b ∧ (∀ q ∈ t.queue k.kind, q.slot ≠ v)
        ∧ (t.veh k.slot).state = .service
        ∧ ({ k with state := .waiting } ∈ t.queue k.kind
          ∨ ∃ d, (t.bay d).ticket = some { k with state := .calledToBay }))
    ∧ (∀ w, (s.bay b).state = .free → s.waitingTicket (s.bay b).cfg.kind v = some w → w.kind = (s.bay b).cfg.kind →
      ∃ t, exec (.bayArrive src tag) s = .next t
        ∧ t.bay b = { s.bay b with
            ticket := some { w with state := .inBay }, state := .busy, faultCount := 0, overstay := false, noShowTimer := none
            overstayTimer := some (match (s.bay b).cfg.kind with
              | .fuel => s.ss.params.overstayFuel
              | .wash => s.ss.params.overstayWash) }
        ∧ (t.veh v).location = .bay b ∧ t.queue w.kind = (s.queue w.kind).filter (fun q => q.slot ≠ v)
        ∧ (∀ d, d ≠ b → t.bay d = s.bay d))
    ∧ ((s.bay b).state = .out ∨ (s.bay b).state = .closed
        ∨ ((s.bay b).state = .busy ∨ (s.bay b).state = .faultWait) ∧ s.bayHolds b v = false
        ∨ ((s.bay b).state = .free ∨ (s.bay b).state = .calling ∧ s.bayHolds b v = false)
            ∧ s.waitingTicket (s.bay b).cfg.kind v = none →
      exec (.bayArrive src tag) s = .next ((s.replied src).raise .bayIntruder))
    ∧ ((s.bay b).state = .busy ∨ (s.bay b).state = .faultWait → s.bayHolds b v = true →
      exec (.bayArrive src tag) s = .next (s.replied src))

/-- BAY_DONE at a BUSY or FAULT_WAIT wash bay (R73): the wash counter is 0, and the bus goes to placement (R62); at a fuel
bay the bus goes to a wash when one is due, else to placement. BAY_FAULT (R74): the first fault on a ticket waits for a retry;
the next latches the bay OUT. BAY_FAULT at a CALLING bay latches it OUT too, its ticket going back to the queue (R76). A
BAY_DONE or BAY_FAULT that no ticket explains is not acted on (R73, R76). -/
def Obligations.BayDoneAndFault : Prop :=
  (∀ (s : State) src v b k, s.Delivers src 6 → s.bayOf src = b → (s.bay b).cfg.kind = .wash →
    (s.bay b).state = .busy ∨ (s.bay b).state = .faultWait → (s.bay b).ticket = some k → k.slot = v → k.kind = .wash →
    (s.veh v).state = .service → s.inSomeLane v = false → (∀ w ∈ s.waitList, w.slot ≠ v) →
    (∀ d, (s.waitingTicket d v) = none) →
    ∃ t, exec (.bayDone src) s = .next t
      ∧ (t.veh v).washCounter = 0 ∧ ((t.veh v).state = .toBerth ∨ (t.veh v).state = .inbound)
      ∧ ((t.bay b).state = .free ∧ (t.bay b).ticket = none ∨ (t.bay b).state = .calling)
      ∧ (t.bay b).faultCount = 0 ∧ (t.bay b).overstay = false ∧ t.bayHolds b v = false)
  ∧ (∀ (s : State) src b k, s.Delivers src 7 → s.bayOf src = b → (s.bay b).ticket = some k →
    ((s.bay b).state = .busy → (s.bay b).faultCount = 0 →
      exec (.bayFault src) s = .next
        ((s.replied src).setBay b
          { s.bay b with faultCount := 1, state := .faultWait, retryTimer := some s.ss.params.retryDelay }))
    ∧ ((s.bay b).state = .faultWait ∨ (s.bay b).state = .busy ∧ (s.bay b).faultCount ≠ 0 →
      ∃ t, exec (.bayFault src) s = .next t ∧ t.flag .bayOut = true
        ∧ t.bay b = ⟨(s.bay b).cfg, .out, none, (s.bay b).callMinute, 0, false, none, none, none⟩
        ∧ (t.veh k.slot).washCounter = (s.veh k.slot).washCounter))
  ∧ (∀ (s : State) src v b k, s.Delivers src 6 → s.bayOf src = b → (s.bay b).cfg.kind = .fuel →
    (s.bay b).state = .busy ∨ (s.bay b).state = .faultWait → (s.bay b).ticket = some k → k.slot = v → k.kind = .fuel →
    (s.veh v).state = .service → s.inSomeLane v = false → (∀ w ∈ s.waitList, w.slot ≠ v) →
    (∀ d, s.waitingTicket d v = none) → (∀ d, d ≠ b → s.bayHolds d v = false) → s.QueuesOfTheirKind →
    ∃ t, exec (.bayDone src) s = .next t
      ∧ (t.veh v).washCounter = (s.veh v).washCounter
      ∧ ((t.bay b).state = .free ∧ (t.bay b).ticket = none ∨ (t.bay b).state = .calling) ∧ t.bayHolds b v = false
      ∧ ((s.veh v).washCounter < s.ss.params.washInterval ∨ 64 ≤ s.liveTickets .wash →
          (t.veh v).state = .toBerth ∨ (t.veh v).state = .inbound)
      ∧ (s.ss.params.washInterval ≤ (s.veh v).washCounter → s.liveTickets .wash < 64 →
          (t.veh v).state = .service
          ∧ (Ticket.mk v .wash s.ycs.minute 0 .waiting ∈ t.stc.washQueue
            ∨ ∃ d, (t.bay d).ticket = some ⟨v, .wash, s.ycs.minute, 0, .calledToBay⟩)))
  ∧ ∀ (s : State) src b, s.bayOf src = b →
    (∀ k, s.Delivers src 7 → (s.bay b).state = .calling → (s.bay b).ticket = some k → k.kind = (s.bay b).cfg.kind →
      s.QueuesOfTheirKind → (∀ q ∈ s.queue k.kind, q.slot ≠ k.slot) →
      ∃ t, exec (.bayFault src) s = .next t ∧ t.flag .bayOut = true
        ∧ t.bay b = ⟨(s.bay b).cfg, .out, none, (s.bay b).callMinute, 0, false, none, none, none⟩
        ∧ (t.veh k.slot).state = .service
        ∧ ({ k with state := .waiting } ∈ t.queue k.kind
          ∨ ∃ d, (t.bay d).ticket = some { k with state := .calledToBay }))
    ∧ (s.Delivers src 7 → (s.bay b).state = .free ∨ (s.bay b).state = .out ∨ (s.bay b).state = .closed →
      exec (.bayFault src) s = .next (s.replied src))
    ∧ (s.Delivers src 6 → (s.bay b).state = .free ∨ (s.bay b).state = .calling ∨ (s.bay b).state = .out
        ∨ (s.bay b).state = .closed → exec (.bayDone src) s = .next (s.replied src))

/-- CHARGER_REPORT with the fault flag clear, at a charger not in FAULT: the three ways the connected slot is decided,
with the reported power and SoC (R86, R87); the SoC of a tag that resolves is stored whether or not its vehicle matches. With
the fault flag set the charger is in FAULT, its grant withdrawn, and the connection is decided all the same; with it clear a
charger in FAULT is CONNECTED or FREE again (R87). -/
def Obligations.ChargerReportConnects : Prop :=
  (∀ (s : State) src tag soc power marks c, s.Delivers src 8 → tag < 2 ^ 24 → soc < 2 ^ 16 → power < 2 ^ 16 →
    marks.getLsbD 0 = false → s.chargerOf src = c → (s.charger c).state ≠ .fault →
    (∀ v, s.slotOf tag = some v → s.matches v c = true → (s.charger c).connected = some v →
      exec (.chargerReport src tag soc power marks) s = .next
        (((s.replied src).setVeh v { s.veh v with lastSoc := some (min soc 1000) }).setCharger c
          { s.charger c with actual := min power 2000 }))
    ∧ (∀ v, s.slotOf tag = some v → s.matches v c = true → (s.charger c).connected ≠ some v →
      ∃ t, exec (.chargerReport src tag soc power marks) s = .next t
        ∧ (∃ resend, t.charger c = ⟨(s.charger c).cfg, .connected, some v, 0, min power 2000, 0, 0, resend⟩)
        ∧ (∀ d, d ≠ c → t.charger d = s.charger d)
        ∧ t.fleet = (s.setVeh v { s.veh v with lastSoc := some (min soc 1000) }).fleet)
    ∧ ((∀ v, s.slotOf tag = some v → s.matches v c = false) →
      ∃ t, exec (.chargerReport src tag soc power marks) s = .next t
        ∧ (∃ resend, t.charger c = ⟨(s.charger c).cfg, .free, none, 0, min power 2000, 0, 0, resend⟩)
        ∧ (∀ d, d ≠ c → t.charger d = s.charger d)
        ∧ (tag ≠ 0 → t.flag .chargerMismatch = true)
        ∧ (tag ≠ 0 → s.slotOf tag = none → t.flag .unknownVehicle = true))
    ∧ (∀ v, s.slotOf tag = some v → s.matches v c = false →
      ∃ t, exec (.chargerReport src tag soc power marks) s = .next t
        ∧ t.fleet = (s.setVeh v { s.veh v with lastSoc := some (min soc 1000) }).fleet)
    ∧ (s.slotOf tag = none →
      ∃ t, exec (.chargerReport src tag soc power marks) s = .next t ∧ t.fleet = s.fleet))
  ∧ ∀ (s : State) src tag soc power marks c after, s.Delivers src 8 → tag < 2 ^ 24 → soc < 2 ^ 16 → power < 2 ^ 16 →
    s.chargerOf src = c → marks.getLsbD 0 = true ∨ (s.charger c).state = .fault →
    after = (fun fallen : ChargerState => if marks.getLsbD 0 = true then ChargerState.fault else fallen) →
    (∀ v, s.slotOf tag = some v → s.matches v c = true → (s.charger c).connected = some v →
      ∃ t resend, exec (.chargerReport src tag soc power marks) s = .next t
        ∧ t.charger c = (if marks.getLsbD 0 = true then
            { s.charger c with state := .fault, actual := min power 2000, grant := 0, hold := 0, resend := resend }
          else { s.charger c with state := .connected, actual := min power 2000 }))
    ∧ (∀ v, s.slotOf tag = some v → s.matches v c = true → (s.charger c).connected ≠ some v →
      ∃ t resend, exec (.chargerReport src tag soc power marks) s = .next t
        ∧ t.charger c = ⟨(s.charger c).cfg, after .connected, some v, 0, min power 2000, 0, 0, resend⟩)
    ∧ ((∀ v, s.slotOf tag = some v → s.matches v c = false) →
      ∃ t resend, exec (.chargerReport src tag soc power marks) s = .next t
        ∧ t.charger c = ⟨(s.charger c).cfg, after .free, none, 0, min power 2000, 0, 0, resend⟩
        ∧ (tag ≠ 0 → t.flag .chargerMismatch = true))

/-- METER_REPORT stores the reading of the feeder that the station's index names, 9999 at most, and changes no grant
(R88). -/
def Obligations.MeterReportStoresTheReading : Prop :=
  ∀ (s : State) src draw f, s.Delivers src 9 → draw < 2 ^ 16 → s.feederOf src = f →
    exec (.meterReport src draw) s = .next
      ((s.replied src).setFeeder f { s.feeder f with reading := some (min draw 9999) })

/-! ### The depot link -/

/-- A frame that fails the check, a telegram for another address and a server directive (R162, R182, R159).
REQUEST_RECEIVED: a request joins the buffer while it holds fewer than 4, and is discarded with LINK_OVERRUN when it
holds 4; from the server station it restarts the supervision either way (R163, R182). -/
def Obligations.ReceivingOnTheLink : Prop :=
  (∀ (s : State),
    (∀ frame, parseTelegram frame = none → exec (.linkFrameCheckFail frame) s = .next (s.raise .lineCheckError))
    ∧ ∀ src heard, heard = (if src = s.ss.params.server then
          { s with ycs := { s.ycs with mode := .normal, supervision := some s.ss.params.supervisionPeriod } } else s) →
      (∀ (dest : Addr) (kind : Byte) payload, dest ≠ s.ownAddr → kind ∉ ([17, 18, 19, 20] : List Byte) →
        exec (.linkTelegramDiscarded src (some dest) kind payload) s = .next (heard.raise .lineCheckError))
      ∧ ∀ dest kind payload, dest ≠ s.ownAddr →
        (berthKind (s.station dest).cfg.kind = false →
          exec (.serverDirective src dest kind payload) s = .next (heard.raise .unknownStation))
        ∧ (berthKind (s.station dest).cfg.kind = true → 16 ≤ s.blc.forwardFifo.length →
          exec (.serverDirective src dest kind payload) s = .next (heard.raise .forwardDrop))
        ∧ (berthKind (s.station dest).cfg.kind = true → s.blc.forwardFifo.length < 16 →
          exec (.serverDirective src dest kind payload) s = .next
            { heard with blc := { s.blc with forwardFifo := s.blc.forwardFifo ++ [⟨dest, kind, payload⟩] } }))
  ∧ (∀ (s : State) src kind payload heard, heard = (if src = s.ss.params.server then
        { s with ycs := { s.ycs with mode := .normal, supervision := some s.ss.params.supervisionPeriod } } else s) →
    (s.dlp.requests.length < 4 →
      exec (.requestReceived src kind payload) s = .next
        { heard with dlp := { s.dlp with requests := s.dlp.requests ++ [⟨src, kind, payload⟩] } })
    ∧ (4 ≤ s.dlp.requests.length →
      exec (.requestReceived src kind payload) s = .next (heard.raise .linkOverrun)))

/-- The output of the depot link: the answer first, then the FIFOs, the pointer deciding between two that hold something, and
nothing when nothing waits (R165), with the payload of each notice (R193, R107). Nothing is sent between the answer to RESET
and the soft reset (R176). The bits last sent, the soft reset that becomes due, and that a transmission R165 does not choose
changes nothing, are the model's choices (log 26, 22, 4). -/
def Obligations.OutputOfTheLink : Prop :=
  (∀ (s : State), s.dlp.reset ≠ .due →
    (∀ a, s.dlp.answer = some a →
      exec .transmitAnswer s = .next
        { s with dlp := { s.dlp with
            answer := none, reset := if s.dlp.reset = .ordered then .due else s.dlp.reset
            out := some (encodeTelegram ⟨s.ownAddr, some a.dest, 65,
              a.summary :: (codeByte outcomes a.outcome ++ toBytes 1 (faultCode a.fault + 128 * a.further.toNat)
                ++ [a.kind] ++ a.data)⟩) } }
      ∧ exec .transmitNotice s = .next s ∧ exec .transmitForward s = .next s)
    ∧ (∀ n rest, s.dlp.answer = none → s.dlp.notices = n :: rest → s.dlp.forwards = [] ∨ s.dlp.pointer = .notice →
      exec .transmitNotice s = .next
        { s with dlp := { s.dlp with
            notices := rest, pointer := .forward
            out := some (encodeTelegram ⟨s.ownAddr, some s.ss.params.server, 66, noticePayload n⟩) } }
      ∧ exec .transmitForward s = .next s)
    ∧ (∀ r rest, s.dlp.answer = none → s.dlp.forwards = r :: rest → s.dlp.notices = [] ∨ s.dlp.pointer = .forward →
      exec .transmitForward s = .next
        { s with dlp := { s.dlp with
            forwards := rest, pointer := .notice
            out := some (encodeTelegram ⟨r.src, some s.ss.params.server, r.kind, r.payload⟩) } }
      ∧ exec .transmitNotice s = .next s)
    ∧ (s.dlp.answer = none → exec .transmitAnswer s = .next s)
    ∧ (s.dlp.notices = [] → exec .transmitNotice s = .next s)
    ∧ (s.dlp.forwards = [] → exec .transmitForward s = .next s))
  ∧ (∀ (s : State), s.dlp.reset = .due →
    exec .transmitAnswer s = .next s ∧ exec .transmitNotice s = .next s ∧ exec .transmitForward s = .next s)
  ∧ ∀ (tag : Nat) (v : Slot) (l : LaneNo) (b : BayNo) (f : FeederNo) (a : Addr) (state : VehicleState) (stateCode : Nat)
      (queue : QueueKind) row block key n m k w,
    stateCode = [VehicleState.out, .inbound, .service, .toBerth, .parked, .called, .departing, .moving, .lost].idxOf state →
    (∀ origin, noticePayload (.placed tag v l n m origin) =
      laidOut [(1, 0), (3, tag), (2, v), (1, l), (1, n), (1, m), (1, [Origin.gate, .serviceExit, .shunt].idxOf origin)])
    ∧ (∀ low atCall, noticePayload (.called row block key tag l n low atCall) =
      laidOut [(1, 1), (1, row), (2, block), (2, key), (3, tag), (1, l), (1, n), (1, low.toNat + 2 * atCall.toNat)])
    ∧ noticePayload (.gone row block tag n) = laidOut [(1, 2), (1, row), (2, block), (3, tag), (2, n)]
    ∧ (∀ cause, noticePayload (.missed row block key tag cause) =
      laidOut [(1, 3), (1, row), (2, block), (2, key), (3, tag), (1, [MissCause.grace, .rollover].idxOf cause)])
    ∧ noticePayload (.short row block key (some (tag, state))) =
      laidOut [(1, 4), (1, row), (2, block), (2, key), (1, 0), (3, tag), (1, stateCode)]
    ∧ noticePayload (.short row block key none) =
      laidOut [(1, 4), (1, row), (2, block), (2, key), (1, 1), (3, 0), (1, 255)]
    ∧ noticePayload (.blocked row block tag l n) = laidOut [(1, 5), (1, row), (2, block), (3, tag), (1, l), (1, n)]
    ∧ noticePayload (.shuntFull l tag v row) = laidOut [(1, 6), (1, l), (3, tag), (2, v), (1, row)]
    ∧ (∀ origin, noticePayload (.noBerth tag v origin n) =
      laidOut [(1, 7), (3, tag), (2, v), (1, [Origin.gate, .serviceExit, .shunt].idxOf origin), (2, n)])
    ∧ (∀ cause, noticePayload (.bayOut b cause tag) =
      laidOut [(1, 8), (1, b), (1, [BayOutCause.serviceFault, .callFault].idxOf cause), (3, tag)])
    ∧ noticePayload (.bayNoShow b tag v queue) =
      laidOut [(1, 9), (1, b), (3, tag), (2, v), (1, [QueueKind.fuel, .wash].idxOf queue)]
    ∧ noticePayload (.feederShed f n m k w) = laidOut [(1, 10), (1, f), (2, n), (2, min 65535 m), (2, k), (2, w)]
    ∧ noticePayload (.feederTrip f n m k w) = laidOut [(1, 11), (1, f), (2, n), (2, min 65535 m), (2, k), (2, w)]
    ∧ (∀ kind, noticePayload (.stationSilent a kind n) =
      laidOut [(1, 12), (1, a), (1, [StationKind.gateReader, .laneReader, .bayUnit, .charger, .meter, .display, .server,
        .maint, .unused].idxOf kind), (1, n)])
    ∧ noticePayload (.yardConflict tag v state n) = laidOut [(1, 13), (3, tag), (2, v), (1, stateCode), (1, n)]

/-! ### Table access -/

/-- SELECT: its checks in order, and the pointer it sets (R168). FETCH: its check, the latch that is answered, and the
row it is loaded with (R170); that row is read after the acceptance, which has emptied the deferred fault slot. The bytes of a
row of every table (R171, R191, R192). That a set SILENT mark is sent as 1, and how an empty plan row reads, are the model's
choices (log 45, 30). -/
def Obligations.SelectAndFetch : Prop :=
  (∀ (s : State) r rest (code : Byte) n, s.Takes r rest → r.kind = 49 → n < 2 ^ 16 → r.payload = code :: toBytes 2 n →
    (13 ≤ code.toNat → exec .select s = .next (s.answered r rest .format []))
    ∧ ∀ t, tables[code.toNat]? = some t →
      (readClass t < s.requesterClass r.src → exec .select s = .next (s.answered r rest .class []))
      ∧ (s.requesterClass r.src ≤ readClass t → rowLimit t ≤ n → exec .select s = .next (s.answered r rest .range []))
      ∧ (s.requesterClass r.src ≤ readClass t → n < rowLimit t →
        exec .select s = .next { s.answered r rest .ok [] with tau := { s.tau with table := t, row := n } }))
  ∧ (∀ (s : State) r rest, s.Takes r rest → r.kind = 51 → r.payload = [] →
    (s.requesterClass r.src ≤ readClass s.tau.table → (∀ x, s.tau.latch = some x → s.requesterClass r.src ≤ readClass x.table) →
      exec .fetch s = .next
        { s.answered r rest .ok (match s.tau.latch with
            | some x => codeByte tables x.table ++ toBytes 2 x.row ++ x.bytes
            | none => [255, 255, 255]) with
          tau := if s.tau.row < rowLimit s.tau.table then
              ⟨s.tau.table, s.tau.row + 1, some ⟨s.tau.table, s.tau.row, (s.takeRequest rest).readRow s.tau.table s.tau.row⟩⟩
            else ⟨s.tau.table, s.tau.row, none⟩ })
    ∧ (readClass s.tau.table < s.requesterClass r.src ∨ (∃ x, s.tau.latch = some x ∧ readClass x.table < s.requesterClass r.src) →
      exec .fetch s = .next (s.answered r rest .class [])))
  ∧ (∀ table n bytes, taggedRow table n bytes =
    laidOut [(1, [Table.station, .lane, .charger, .feeder, .bay, .params, .fleet, .active, .standby, .queueFuel, .queueWash,
      .waitList, .events].idxOf table), (2, n)] ++ bytes)
  ∧ ∀ (s : State),
    (∀ a : Addr, s.readRow .station a = laidOut
      [(1, [StationKind.gateReader, .laneReader, .bayUnit, .charger, .meter, .display, .server, .maint, .unused].idxOf
          (s.station a).cfg.kind),
        (1, (s.station a).cfg.index), (1, (s.station a).cfg.level),
        (1, [Action.consume, .copy, .pass].idxOf (s.station a).cfg.action),
        (1, (s.station a).cfg.polled.toNat + 2 * (s.station a).cfg.urgent.toNat),
        (1, (s.station a).misses), (1, (s.station a).silent.toNat)])
    ∧ (∀ l : LaneNo, s.readRow .lane l = laidOut
      ([(1, [LaneKind.through, .deadEnd].idxOf (s.lane l).cfg.kind), (1, [LaneRole.park, .shunt].idxOf (s.lane l).cfg.role),
        (1, (s.lane l).cfg.capacity), (1, (s.lane l).cfg.reader), (1, ((s.lane l).cfg.mouth.map Fin.val).getD 255),
        (1, if (s.lane l).cfg.capacity = 0 then 1 else if s.silent (s.lane l).cfg.reader = true then 2
          else [SetState.opened, .closed].idxOf (s.lane l).setState),
        (1, [SetState.opened, .closed].idxOf (s.lane l).setState), (1, (s.lane l).front), (1, (s.lane l).entries.length)]
      ++ (s.lane l).entries.zipIdx.flatMap fun x =>
        [(2, x.1.slot.val), (1, [Standing.present, .expected].idxOf x.1.standing),
          (1, match (s.lane l).cfg.kind with
            | .through => (s.lane l).front + (((s.lane l).entries.take x.2).map fun e => s.units e.slot).sum
            | .deadEnd => (((s.lane l).entries.drop (x.2 + 1)).map fun e => s.units e.slot).sum)]))
    ∧ (∀ c : ChargerNo, s.readRow .charger c = laidOut
      [(1, ((s.charger c).cfg.station.map Fin.val).getD 255), (1, (s.charger c).cfg.lane), (1, (s.charger c).cfg.position),
        (1, (s.charger c).cfg.feeder), (2, (s.charger c).cfg.pMax), (2, (s.charger c).cfg.pMin),
        (1, [ChargerState.free, .connected, .charging, .waiting, .full, .fault].idxOf (s.charger c).state),
        (2, ((s.charger c).connected.map Fin.val).getD 65535), (2, (s.charger c).grant), (2, (s.charger c).actual),
        (1, (s.charger c).turnAge), (1, (s.charger c).hold), (1, (s.charger c).resend.toNat)])
    ∧ (∀ f : FeederNo, s.readRow .feeder f = laidOut
      [(2, (s.feeder f).cfg.rated), (2, (s.feeder f).cfg.limit), (1, ((s.feeder f).cfg.meter.map Fin.val).getD 255),
        (2, (s.feeder f).cfg.fallback), (1, [FeederState.normal, .shed, .tripped].idxOf (s.feeder f).state),
        (2, (s.feeder f).accumulator), (2, (s.feeder f).baseLoad), (2, (s.feeder f).reading.getD 65535),
        (2, (s.feeder f).budget),
        (2, (((upTo 64).filter fun c => (s.charger c).cfg.feeder = f).map fun c => (s.charger c).grant).sum)])
    ∧ (∀ b : BayNo, s.readRow .bay b = laidOut
      ([(1, [QueueKind.fuel, .wash].idxOf (s.bay b).cfg.kind), (1, ((s.bay b).cfg.unit.map Fin.val).getD 255),
        (1, ((s.bay b).cfg.display.map Fin.val).getD 255),
        (1, [BayState.free, .calling, .busy, .faultWait, .out, .closed].idxOf (s.bay b).state), (2, (s.bay b).callMinute),
        (1, (if (s.bay b).faultCount = 0 then 0 else 1) + 2 * (s.bay b).overstay.toNat)]
      ++ match (s.bay b).ticket with
        | some k => [(2, k.slot.val), (3, (s.veh k.slot).tag), (1, [QueueKind.fuel, .wash].idxOf k.kind), (2, k.join),
            (1, k.noShows), (1, [TicketState.waiting, .calledToBay, .inBay].idxOf k.state)]
        | none => [(2, 65535), (3, 0), (1, 0), (2, 0), (1, 0), (1, 0)]))
    ∧ (∀ p, p = s.ss.params → s.readRow .params 0 = laidOut
      [(1, p.server), (1, p.supervisionPeriod), (1, p.arrivalTimeout), (1, p.washInterval), (1, p.priorityHorizon),
        (1, p.washSkipMargin), (1, p.noShowTimeout), (1, p.retryDelay), (1, p.overstayFuel), (1, p.overstayWash),
        (1, p.turnLength), (1, p.ageLimit), (1, p.callLead), (1, p.departureGrace)])
    ∧ (∀ (v : Slot) (r : Vehicle) place, r = s.veh v →
      place = (match r.location with
        | .none => [0, 255, 255, 255]
        | .gate => [1, 255, 255, 255]
        | .queue k => [2, [QueueKind.fuel, .wash].idxOf k, 255, 255]
        | .bay b => [3, b.val, 255, 255]
        | .lane l standing shunt => [4, l.val, [Standing.present, .expected].idxOf standing, (shunt.map Fin.val).getD 255]
        | .enRoute target => [5, (target.map Fin.val).getD 255, 255, 255]) →
      s.readRow .fleet v = laidOut
        ([(3, r.tag), (1, [Propulsion.diesel, .electric].idxOf r.propulsion),
          (1, [LengthClass.standard, .articulated].idxOf r.length), (2, r.battery.getD 65535), (2, r.standby.getD 65535),
          (1, r.washProgramme), (1, r.washCounter),
          (1, [VehicleState.out, .inbound, .service, .toBerth, .parked, .called, .departing, .moving, .lost].idxOf r.state)]
        ++ place.map (fun n => (1, n))
        ++ [(1, r.held.toNat + 2 * r.misorder.toNat + 4 * r.shift.toNat), (1, r.boundRow.getD 255), (2, r.lastSoc.getD 65535),
          (2, r.arrival)]))
    ∧ (∀ (table : Table) (bank : List PlanRow) i, table = .active ∧ bank = s.ds.active ∨ table = .standby ∧ bank = s.ds.standby →
      s.readRow table i = match bank[i]? with
        | some r => laidOut
          [(2, r.block), (2, r.key), (1, [KindReq.any, .diesel, .electric].idxOf r.kindReq),
            (1, [LengthReq.any, .standard, .articulated].idxOf r.lengthReq), (2, r.energy),
            (2, (r.bound.map Fin.val).getD 65535),
            (1, [RowState.planned, .bound, .short, .called, .gone, .missed, .cancelled].idxOf r.state),
            (2, r.callMinute.getD 65535), (1, (r.originLane.map Fin.val).getD 255),
            (1, r.blocked.toNat + 2 * r.lowEnergy.toNat)]
        | none => laidOut [(2, 0), (2, 0), (1, 0), (1, 0), (2, 0), (2, 65535), (1, 0), (2, 0), (1, 0), (1, 0)])
    ∧ (∀ (table : Table) (queue : List Ticket) i,
      table = .queueFuel ∧ queue = s.stc.fuelQueue ∨ table = .queueWash ∧ queue = s.stc.washQueue →
      s.readRow table i = match queue[i]? with
        | some k => laidOut [(2, k.slot), (3, (s.veh k.slot).tag), (2, k.join), (1, k.noShows),
            (1, [TicketState.waiting, .calledToBay, .inBay].idxOf k.state)]
        | none => laidOut [(2, 65535), (3, 0), (2, 0), (1, 0), (1, 0)])
    ∧ (∀ i, s.readRow .waitList i = match s.waitList[i]? with
        | some w => laidOut [(2, w.slot), (1, [Origin.gate, .serviceExit, .shunt].idxOf w.origin), (2, w.join)]
        | none => laidOut [(2, 65535), (1, 0), (2, 0)])
    ∧ s.readRow .events 0 = laidOut
      [(4, s.er.flags.toNat), (1, s.summary.toNat), (2, s.ycs.minute),
        (1, s.ycs.clockSet.toNat + (if s.ycs.mode = .fallback then 2 else 0)), (1, s.ds.active.length),
        (1, s.ds.standby.length), (1, [SwapRegister.none, .armed, .pending].idxOf s.ds.swap), (2, s.waitList.length),
        (1, s.liveTickets .fuel), (1, s.liveTickets .wash)]

/-- CLEAR: the flags as they stood are answered, and those its mask names are cleared; class 1, or 3 for an empty mask
(R172). IDENT changes nothing and answers the identification, whatever the class (R178); the codes are free values (log
3). The place of each flag in the event flag word, and what each bit of the summary status shows (R173, R191). -/
def Obligations.ClearAndIdent : Prop :=
  (∀ (s : State) r rest (mask : BitVec 32), s.Takes r rest → r.kind = 52 → r.payload = toBytes 4 mask.toNat →
    (s.requesterClass r.src ≤ (if mask = 0 then 3 else 1) →
      exec .clear s = .next
        { s.answered r rest .ok (toBytes 4 s.er.flags.toNat) with
          er := { flags := s.er.flags &&& ~~~ mask, deferred := none, further := false } })
    ∧ ((if mask = 0 then 3 else 1) < s.requesterClass r.src → exec .clear s = .next (s.answered r rest .class [])))
  ∧ (∀ (s : State) r rest, s.Takes r rest → r.kind = 54 → r.payload = [] →
    exec .ident s = .next (s.answered r rest .ok
      (toBytes 2 Config.vendorCode.toNat ++ toBytes 2 Config.partCode.toNat ++ [Config.revision] ++ toBytes 1 s.ownAddr.val
        ++ ([128, 32, 64, 4, 6, 1, 256, 200, 200, 64, 64, 256, 1].map (toBytes 2)).flatten
        ++ toBytes 1 s.ds.active.length ++ toBytes 1 s.ds.standby.length)))
  ∧ ∀ (s : State),
    (∀ f, s.flag f = s.er.flags.getLsbD ([EventFlag.stationSilent, .lineCheckError, .unknownStation, .directiveDrop,
      .forwardDrop, .noticeDrop, .linkOverrun, .unknownVehicle, .yardConflict, .wrongLane, .arrivalLapse, .unscheduledExit,
      .noBerth, .misorderPlaced, .queueFull, .bayNoShow, .bayIntruder, .bayOut, .overstay, .washSkipped, .feederShed,
      .feederTrip, .chargerMismatch, .callBlocked, .shuntFull, .rowShort, .rowMissed, .lowEnergy, .supervisionLapse,
      .configDefaulted, .storeFailed, .softReset].idxOf f))
    ∧ (s.summary.getLsbD 0 = true ↔ s.ycs.mode = .fallback)
    ∧ (s.summary.getLsbD 1 = true ↔ ∃ f, s.flag f = true)
    ∧ (s.summary.getLsbD 2 = true ↔ ∃ fault, s.er.deferred = some fault)
    ∧ (s.summary.getLsbD 3 = true ↔ s.ss.storing = true)
    ∧ (s.summary.getLsbD 4 = true ↔ ∃ f, (s.feeder f).state = .tripped)
    ∧ (s.summary.getLsbD 5 = true ↔ s.ycs.clockSet = false)
    ∧ (s.summary.getLsbD 6 = true ↔ s.ds.swap = .armed ∨ s.ds.swap = .pending)
    ∧ (s.summary.getLsbD 7 = true ↔ ∃ a, (s.station a).silent = true)

/-- Requests that are refused before any rule of their own: FORMAT for a kind or a length that is not valid (R164, R169,
R174, R191, R192); CLASS, then RANGE, for a PUT that does not reach its table's rule (R169). Which payload lengths fit a table
that is read only is the model's inference (log 24). -/
def Obligations.RefusedRequests : Prop :=
  ∀ (s : State) r rest, s.Takes r rest →
    (r.kind ∉ ([49, 50, 51, 52, 53, 54] : List Byte) ∨ r.kind = 49 ∧ r.payload.length ≠ 3
        ∨ r.kind = 50 ∧ r.payload.length ∉ putLengths s.tau.table ∨ r.kind = 51 ∧ r.payload ≠ []
        ∨ r.kind = 52 ∧ r.payload.length ≠ 4 ∨ r.kind = 53 ∧ (∀ code operands, r.payload = code :: operands → 17 ≤ code.toNat)
        ∨ r.kind = 53 ∧ (∃ code operands k, r.payload = code :: operands ∧ orderKinds[code.toNat]? = some k
            ∧ operands.length ≠ operandBytes k)
        ∨ r.kind = 54 ∧ r.payload ≠ [] →
      exec .requestFormatRefused s = .next (s.answered r rest .format []))
    ∧ (r.kind = 50 → r.payload.length ∈ putLengths s.tau.table →
      ((∀ n, putClass s.tau.table = some n → n < s.requesterClass r.src) →
        exec .putReadOnly s = .next (s.answered r rest .class []))
      ∧ (∀ n, putClass s.tau.table = some n → s.requesterClass r.src ≤ n → rowLimit s.tau.table ≤ s.tau.row →
        exec .putReadOnly s = .next (s.answered r rest .range [])))

/-- The command of an order kind (a YARD_SET to a lane). -/
def orderCommand : OrderKind → Instr
  | .swapNow => .swapNow
  | .swapAtRollover => .swapAtRollover
  | .cancelSwap => .cancelSwap
  | .cancelRow => .cancelRow
  | .hold => .hold
  | .unhold => .unhold
  | .yardSet => .yardSet
  | .openLane => .openLane
  | .closeLane => .closeLane
  | .openBay => .openBay
  | .closeBay => .closeBay
  | .clearBay => .clearBay
  | .clearFeeder => .clearFeeder
  | .clockSet => .clockSet
  | .store => .store
  | .load => .load
  | .reset => .reset

/-- The class of a requester (R164). Checks 2 and 3 of every order: CLASS, then PENDING while an operation of its kind
is in flight, and nothing else happens (R174, R175). YARD_SET with OUT is the one order with a command of its own (R18). -/
def Obligations.OrdersRefusedByClassOrPending : Prop :=
  (∀ (s : State) a,
    ((s.station a).cfg.kind = .server ∨ (s.station a).cfg.kind = .maint → s.requesterClass a = (s.station a).cfg.level)
    ∧ ((s.station a).cfg.kind = .unused → a = s.ss.params.server → s.requesterClass a = 0)
    ∧ ((s.station a).cfg.kind = .unused → a ≠ s.ss.params.server → s.requesterClass a = 3)
    ∧ (berthKind (s.station a).cfg.kind = true → s.requesterClass a = 3))
  ∧ (∀ (s : State) r rest k, s.Takes r rest → s.asked r = .order k →
    (orderClass k < s.requesterClass r.src → exec (orderCommand k) s = .next (s.answered r rest .class []))
    ∧ (s.requesterClass r.src ≤ orderClass k →
        k = .store ∧ s.ss.storing = true ∨ k = .load ∧ s.ss.loading = true
          ∨ (k = .swapNow ∨ k = .swapAtRollover) ∧ s.ds.swap ≠ .none →
        exec (orderCommand k) s = .next (s.answered r rest .pending [])))
  ∧ ∀ (s : State) r rest, s.Takes r rest → s.asked r = .yardSetOut → 0 < s.requesterClass r.src →
    exec .yardSetOut s = .next (s.answered r rest .class [])

/-! ### PUT -/

/-- PUT to PARAMS: every parameter is stored at the nearest value of its range, CLAMPED when one was not in it; FORMAT
for a server station above 127, BUSY during a STORE (R183). -/
def Obligations.PutParamsClamps : Prop :=
  ∀ (s : State) r rest b, s.TakesPut r rest .params 0 → r.payload.length = 14 → b = (fun n => (r.payload.getD n 0).toNat) →
    (∀ (h : b 0 < 128) p,
      p = Params.mk ⟨b 0, h⟩ (max 1 (min 60 (b 1))) (max 1 (min 30 (b 2))) (max 1 (min 7 (b 3))) (min 240 (b 4))
        (min 120 (b 5)) (max 1 (min 15 (b 6))) (max 1 (min 10 (b 7))) (max 1 (min 30 (b 8))) (max 1 (min 30 (b 9)))
        (max 1 (min 30 (b 10))) (max 10 (b 11)) (min 30 (b 12)) (min 15 (b 13)) →
      (s.ss.storing = false →
        exec .putParams s = .next
          { s.putAnswered r rest (if paramsRow p = r.payload then .ok else .clamped) with ss := { s.ss with params := p } })
      ∧ (s.ss.storing = true → exec .putParams s = .next (s.answered r rest .busy (taggedRow .params 0 (paramsRow s.ss.params)))))
    ∧ (128 ≤ b 0 → exec .putParams s = .next (s.answered r rest .format (taggedRow .params 0 (paramsRow s.ss.params))))

/-- PUT to a FEEDER row (R84): powers in steps of 10 up to 2000, the limit in 10..32767, and a new meter has no reading;
FORMAT for a meter of 128..254, BUSY during a STORE. -/
def Obligations.PutFeederStoresTheRow : Prop :=
  (∀ (s : State) r rest (f : FeederNo) rated limit (meter : Option Addr) fallback tail cfg,
    s.TakesPut r rest .feeder f.val → s.ss.storing = false → rated < 2 ^ 16 → limit < 2 ^ 16 → fallback < 2 ^ 16 →
    tail.length = 0 ∨ tail.length = 11 →
    r.payload = toBytes 2 rated ++ toBytes 2 limit ++ stationBytes meter ++ toBytes 2 fallback ++ tail →
    cfg = FeederCfg.mk (min 2000 rated / 10 * 10) (max 10 (min 32767 limit)) meter (min 2000 fallback / 10 * 10) →
    exec .putFeeder s = .next
      ((s.putAnswered r rest (if cfg = ⟨rated, limit, meter, fallback⟩ then .ok else .clamped)).setFeeder f
        { s.feeder f with
          cfg := cfg, reading := if (s.feeder f).cfg.meter = meter then (s.feeder f).reading else none }))
  ∧ ∀ (s : State) r rest (f : FeederNo), s.TakesPut r rest .feeder f.val → r.payload.length = 7 ∨ r.payload.length = 18 →
    (noStation (byteOf r.payload 4) → exec .putFeeder s = .next (s.putRefused r rest .format))
    ∧ (¬ noStation (byteOf r.payload 4) → s.ss.storing = true → exec .putFeeder s = .next (s.putRefused r rest .busy))

/-- PUT to a CHARGER row (R82): the powers are clamped to steps of 10, P_max in 10..300 and P_min in 10..100 and at most
P_max; a row that moves the charger lets its vehicle go; a P_max below the grant withdraws it; any other row changes the
static part alone; FORMAT for a number or a station out of range, BUSY during a STORE, CONFLICT where another charger with a
station stands. That a P_min lowered to P_max answers CLAMPED is the model's inference (log 38). -/
def Obligations.PutChargerStoresTheRow : Prop :=
  (∀ (s : State) r rest (c : ChargerNo) (station : Option Addr) (lane : LaneNo) position (feeder : FeederNo) pMax pMin tail
      high low cfg outcome,
    s.TakesPut r rest .charger c.val → s.ss.storing = false → position < 8 → pMax < 2 ^ 16 → pMin < 2 ^ 16 →
    tail.length = 0 ∨ tail.length = 10 →
    r.payload = stationBytes station ++ toBytes 1 lane.val ++ toBytes 1 position ++ toBytes 1 feeder.val ++ toBytes 2 pMax
      ++ toBytes 2 pMin ++ tail →
    high = max 10 (min 300 pMax / 10 * 10) → low = min high (max 10 (min 100 pMin / 10 * 10)) →
    cfg = ChargerCfg.mk station lane position feeder high low →
    outcome = (if high = pMax ∧ low = pMin then Outcome.ok else .clamped) →
    (station = none ∨ ∀ d, d ≠ c → (s.charger d).cfg.station = none ∨ (s.charger d).cfg.lane ≠ lane
        ∨ (s.charger d).cfg.position ≠ position) →
    ((s.charger c).cfg.station = station ∧ (s.charger c).cfg.lane = lane ∧ (s.charger c).cfg.position = position
        ∧ (s.charger c).cfg.feeder = feeder →
      ((s.charger c).grant ≤ high →
        exec .putCharger s = .next ((s.putAnswered r rest outcome).setCharger c { s.charger c with cfg := cfg }))
      ∧ (high < (s.charger c).grant →
        ∃ t resend, exec .putCharger s = .next t
          ∧ t.charger c = { s.charger c with
              cfg := cfg, grant := 0, hold := 0, resend := resend, state := unchargedState (s.charger c) }
          ∧ (∀ d, d ≠ c → t.charger d = s.charger d) ∧ t.ca.feeders = s.ca.feeders
          ∧ t.fleet = s.fleet ∧ t.lanes = s.lanes ∧ t.ds = s.ds ∧ t.stc = s.stc
          ∧ t.tau = { s.tau with row := s.tau.row + 1 }
          ∧ t.dlp = (s.putAnswered r rest outcome).dlp))
    ∧ (¬ ((s.charger c).cfg.station = station ∧ (s.charger c).cfg.lane = lane ∧ (s.charger c).cfg.position = position
        ∧ (s.charger c).cfg.feeder = feeder) →
      ∃ t, exec .putCharger s = .next t
        ∧ t.charger c = ⟨cfg, if (s.charger c).state = .fault then .fault else .free, none, 0, 0, 0, 0, true⟩
        ∧ (∀ d, d ≠ c → t.charger d = s.charger d) ∧ t.ca.feeders = s.ca.feeders
        ∧ t.fleet = s.fleet ∧ t.lanes = s.lanes ∧ t.ds = s.ds ∧ t.stc = s.stc
        ∧ t.tau = { s.tau with row := s.tau.row + 1 }
        ∧ t.dlp = (s.putAnswered r rest outcome).dlp))
  ∧ ∀ (s : State) r rest (c : ChargerNo) bad, s.TakesPut r rest .charger c.val →
    r.payload.length = 8 ∨ r.payload.length = 18 →
    bad = (noStation (byteOf r.payload 0) ∨ 31 < byteOf r.payload 1 ∨ 7 < byteOf r.payload 2 ∨ 3 < byteOf r.payload 3) →
    (bad → exec .putCharger s = .next (s.putRefused r rest .format))
    ∧ (¬ bad → s.ss.storing = true → exec .putCharger s = .next (s.putRefused r rest .busy))
    ∧ (¬ bad → s.ss.storing = false → byteOf r.payload 0 ≠ 255 →
      (∃ d, d ≠ c ∧ (s.charger d).cfg.station ≠ none ∧ (s.charger d).cfg.lane.val = byteOf r.payload 1
        ∧ (s.charger d).cfg.position = byteOf r.payload 2) →
      exec .putCharger s = .next (s.putRefused r rest .conflict))

/-- PUT to a BAY row (R63): the static part is stored, and an eligible FREE bay makes a choice (R66); FORMAT for a kind or a
station out of range, BUSY during a STORE, CONFLICT for a new kind of a bay in use. -/
def Obligations.PutBayStoresTheRow : Prop :=
  (∀ (s : State) r rest (b : BayNo) kind (unit display : Option Addr) tail,
    s.TakesPut r rest .bay b.val → s.ss.storing = false → tail.length = 0 ∨ tail.length = 14 →
    r.payload = codeByte queueKinds kind ++ stationBytes unit ++ stationBytes display ++ tail →
    inUse (s.bay b).state = false ∨ (s.bay b).cfg.kind = kind →
    ∃ t, exec .putBay s = .next t
      ∧ (t.bay b).cfg = ⟨kind, unit, display⟩
      ∧ t.tau = { s.tau with row := s.tau.row + 1 } ∧ t.dlp = (s.putAnswered r rest .ok).dlp
      ∧ ((s.bay b).state ≠ .free ∨ s.queue kind = [] ∨ s.heard unit = false →
          t = (s.putAnswered r rest .ok).setBay b { s.bay b with cfg := ⟨kind, unit, display⟩ })
      ∧ ((s.bay b).state = .free → s.queue kind ≠ [] → s.heard unit = true →
          (t.bay b).state = .calling ∧ ∃ k ∈ s.queue kind, (t.bay b).ticket = some { k with state := .calledToBay }))
  ∧ ∀ (s : State) r rest (b : BayNo) bad, s.TakesPut r rest .bay b.val → r.payload.length = 3 ∨ r.payload.length = 17 →
    bad = (1 < byteOf r.payload 0 ∨ noStation (byteOf r.payload 1) ∨ noStation (byteOf r.payload 2)) →
    (bad → exec .putBay s = .next (s.putRefused r rest .format))
    ∧ (¬ bad → s.ss.storing = true → exec .putBay s = .next (s.putRefused r rest .busy))
    ∧ (¬ bad → s.ss.storing = false →
      (s.bay b).state = .calling ∨ (s.bay b).state = .busy ∨ (s.bay b).state = .faultWait →
      byteOf r.payload 0 ≠ [QueueKind.fuel, .wash].idxOf (s.bay b).cfg.kind →
      exec .putBay s = .next (s.putRefused r rest .conflict))

/-- PUT to a STATION row (R148): the class and the index are clamped, and a new kind or index, or a polled mark cleared, makes
the miss count 0; if the entry was SILENT it is heard again, which is reported as a recovery (R154): a FREE bay that it is the
unit of chooses a ticket (R65). FORMAT for a code out of its set, BUSY during a STORE. -/
def Obligations.PutStationStoresTheRow : Prop :=
  (∀ (s : State) r rest (a : Addr) kind index level action marks tail cfg outcome resets,
    s.TakesPut r rest .station a.val → s.ss.storing = false → s.AtRest →
    index < 2 ^ 8 → level < 2 ^ 8 → (kind = .display → index < 3) → tail.length = 0 ∨ tail.length = 2 →
    r.payload = codeByte stationKinds kind ++ toBytes 1 index ++ toBytes 1 level ++ codeByte actions action ++ [marks] ++ tail →
    cfg = StationCfg.mk kind (match kind with
        | .laneReader => min 31 index
        | .bayUnit => min 5 index
        | .charger => min 63 index
        | .meter => min 3 index
        | .display => index
        | .gateReader | .server | .maint | .unused => 0)
      (min 3 level) action (marks.getLsbD 0) (marks.getLsbD 1) →
    outcome = (if 3 < level ∨ kind = .laneReader ∧ 31 < index ∨ kind = .bayUnit ∧ 5 < index ∨ kind = .charger ∧ 63 < index
        ∨ kind = .meter ∧ 3 < index then Outcome.clamped else .ok) →
    resets = (cfg.kind ≠ (s.station a).cfg.kind ∨ cfg.index ≠ (s.station a).cfg.index
        ∨ (s.station a).cfg.polled = true ∧ cfg.polled = false) →
    (¬ resets → exec .putStation s = .next
      ((s.putAnswered r rest outcome).setStation a { s.station a with cfg := cfg }))
    ∧ (resets → (s.station a).silent = false →
      exec .putStation s = .next ((s.putAnswered r rest outcome).setStation a { cfg := cfg, misses := 0, silent := false }))
    ∧ (resets → (s.station a).silent = true →
      ∃ t, exec .putStation s = .next t
        ∧ t.station a = { cfg := cfg, misses := 0, silent := false } ∧ (∀ b, b ≠ a → t.station b = s.station b)
        ∧ t.tau = { s.tau with row := s.tau.row + 1 } ∧ t.dlp.answer = (s.putAnswered r rest outcome).dlp.answer
        ∧ t.ca.feeders = s.ca.feeders ∧ t.ss = s.ss ∧ t.ycs = s.ycs
        ∧ (s.waitList = [] →
          (∀ b, (s.bay b).cfg.unit = some a → (s.bay b).state ≠ .free ∨ s.queue (s.bay b).cfg.kind = []) →
          t = (s.putAnswered r rest outcome).setStation a { cfg := cfg, misses := 0, silent := false })
        ∧ ∀ b, (s.bay b).cfg.unit = some a → (∀ d, d ≠ b → (s.bay d).cfg.unit ≠ some a) → (s.bay b).state = .free →
            s.queue (s.bay b).cfg.kind ≠ [] →
            (t.bay b).state = .calling
            ∧ ∃ k ∈ s.queue (s.bay b).cfg.kind, (t.bay b).ticket = some { k with state := .calledToBay }))
  ∧ ∀ (s : State) r rest (a : Addr) bad, s.TakesPut r rest .station a.val → r.payload.length = 5 ∨ r.payload.length = 7 →
    bad = (8 < byteOf r.payload 0 ∨ 2 < byteOf r.payload 3 ∨ byteOf r.payload 0 = 5 ∧ 2 < byteOf r.payload 1) →
    (bad → exec .putStation s = .next (s.putRefused r rest .format))
    ∧ (¬ bad → s.ss.storing = true → exec .putStation s = .next (s.putRefused r rest .busy))

/-- PUT to a LANE row (R37): the capacity is clamped to 8 and sets the set state when it becomes 0 or leaves 0; with
nobody in the wait list nothing else changes. FORMAT for a code or a station out of range, BUSY during a STORE, CONFLICT for a
new kind, role or capacity of a lane whose list is not empty. -/
def Obligations.PutLaneStoresTheRow : Prop :=
  (∀ (s : State) r rest (l : LaneNo) kind role capacity (reader : Addr) (mouth : Option Addr) tail cfg state,
    s.TakesPut r rest .lane l.val → s.ss.storing = false → s.AtRest → capacity < 2 ^ 8 →
    tail.length = 0 ∨ (∃ c, c ≤ 8 ∧ tail.length = 4 + 4 * c) →
    r.payload = codeByte laneKinds kind ++ codeByte laneRoles role ++ toBytes 1 capacity ++ toBytes 1 reader.val
      ++ stationBytes mouth ++ tail →
    cfg = LaneCfg.mk kind role (min 8 capacity) reader mouth →
    (s.lane l).entries = [] ∨ (s.lane l).cfg.kind = kind ∧ (s.lane l).cfg.role = role
        ∧ (s.lane l).cfg.capacity = min 8 capacity →
    state = (if capacity = 0 ∧ (s.lane l).cfg.capacity ≠ 0 then SetState.closed
      else if capacity ≠ 0 ∧ (s.lane l).cfg.capacity = 0 then .opened else (s.lane l).setState) →
    ∃ t, exec .putLane s = .next t
      ∧ (t.lane l).cfg = cfg ∧ (t.lane l).setState = state ∧ t.tau = { s.tau with row := s.tau.row + 1 }
      ∧ (s.waitList = [] →
          t = (s.putAnswered r rest (if 8 < capacity then .clamped else .ok)).setLane l
            { s.lane l with cfg := cfg, setState := state }))
  ∧ ∀ (s : State) r rest (l : LaneNo) bad, s.TakesPut r rest .lane l.val →
    r.payload.length = 5 ∨ (∃ c, c ≤ 8 ∧ r.payload.length = 9 + 4 * c) →
    bad = (1 < byteOf r.payload 0 ∨ 1 < byteOf r.payload 1 ∨ 127 < byteOf r.payload 3 ∨ noStation (byteOf r.payload 4)) →
    (bad → exec .putLane s = .next (s.putRefused r rest .format))
    ∧ (¬ bad → s.ss.storing = true → exec .putLane s = .next (s.putRefused r rest .busy))
    ∧ (¬ bad → s.ss.storing = false → (s.lane l).entries ≠ [] →
      byteOf r.payload 0 ≠ [LaneKind.through, .deadEnd].idxOf (s.lane l).cfg.kind
        ∨ byteOf r.payload 1 ≠ [LaneRole.park, .shunt].idxOf (s.lane l).cfg.role
        ∨ min 8 (byteOf r.payload 2) ≠ (s.lane l).cfg.capacity →
      exec .putLane s = .next (s.putRefused r rest .conflict))

/-- PUT to a FLEET row (R3): tag 0 empties the slot, a tag in an empty slot begins OUT, and a bus keeps its dynamic
part; the numbers are clamped, the standby target to the battery capacity too. FORMAT for a code out of its set; CONFLICT for a
tag of another slot, for a bus that is not OUT and would change its tag, propulsion or length, and for a new tag of a bus that
the plan names. That tag 0 answers OK is the model's choice (log 25). -/
def Obligations.PutFleetStoresTheRow : Prop :=
  (∀ (s : State) r rest (v : Slot) tag propulsion length battery standby programme counter tail taken moved planned new,
    s.TakesPut r rest .fleet v.val → tag < 2 ^ 24 → battery < 2 ^ 16 → standby < 2 ^ 16 → programme < 2 ^ 8 →
    counter < 2 ^ 8 → tail.length = 0 ∨ tail.length = 11 →
    r.payload = toBytes 3 tag ++ codeByte propulsions propulsion ++ codeByte lengthClasses length ++ toBytes 2 battery
      ++ toBytes 2 standby ++ toBytes 1 programme ++ toBytes 1 counter ++ tail →
    taken = (tag ≠ 0 ∧ ∃ w, w ≠ v ∧ (s.veh w).tag = tag) →
    moved = ((s.veh v).tag ≠ 0 ∧ (s.veh v).state ≠ .out
      ∧ ((s.veh v).tag ≠ tag ∨ (s.veh v).propulsion ≠ propulsion ∨ (s.veh v).length ≠ length)) →
    planned = ((s.veh v).tag ≠ 0 ∧ (s.veh v).tag ≠ tag
      ∧ ∃ x ∈ s.ds.active ++ s.ds.standby, (x.state = .bound ∨ x.state = .called) ∧ x.bound = some v) →
    new = (if tag = 0 then ({} : Vehicle) else
      { (if (s.veh v).tag = 0 then ({} : Vehicle) else s.veh v) with
        tag := tag, propulsion := propulsion, length := length
        battery := if propulsion = .electric then some (min 9999 battery) else none
        standby := if propulsion = .electric then some (min (min 9999 battery) standby) else none
        washProgramme := min 7 programme, washCounter := min 7 counter }) →
    (taken ∨ moved ∨ planned → exec .putFleet s = .next (s.putRefused r rest .conflict))
    ∧ (¬ taken → ¬ moved → ¬ planned →
      exec .putFleet s = .next
        ((s.putAnswered r rest (if tag ≠ 0 ∧ (propulsion = .electric ∧ (9999 < battery ∨ min 9999 battery < standby)
          ∨ 7 < programme ∨ 7 < counter) then .clamped else .ok)).setVeh v new)))
  ∧ ∀ (s : State) r rest (v : Slot), s.TakesPut r rest .fleet v.val → r.payload.length = 11 ∨ r.payload.length = 22 →
    1 < byteOf r.payload 3 ∨ 1 < byteOf r.payload 4 → exec .putFleet s = .next (s.putRefused r rest .format)

/-- The row a PUT to a plan bank writes (R110, R113, R114): its call minute and origin lane absent, its marks clear. -/
def plannedRow (block key : Nat) (kindReq : KindReq) (lengthReq : LengthReq) (energy : Nat) (bound : Option Slot) : PlanRow :=
  { block := block, key := key, kindReq := kindReq, lengthReq := lengthReq, energy := energy, bound := bound
    state := if bound.isSome then .bound else .planned }

/-- The payload of a PUT to a plan bank: the writable part, alone or with a read-only part of any content (R192). -/
def planPayload (block key : Nat) (kindReq : KindReq) (lengthReq : LengthReq) (energy : Nat) (bound : Option Slot)
    (tail : List Byte) : List Byte :=
  toBytes 2 block ++ toBytes 2 key ++ codeByte kindReqs kindReq ++ codeByte lengthReqs lengthReq ++ toBytes 2 energy
    ++ slotBytes bound ++ tail

/-- PUT to a STANDBY row (R113): a row in use is rewritten, row n is appended, numbers are clamped; BUSY while a swap is
PENDING, RANGE above n. PUT to an ACTIVE row (R114): the row is written, its old bus unbound and its new one bound, in
one change, with the clamps of R113; RANGE above n, CONFLICT for a row called or ended, for a key out of order, and for a bus
bound elsewhere or held. FORMAT for a code out of its set and for a slot that is empty or no slot. -/
def Obligations.PutPlanRows : Prop :=
  (∀ (s : State) r rest i block key kindReq lengthReq energy bound tail,
    s.TakesPut r rest .standby i → block < 2 ^ 16 → key < 2 ^ 16 → energy < 2 ^ 16 → tail.length = 0 ∨ tail.length = 5 →
    r.payload = planPayload block key kindReq lengthReq energy bound tail → (∀ v, bound = some v → (s.veh v).tag ≠ 0) →
    (s.ds.swap = .pending →
      exec .putStandby s = .next (s.answered r rest .busy (taggedRow .standby i (bankRow s.ds.standby i))))
    ∧ (s.ds.swap ≠ .pending → s.ds.standby.length < i →
      exec .putStandby s = .next (s.answered r rest .range (taggedRow .standby i (bankRow s.ds.standby i))))
    ∧ ∀ row, row = plannedRow (max 1 block) (min 1439 key) kindReq lengthReq (min 9999 energy) bound →
      s.ds.swap ≠ .pending → i ≤ s.ds.standby.length →
      exec .putStandby s = .next
        { s.putAnswered r rest (if 1 ≤ block ∧ key ≤ 1439 ∧ energy ≤ 9999 then .ok else .clamped) with
          ds := { s.ds with
            standby := if i < s.ds.standby.length then s.ds.standby.set i row else s.ds.standby ++ [row] } })
  ∧ (∀ (s : State) r rest i block key kindReq lengthReq energy bound tail row fixed misplaced elsewhere held,
    s.TakesPut r rest .active i → block < 2 ^ 16 → key < 2 ^ 16 → energy < 2 ^ 16 →
    tail.length = 0 ∨ tail.length = 5 → r.payload = planPayload block key kindReq lengthReq energy bound tail →
    (∀ v, bound = some v → (s.veh v).tag ≠ 0) →
    fixed = (∃ x, s.row i = some x
      ∧ (x.state = .called ∨ x.state = .gone ∨ x.state = .missed ∨ x.state = .cancelled)) →
    misplaced = (∃ j x, s.row j = some x
      ∧ (j + 1 = i ∧ min 1439 key < x.key ∨ j = i + 1 ∧ x.key < min 1439 key)) →
    elsewhere = (∃ v j x, bound = some v ∧ s.row j = some x ∧ j ≠ i ∧ (x.state = .bound ∨ x.state = .called)
      ∧ x.bound = some v) →
    held = (∃ v, bound = some v ∧ (s.veh v).held = true) →
    row = plannedRow (max 1 block) (min 1439 key) kindReq lengthReq (min 9999 energy) bound →
    (s.ds.active.length < i → exec .putActive s = .next (s.putRefused r rest .range))
    ∧ (i ≤ s.ds.active.length → fixed ∨ misplaced ∨ elsewhere ∨ held →
      exec .putActive s = .next (s.putRefused r rest .conflict))
    ∧ ∀ outcome, outcome = (if 1 ≤ block ∧ key ≤ 1439 ∧ energy ≤ 9999 then Outcome.ok else .clamped) →
      i ≤ s.ds.active.length → ¬ fixed → ¬ misplaced → ¬ elsewhere → ¬ held →
      ∃ t, exec .putActive s = .next t
        ∧ t.ds = { s.ds with active := if i < s.ds.active.length then s.ds.active.set i row else s.ds.active ++ [row] }
        ∧ (∀ v, t.veh v = { s.veh v with boundRow := (t.veh v).boundRow } ∧ (t.veh v).boundRow =
            if bound = some v then some i
            else if (s.row i).any (fun x => x.state = .bound && x.bound = some v) then none
            else (s.veh v).boundRow)
        ∧ t.tau = { s.tau with row := i + 1 } ∧ t.dlp = (s.putAnswered r rest outcome).dlp
        ∧ t.er = (s.putAnswered r rest outcome).er
        ∧ t.lanes = s.lanes ∧ t.waitList = s.waitList ∧ t.stc = s.stc ∧ t.ca = s.ca ∧ t.blc = s.blc ∧ t.ycs = s.ycs
        ∧ t.ss = s.ss)
  ∧ ∀ (s : State) r rest i n, r.payload.length = 10 ∨ r.payload.length = 15 →
    n = 256 * byteOf r.payload 8 + byteOf r.payload 9 →
    2 < byteOf r.payload 4 ∨ 2 < byteOf r.payload 5 ∨ 256 ≤ n ∧ n ≠ 65535 ∨ (∃ v : Slot, v.val = n ∧ (s.veh v).tag = 0) →
    (s.TakesPut r rest .standby i → exec .putStandby s = .next (s.putRefused r rest .format))
    ∧ (s.TakesPut r rest .active i → exec .putActive s = .next (s.putRefused r rest .format))

/-! ### Orders -/

/-- SWAP_NOW (R117, R118, R119): CONFLICT for an invalid STANDBY bank, PENDING in the register while a row is CALLED,
and otherwise the exchange, which rebuilds every binding. SWAP_AT_ROLLOVER and CANCEL_SWAP (R117, R120). -/
def Obligations.SwapOrders : Prop :=
  (∀ (s : State) r rest, s.TakesOrder r rest 0 [] → s.ds.swap = .none →
    (validBank s.ds.standby = false → exec .swapNow s = .next (s.answered r rest .conflict []))
    ∧ (validBank s.ds.standby = true → s.anyCalled = true →
      exec .swapNow s = .next { s.answered r rest .ok [] with ds := { s.ds with swap := .pending } })
    ∧ (validBank s.ds.standby = true → s.anyCalled = false →
      ∃ t, exec .swapNow s = .next t
        ∧ t.ds.standby = [] ∧ t.ds.swap = .none ∧ t.ds.shifts = s.ds.shifts
        ∧ t.ds.active = s.ds.standby.map (fun x =>
            if x.state = .bound ∧ x.bound.any (fun v => (s.veh v).held) = true then
              { x with state := .planned, bound := none } else x)
        ∧ (∀ v i, (t.veh v).boundRow = some i ↔ ∃ x, t.row i = some x ∧ x.state = .bound ∧ x.bound = some v)
        ∧ (∀ v, ∃ m, t.veh v = { s.veh v with boundRow := (t.veh v).boundRow, misorder := m })
        ∧ (∀ l i e, ((t.lane l).entries)[i]? = some e → ((t.lane l).entries.map Entry.slot).Nodup →
            (∀ k, k ≠ l → t.entry k e.slot = none) →
            (t.veh e.slot).misorder = !inOrder (t.laneKeys l) i)
        ∧ t.lanes = s.lanes ∧ t.waitList = s.waitList ∧ t.stc = s.stc ∧ t.ca = s.ca ∧ t.blc = s.blc
        ∧ t.tau = s.tau ∧ t.ycs = s.ycs ∧ t.ss = s.ss ∧ t.dlp = (s.answered r rest .ok []).dlp
        ∧ t.er = (s.answered r rest .ok []).er))
  ∧ (∀ (s : State) r rest,
    (s.TakesOrder r rest 1 [] → s.ds.swap = .none → validBank s.ds.standby = true →
      exec .swapAtRollover s = .next { s.answered r rest .ok [] with ds := { s.ds with swap := .armed } })
    ∧ (s.TakesOrder r rest 1 [] → s.ds.swap = .none → validBank s.ds.standby = false →
      exec .swapAtRollover s = .next (s.answered r rest .conflict []))
    ∧ (s.TakesOrder r rest 2 [] →
      exec .cancelSwap s = .next { s.answered r rest .ok [] with ds := { s.ds with swap := .none } }))

/-- CANCEL_ROW, by its class and by the state of the row (R123). -/
def Obligations.CancelRowByState : Prop :=
  (∀ (s : State) r rest n, n < 2 ^ 16 → s.Takes r rest → r.kind = 53 → r.payload = 3 :: toBytes 2 n →
    0 < s.requesterClass r.src → exec .cancelRow s = .next (s.answered r rest .class []))
  ∧ ∀ (s : State) r rest n, s.TakesOrder r rest 3 (toBytes 2 n) → n < 2 ^ 16 →
    (s.row n = none → exec .cancelRow s = .next (s.answered r rest .range []))
    ∧ ∀ x, s.row n = some x →
      (x.state = .called ∨ x.state = .gone ∨ x.state = .missed →
        exec .cancelRow s = .next (s.answered r rest .conflict []))
      ∧ (x.state = .cancelled → exec .cancelRow s = .next (s.answered r rest .ok []))
      ∧ (x.state = .planned ∨ x.state = .short →
        exec .cancelRow s = .next
          { s.answered r rest .ok [] with
            ds := { s.ds with active := s.ds.active.set n { x with state := .cancelled, bound := none } } })
      ∧ ∀ v, x.state = .bound → x.bound = some v →
        exec .cancelRow s = .next
          ({ s.answered r rest .ok [] with
            ds := { s.ds with active := s.ds.active.set n { x with state := .cancelled, bound := none } } }.setVeh v
              { s.veh v with boundRow := none })

/-- HOLD and UNHOLD of a bus that is not on call (R16, R124): the mark, and a BOUND row back to PLANNED. HOLD of a bus
on call undoes the call (R144): the row is PLANNED and unbound, and keeps what R144 keeps. -/
def Obligations.HoldAndUnhold : Prop :=
  (∀ (s : State) r rest (v : Slot),
    (s.TakesOrder r rest 4 (toBytes 2 v.val) →
      ((s.veh v).tag = 0 → exec .hold s = .next (s.answered r rest .conflict []))
      ∧ ((s.veh v).tag ≠ 0 → (s.veh v).held = true → s.AtRest → exec .hold s = .next (s.answered r rest .ok []))
      ∧ ((s.veh v).tag ≠ 0 → (s.veh v).held = false → (s.veh v).state ≠ .called → (s.veh v).state ≠ .departing → s.AtRest →
        ((s.veh v).boundRow = none →
          exec .hold s = .next ((s.answered r rest .ok []).setVeh v { s.veh v with held := true }))
        ∧ ∀ i y, (s.veh v).boundRow = some i → s.row i = some y → y.state = .bound →
          exec .hold s = .next
            (((s.answered r rest .ok []).modRow i fun x =>
                { x with state := .planned, bound := none, blocked := false, carried := false }).setVeh v
              { s.veh v with held := true, boundRow := none })))
    ∧ (s.TakesOrder r rest 5 (toBytes 2 v.val) →
      ((s.veh v).tag = 0 → exec .unhold s = .next (s.answered r rest .conflict []))
      ∧ ((s.veh v).tag ≠ 0 →
        exec .unhold s = .next ((s.answered r rest .ok []).setVeh v { s.veh v with held := false })))
    ∧ ∀ n, 256 ≤ n → n < 2 ^ 16 →
      (s.TakesOrder r rest 4 (toBytes 2 n) → exec .hold s = .next (s.answered r rest .range []))
      ∧ (s.TakesOrder r rest 5 (toBytes 2 n) → exec .unhold s = .next (s.answered r rest .range [])))
  ∧ (∀ (s : State) r rest (v : Slot) i x, s.TakesOrder r rest 4 (toBytes 2 v.val) → (s.veh v).tag ≠ 0 →
    (s.veh v).held = false → (s.veh v).state = .called ∨ (s.veh v).state = .departing → (s.veh v).boundRow = some i →
    s.row i = some x → x.state = .called → s.AtRest → s.ds.swap ≠ .pending →
    ∃ t, exec .hold s = .next t
      ∧ t.row i = some { x with state := .planned, bound := none, blocked := false, carried := false }
      ∧ (t.veh v).held = true ∧ (t.veh v).boundRow = none
      ∧ ((s.veh v).state = .departing → s.inSomeLane v = false →
          (t.veh v).state = .moving ∧ (t.veh v).location = .enRoute none)
      ∧ ((s.veh v).state = .called → (t.veh v).state = .parked ∨ (t.veh v).shift = true)
      ∧ t.dlp.answer = (s.answered r rest .ok []).dlp.answer ∧ t.waitList = s.waitList ∧ t.stc = s.stc)

/-- YARD_SET to a lane (R17): its checks in order, and the bus PARKED in the lane, its entry at the tail, behind every entry
that stood there; only reservations of the wait-list retry can come after it, at the join end. YARD_SET OUT (R18): the bus is
OUT and in no lane, queue, bay or wait list. A slot operand of 256 or more is refused with RANGE by both (R190). -/
def Obligations.YardSet : Prop :=
  (∀ (s : State) r rest (v : Slot) n, s.TakesOrder r rest 6 (toBytes 2 v.val ++ toBytes 1 n) → n < 255 →
    (32 ≤ n → exec .yardSet s = .next (s.answered r rest .range []))
    ∧ ∀ l : LaneNo, l.val = n →
      ((s.veh v).tag = 0 ∨ (s.veh v).state = .called ∨ (s.veh v).state = .departing ∨ s.entry l v ≠ none
          ∨ s.room l < s.units v → exec .yardSet s = .next (s.answered r rest .conflict []))
      ∧ ((s.veh v).tag ≠ 0 → (s.veh v).state ≠ .called → (s.veh v).state ≠ .departing → s.entry l v = none →
          s.units v ≤ s.room l → s.AtRest → s.NoneBlocked →
        ∃ t, exec .yardSet s = .next t
          ∧ (t.veh v).state = .parked ∧ (t.veh v).location = .lane l .present none ∧ (t.veh v).shift = false
          ∧ (t.veh v).arrival = (if (s.veh v).state = .out then s.ycs.minute else (s.veh v).arrival)
          ∧ (t.veh v).boundRow = (s.veh v).boundRow ∧ (t.veh v).held = (s.veh v).held
          ∧ (t.veh v).washCounter = (s.veh v).washCounter ∧ (t.veh v).lastSoc = (s.veh v).lastSoc
          ∧ t.presentIn l v = true ∧ (∀ m, m ≠ l → t.entry m v = none) ∧ t.hasTicket v = false
          ∧ (∀ w ∈ t.waitList, w.slot ≠ v)
          ∧ (match (s.lane l).cfg.kind with
            | .through => (s.lane l).entries ++ [⟨v, .present, none⟩] <+: (t.lane l).entries
            | .deadEnd => (s.lane l).entries ++ [⟨v, .present, none⟩] <:+ (t.lane l).entries)
          ∧ (s.waitList = [] → (t.lane l).entries = (s.lane l).entries ++ [⟨v, .present, none⟩])
          ∧ t.dlp.answer = (s.answered r rest .ok []).dlp.answer))
  ∧ (∀ (s : State) r rest w n, 256 ≤ w → w < 2 ^ 16 →
    (n < 255 → s.TakesOrder r rest 6 (toBytes 2 w ++ toBytes 1 n) → exec .yardSet s = .next (s.answered r rest .range []))
    ∧ (s.TakesOrder r rest 6 (toBytes 2 w ++ [255]) → exec .yardSetOut s = .next (s.answered r rest .range [])))
  ∧ (∀ (s : State) r rest (v : Slot), s.TakesOrder r rest 6 (toBytes 2 v.val ++ [255]) →
    ((s.veh v).tag = 0 ∨ (s.veh v).state = .called ∨ (s.veh v).state = .departing →
      exec .yardSetOut s = .next (s.answered r rest .conflict []))
    ∧ ((s.veh v).tag ≠ 0 → (s.veh v).state = .out → s.AtRest → exec .yardSetOut s = .next (s.answered r rest .ok []))
    ∧ ((s.veh v).tag ≠ 0 → (s.veh v).state ≠ .called → (s.veh v).state ≠ .departing → (s.veh v).state ≠ .out → s.AtRest →
      ∃ t, exec .yardSetOut s = .next t
        ∧ (t.veh v).state = .out ∧ (t.veh v).location = .none ∧ (t.veh v).held = (s.veh v).held
        ∧ (t.veh v).tag = (s.veh v).tag ∧ (t.veh v).lastSoc = (s.veh v).lastSoc
        ∧ t.inSomeLane v = false ∧ t.hasTicket v = false ∧ (∀ w ∈ t.waitList, w.slot ≠ v)
        ∧ (∀ i x, (s.veh v).boundRow = some i → s.row i = some x → x.state = .bound → s.ds.swap ≠ .pending →
            (t.veh v).boundRow = none
            ∧ t.row i = some { x with state := .planned, bound := none, blocked := false, carried := false })
        ∧ (s.flag .unscheduledExit = false → t.flag .unscheduledExit = false)
        ∧ t.dlp.answer = (s.answered r rest .ok []).dlp.answer))

/-- OPEN_LANE and CLOSE_LANE set the set state of a lane (R36); with nobody in the wait list nothing else changes. -/
def Obligations.LaneOrders : Prop :=
  (∀ (s : State) r rest n, n < 2 ^ 8 → s.Takes r rest → r.kind = 53 → 1 < s.requesterClass r.src →
    (r.payload = 7 :: toBytes 1 n → exec .openLane s = .next (s.answered r rest .class []))
    ∧ (r.payload = 8 :: toBytes 1 n → exec .closeLane s = .next (s.answered r rest .class [])))
  ∧ ∀ (s : State) r rest n, n < 2 ^ 8 → s.Takes r rest → r.kind = 53 → s.requesterClass r.src ≤ 1 →
    (r.payload = 7 :: toBytes 1 n →
      (32 ≤ n → exec .openLane s = .next (s.answered r rest .range []))
      ∧ ∀ l : LaneNo, l.val = n →
        ((s.lane l).cfg.capacity = 0 → exec .openLane s = .next (s.answered r rest .conflict []))
        ∧ ((s.lane l).cfg.capacity ≠ 0 → s.AtRest →
          ∃ t, exec .openLane s = .next t ∧ (t.lane l).setState = .opened ∧ (t.lane l).cfg = (s.lane l).cfg
            ∧ t.dlp.answer = (s.answered r rest .ok []).dlp.answer
            ∧ (s.waitList = [] →
                t = (s.answered r rest .ok []).setLane l { s.lane l with setState := .opened })))
    ∧ (r.payload = 8 :: toBytes 1 n →
      (32 ≤ n → exec .closeLane s = .next (s.answered r rest .range []))
      ∧ ∀ l : LaneNo, l.val = n →
        exec .closeLane s = .next ((s.answered r rest .ok []).setLane l { s.lane l with setState := .closed }))

/-- The table of R79: OPEN_BAY, CLOSE_BAY and CLEAR_BAY by the state of the bay. -/
def Obligations.BayOrders : Prop :=
  ∀ (s : State) r rest n, n < 2 ^ 8 → s.Takes r rest → r.kind = 53 → s.requesterClass r.src ≤ 1 →
    (6 ≤ n →
      (r.payload = 9 :: toBytes 1 n → exec .openBay s = .next (s.answered r rest .range []))
      ∧ (r.payload = 10 :: toBytes 1 n → exec .closeBay s = .next (s.answered r rest .range []))
      ∧ (r.payload = 11 :: toBytes 1 n → exec .clearBay s = .next (s.answered r rest .range [])))
    ∧ ∀ b : BayNo, b.val = n →
      (r.payload = 9 :: toBytes 1 n →
        ((s.bay b).state = .out → exec .openBay s = .next (s.answered r rest .conflict []))
        ∧ ((s.bay b).state ≠ .out → (s.bay b).state ≠ .closed → exec .openBay s = .next (s.answered r rest .ok []))
        ∧ ((s.bay b).state = .closed → s.queue (s.bay b).cfg.kind = [] ∨ s.heard (s.bay b).cfg.unit = false →
          exec .openBay s = .next ((s.answered r rest .ok []).setBay b ⟨(s.bay b).cfg, .free, none, (s.bay b).callMinute, 0, false, none, none, none⟩))
        ∧ ((s.bay b).state = .closed → s.queue (s.bay b).cfg.kind ≠ [] → s.heard (s.bay b).cfg.unit = true →
          ∃ t, exec .openBay s = .next t ∧ (t.bay b).state = .calling ∧ (t.bay b).callMinute = s.ycs.minute
            ∧ ∃ k ∈ s.queue (s.bay b).cfg.kind, (t.bay b).ticket = some { k with state := .calledToBay }))
      ∧ (r.payload = 10 :: toBytes 1 n →
        ((s.bay b).state = .busy ∨ (s.bay b).state = .faultWait → exec .closeBay s = .next (s.answered r rest .busy []))
        ∧ ((s.bay b).state = .closed → exec .closeBay s = .next (s.answered r rest .ok []))
        ∧ ((s.bay b).state = .free ∨ (s.bay b).state = .out →
          exec .closeBay s = .next ((s.answered r rest .ok []).setBay b ⟨(s.bay b).cfg, .closed, none, (s.bay b).callMinute, 0, false, none, none, none⟩))
        ∧ ∀ k, (s.bay b).state = .calling → (s.bay b).ticket = some k → k.kind = (s.bay b).cfg.kind →
          s.QueuesOfTheirKind → (∀ q ∈ s.queue k.kind, q.slot ≠ k.slot) →
          ∃ t, exec .closeBay s = .next t
            ∧ t.bay b = ⟨(s.bay b).cfg, .closed, none, (s.bay b).callMinute, 0, false, none, none, none⟩
            ∧ (t.veh k.slot).state = .service
            ∧ ({ k with state := .waiting } ∈ t.queue k.kind
              ∨ ∃ d, (t.bay d).ticket = some { k with state := .calledToBay }))
      ∧ (r.payload = 11 :: toBytes 1 n →
        ((s.bay b).state = .free → exec .clearBay s = .next (s.answered r rest .ok []))
        ∧ ((s.bay b).state = .closed → exec .clearBay s = .next (s.answered r rest .conflict []))
        ∧ ((s.bay b).state = .calling ∨ (s.bay b).state = .busy ∨ (s.bay b).state = .faultWait →
          exec .clearBay s = .next (s.answered r rest .busy []))
        ∧ ((s.bay b).state = .out → s.queue (s.bay b).cfg.kind = [] ∨ s.heard (s.bay b).cfg.unit = false →
          exec .clearBay s = .next ((s.answered r rest .ok []).setBay b ⟨(s.bay b).cfg, .free, none, (s.bay b).callMinute, 0, false, none, none, none⟩))
        ∧ ((s.bay b).state = .out → s.queue (s.bay b).cfg.kind ≠ [] → s.heard (s.bay b).cfg.unit = true →
          ∃ t, exec .clearBay s = .next t ∧ (t.bay b).state = .calling
            ∧ ∃ k ∈ s.queue (s.bay b).cfg.kind, (t.bay b).ticket = some { k with state := .calledToBay }))

/-- CLEAR_FEEDER: accumulator 0 and state NORMAL, in every state; RANGE above 3; class 0 (R105). -/
def Obligations.ClearFeederEmptiesTheAccumulator : Prop :=
  ∀ (s : State) r rest n, n < 2 ^ 8 → s.Takes r rest → r.kind = 53 → r.payload = 12 :: toBytes 1 n →
    (0 < s.requesterClass r.src → exec .clearFeeder s = .next (s.answered r rest .class []))
    ∧ (s.requesterClass r.src = 0 → 4 ≤ n → exec .clearFeeder s = .next (s.answered r rest .range []))
    ∧ ∀ f : FeederNo, f.val = n → s.requesterClass r.src = 0 →
      exec .clearFeeder s = .next
        ((s.answered r rest .ok []).setFeeder f { s.feeder f with state := .normal, accumulator := 0 })

/-- CLOCK_SET writes the minute, clamped to 1439, and sets the mark, and then makes a call scan (R181, R127); with an empty
ACTIVE bank its scan finds nothing. A scan at which one row's window is open, its bus PARKED at the mouth of its lane, and
which finds no other row or lane to act on, calls that bus (R126, R130, R132). -/
def Obligations.ClockSetWritesTheMinute : Prop :=
  ∀ (s : State) r rest n, s.TakesOrder r rest 13 (toBytes 2 n) → n < 2 ^ 16 →
    ∃ t, exec .clockSet s = .next t
      ∧ t.ycs = { s.ycs with minute := min 1439 n, clockSet := true }
      ∧ t.dlp.answer = (s.answered r rest (if n ≤ 1439 then .ok else .clamped) []).dlp.answer
      ∧ t.waitList = s.waitList ∧ t.stc = s.stc ∧ t.ca.feeders = s.ca.feeders ∧ t.tau = s.tau ∧ t.ss = s.ss
      ∧ (∀ v, (t.veh v).arrival = (s.veh v).arrival)
      ∧ (s.ds.active = [] → s.AtRest → (∀ l b, s.shiftRecord l ≠ .noRoom b) →
          t = { s.answered r rest (if n ≤ 1439 then .ok else .clamped) [] with
            ycs := { s.ycs with minute := min 1439 n, clockSet := true } })
      ∧ t.ds = ({ s with ycs := { s.ycs with minute := min 1439 n, clockSet := true } }.callScan).ds
      ∧ t.fleet = ({ s with ycs := { s.ycs with minute := min 1439 n, clockSet := true } }.callScan).fleet
      ∧ ∀ i x v l, s.AtRest → s.ds.swap ≠ .pending → s.row i = some x → x.state = .bound → x.bound = some v →
          (s.veh v).state = .parked → s.presentLane v = some l → s.entryIndex l v = 0 →
          x.key ≤ min 1439 n + s.ss.params.callLead → min 1439 n ≤ x.key + s.ss.params.departureGrace →
          (∀ j y, s.row j = some y → j ≠ i → y.state = .gone ∨ y.state = .missed ∨ y.state = .cancelled) →
          (∀ m b, s.shiftRecord m ≠ .noRoom b) →
          t.row i = some { x with
            state := .called, callMinute := some (min 1439 n), originLane := some l, blocked := false, carried := false
            lowEnergy := (s.veh v).propulsion = .electric && x.energy > 0 && storedEnergy (s.veh v) < x.energy }
          ∧ t.veh v = { s.veh v with state := .called, boundRow := some i }
          ∧ ∀ c, (t.charger c).connected ≠ some v

/-- STORE, LOAD and RESET start what they order, or are refused as the Settings Store says (R185, R186, R176). The phase
in which an ordered reset waits is the model's (log 22). -/
def Obligations.StoreLoadReset : Prop :=
  ∀ (s : State) r rest,
    (s.TakesOrder r rest 14 [] → s.ss.storing = false →
      (s.ss.loading = true → exec .store s = .next (s.answered r rest .busy []))
      ∧ (s.ss.loading = false →
        exec .store s = .next { s.answered r rest .ok [] with ss := ⟨s.ss.params, none, true, false⟩ }))
    ∧ (s.TakesOrder r rest 15 [] → s.ss.loading = false →
      (s.ss.storing = true → exec .load s = .next (s.answered r rest .busy []))
      ∧ (s.ss.storing = false → (∃ l, (s.lane l).entries ≠ []) ∨ (∃ b, inUse (s.bay b).state = true) →
        exec .load s = .next (s.answered r rest .conflict []))
      ∧ (s.ss.storing = false → (∀ l, (s.lane l).entries = []) → (∀ b, inUse (s.bay b).state = false) →
        exec .load s = .next { s.answered r rest .ok [] with ss := { s.ss with loading := true } }))
    ∧ (s.TakesOrder r rest 16 [] →
      exec .reset s = .next
        { s.answered r rest .ok [] with dlp := { (s.answered r rest .ok []).dlp with reset := .ordered } })

/-! ### Time -/

/-- MINUTE_ADVANCE moves the clock by one minute, 1439 to 0, and nothing else of it; it leaves the requests, the answer,
the table access, the settings and the station table alone (R180). Each block takes it once, in an order that is an operand
(log 12): the engine makes a retry (R53), the controller skips washes and chooses (R66, R69), the departure scheduler rolls
over and scans (R121, R127). A queue keeps the order of its waiting times, a ticket that has waited 1440 minutes going to the
back (R60, log 15). The wash skip sends on every ticket whose bound key is nearer than the margin (R69). The rollover
(R121, R122) and the grace tests (R128, R129) do as their rules say, whatever the order. -/
def Obligations.MinuteAdvanceMovesTheClock : Prop :=
  (∀ (s : State) order, ∃ t, exec (.minuteAdvance order) s = .next t
      ∧ t.ycs = { s.ycs with minute := (s.ycs.minute + 1) % 1440 }
      ∧ t.dlp.requests = s.dlp.requests ∧ t.dlp.answer = s.dlp.answer ∧ t.dlp.forwards = s.dlp.forwards
      ∧ t.tau = s.tau ∧ t.ss = s.ss ∧ t.configuration = s.configuration ∧ t.blc.turn = s.blc.turn
      ∧ (∀ a, t.station a = s.station a) ∧ t.blc.forwardFifo = s.blc.forwardFifo
      ∧ (∀ v, (t.veh v).tag = (s.veh v).tag ∧ (t.veh v).held = (s.veh v).held ∧ (t.veh v).arrival = (s.veh v).arrival))
  ∧ (∀ (s : State) order,
    exec (.minuteAdvance order) s = .next
      (forEach (takers order) (fun x u => u.takeAdvance x) ((s.nextMinute.requeueWrapped .fuel).requeueWrapped .wash))
    ∧ (takers order).Perm AdvanceTaker.all ∧ order.dedup <+: takers order
    ∧ s.takeAdvance .yardMap = s ∧ s.takeAdvance .placement = s.retry.settle
    ∧ s.takeAdvance .service = (s.skipWashes.chooseAll).settle
    ∧ s.takeAdvance .departures =
        (if s.ycs.clockSet = true then (if s.ycs.minute = 0 then s.rollRows.armedSwap else s).callScan else s.shiftRetries))
  ∧ (∀ (s : State) k, s.ycs.minute < 1440 → (∀ q ∈ s.queue k, q.join < 1440) →
    (s.queue k).Pairwise (fun a b => s.waiting b < s.waiting a ∨ s.waiting a = s.waiting b ∧ a.slot < b.slot) →
    ((s.nextMinute.requeueWrapped k).queue k).Perm (s.queue k)
    ∧ ((s.nextMinute.requeueWrapped k).queue k).Pairwise (fun a b =>
        s.nextMinute.waiting b < s.nextMinute.waiting a ∨ s.nextMinute.waiting a = s.nextMinute.waiting b ∧ a.slot < b.slot))
  ∧ (∀ (s : State),
    (s.ycs.clockSet = false → s.skipWashes = s)
    ∧ ∀ late, late = (fun q : Ticket =>
        (s.boundPlan q.slot).any fun r => decide (r.key < s.ycs.minute + s.ss.params.washSkipMargin)) →
      s.ycs.clockSet = true →
      s.skipWashes.stc.washQueue = s.stc.washQueue.filter (fun q => !late q) ∧ s.skipWashes.stc.fuelQueue = s.stc.fuelQueue
      ∧ ∀ q ∈ s.stc.washQueue, late q = true →
        s.skipWashes.flag .washSkipped = true
        ∧ (s.skipWashes.veh q.slot).washCounter = (s.veh q.slot).washCounter
        ∧ ((s.veh q.slot).state = .service → s.inSomeLane q.slot = false → (∀ w ∈ s.waitList, w.slot ≠ q.slot) →
            (∀ p ∈ s.stc.washQueue, p.slot = q.slot → p = q) → s.stc.washQueue.Nodup →
            (s.skipWashes.veh q.slot).state = .toBerth ∨ (s.skipWashes.veh q.slot).state = .inbound))
  ∧ (∀ (s : State) order, s.ycs.clockSet = true → s.ycs.minute = 1439 → s.ds.swap ≠ .pending →
    ∃ t, exec (.minuteAdvance order) s = .next t
      ∧ (s.ds.swap = .none →
          (∀ i r, s.row i = some r → r.state = .planned ∨ r.state = .bound ∨ r.state = .short →
            t.row i = some { r with state := .missed, blocked := false, carried := false } ∧ t.flag .rowMissed = true
            ∧ ∀ v, r.state = .bound → r.bound = some v → (t.veh v).boundRow = none)
          ∧ (∀ i r, s.row i = some r → r.state = .called →
            ∃ x, t.row i = some x ∧ x.state = .called ∧ x.carried = true ∧ x.bound = r.bound)
          ∧ ∀ i r, s.row i = some r → r.state = .gone ∨ r.state = .missed ∨ r.state = .cancelled → t.row i = some r)
      ∧ (s.ds.swap = .armed → validBank s.ds.standby = true → s.anyCalled = false →
          t.ds.swap = .none ∧ t.ds.standby = [] ∧ t.ds.active.map PlanRow.key = s.ds.standby.map PlanRow.key)
      ∧ (s.ds.swap = .armed → validBank s.ds.standby = true → s.anyCalled = true →
          t.ds.swap = .pending ∧ t.ds.standby = s.ds.standby)
      ∧ (s.ds.swap = .armed → validBank s.ds.standby = false →
          t.ds.swap = .none ∧ t.ds.standby = s.ds.standby
          ∧ (s.er.deferred = none → t.er.deferred = some .swapInvalid)
          ∧ (s.er.deferred ≠ none → t.er.deferred = s.er.deferred ∧ t.er.further = true)))
  ∧ ∀ (s : State) order m, s.ycs.clockSet = true → m = s.ycs.minute + 1 → m < 1440 → s.ds.swap ≠ .pending →
    ∃ t, exec (.minuteAdvance order) s = .next t
      ∧ ∀ i r late, s.row i = some r →
        late = (if r.state = .called ∧ r.carried = true then s.ss.params.departureGrace else r.key + s.ss.params.departureGrace) →
        (late < m → r.state = .called ∨ r.state = .short →
          t.row i = some { r with state := .missed, blocked := false, carried := false } ∧ t.flag .rowMissed = true
          ∧ ∀ v, r.state = .called → r.bound = some v → (t.veh v).boundRow ≠ some i)
        ∧ (m ≤ late → r.state = .called → ∃ x, t.row i = some x ∧ x.state = .called ∧ x.bound = r.bound ∧ x.carried = r.carried)

/-- Whatever the order in which the blocks take a minute advance (an operand, log 12), every feeder's round leaves the base
load, the accumulator, the state and the budget that R93, R94, the states of R95, and R97 give, and a change to SHED or
TRIPPED its flag. Step 2 cancels the holds (R95), gives the notices of R107, and withdraws every grant of a feeder that trips
(R96). The round then makes its grants: the candidates with a deficit by slack, tier and turn age (R98 to R100), a grant to
each from what the budget still holds (R101), with the records of R102, and the set-points of R104. That the grants compared
are those after a charger without a deficit became FULL, and that set-points go by charger number, are the model's inferences
(log 16, 17). -/
def Obligations.FeedersAfterAMinuteAdvance : Prop :=
  (∀ (s : State) order f r sum drawn base a state b0 b1,
      r = s.feeder f →
      sum = (((upTo 64).filter fun c => (s.charger c).cfg.feeder = f).map fun c => (s.charger c).actual).sum →
      (∀ m x, r.cfg.meter = some m → (s.station m).silent = false → r.reading = some x → drawn = x ∧ base = x - sum) →
      (∀ m, r.cfg.meter = some m → (s.station m).silent = true ∨ r.reading = none →
        drawn = sum + r.baseLoad ∧ base = r.baseLoad) →
      (r.cfg.meter = none → drawn = sum ∧ base = 0) →
      a = (if drawn > r.cfg.rated then min 65535 (r.accumulator + (drawn - r.cfg.rated))
        else r.accumulator - min r.accumulator ((r.cfg.rated - drawn) / 2)) →
      state = (match r.state with
        | .normal => if a ≥ r.cfg.limit then FeederState.shed else .normal
        | .shed => if a ≥ 2 * r.cfg.limit then .tripped else if a = 0 then .normal else .shed
        | .tripped => .tripped) →
      b0 = (match state with
        | .normal => r.cfg.rated
        | .shed => r.cfg.rated * 3 / 4 / 10 * 10
        | .tripped => 0) →
      b1 = (if s.ycs.mode = .fallback then min b0 r.cfg.fallback else b0) →
      ∃ t, exec (.minuteAdvance order) s = .next t
        ∧ t.feeder f = { r with baseLoad := base, accumulator := a, state := state, budget := (b1 - base) / 10 * 10 }
        ∧ (r.state = .normal → state = .shed → t.flag .feederShed = true)
        ∧ (r.state = .shed → state = .tripped → t.flag .feederTrip = true)
        ∧ (state = .tripped → r.state = .shed ∨ (∀ c, (s.charger c).cfg.feeder = f → (s.charger c).grant = 0) →
            ∀ c, (s.charger c).cfg.feeder = f → (t.charger c).grant = 0))
  ∧ (∀ (s : State) f drawn r t after notices, r = s.feeder f → t = s.roundStep2 f drawn →
      after = (match r.state with
        | .normal => if r.accumulator ≥ r.cfg.limit then FeederState.shed else .normal
        | .shed => if r.accumulator ≥ 2 * r.cfg.limit then .tripped else if r.accumulator = 0 then .normal else .shed
        | .tripped => .tripped) →
      notices = (fun n : Notice => if s.ycs.mode = .normal ∧ s.dlp.notices.length < 16 then s.dlp.notices ++ [n]
        else s.dlp.notices) →
      (after = r.state → t = s)
      ∧ t.feeder f = { r with state := after } ∧ (∀ g, g ≠ f → t.feeder g = s.feeder g)
      ∧ (∀ c, (s.charger c).cfg.feeder ≠ f → t.charger c = s.charger c)
      ∧ (after ≠ r.state →
        (after ≠ .tripped → ∀ c, (s.charger c).cfg.feeder = f → t.charger c = { s.charger c with hold := 0 })
        ∧ (after = .normal → t.er = s.er ∧ t.dlp = s.dlp ∧ t.blc = s.blc)
        ∧ (after = .shed → t.flag .feederShed = true
          ∧ t.dlp.notices = notices (.feederShed f r.accumulator drawn r.cfg.rated r.baseLoad) ∧ t.blc = s.blc)
        ∧ (after = .tripped → t.flag .feederTrip = true
          ∧ t.dlp.notices = notices (.feederTrip f r.accumulator drawn r.cfg.rated r.baseLoad)
          ∧ (∀ c, (s.charger c).cfg.feeder = f → ∃ resend, t.charger c =
              { s.charger c with grant := 0, hold := 0, state := unchargedState (s.charger c), resend := resend })
          ∧ ∀ sent, sent = ((upTo 64).filterMap fun c =>
                if (s.charger c).cfg.feeder = f ∧ 0 < (s.charger c).grant ∧ s.heard (s.charger c).cfg.station = true then
                  (s.charger c).cfg.station.map fun a => Directive.mk a .setpoint (toBytes 2 0) else none) →
              s.blc.originFifo.length + sent.length ≤ 16 →
              t.blc.originFifo = s.blc.originFifo ++ sent
              ∧ ∀ c, (s.charger c).cfg.feeder = f → (t.charger c).resend =
                  ((s.charger c).resend || decide (0 < (s.charger c).grant) && !s.heard (s.charger c).cfg.station))))
  ∧ (∀ (s : State) f,
    s.takeAdvance (.round f) =
      (((s.roundStep1 f).roundStep2 f (s.drawnAndBase f).1).roundStep3 f).roundGrants f)
  ∧ (∀ (s : State) c v row d slack, (s.charger c).connected = some v →
    row = (if s.ycs.clockSet = true then s.boundPlan v else none) →
    d = (match row with
      | some r => if r.energy > 0 then r.energy else (s.veh v).standby.getD 0
      | none => (s.veh v).standby.getD 0) - (s.veh v).battery.getD 0 * (s.veh v).lastSoc.getD 0 / 1000 →
    slack = (match row with
      | some r => max (-999) (min 9998 (((r.key - s.ycs.minute : Nat) : Int)
          - (((6 * d + (s.charger c).cfg.pMax - 1) / (s.charger c).cfg.pMax : Nat) : Int)))
      | none => 9999) →
    s.candidateOf c =
      if s.isCandidate c = true ∧ 0 < d then
        some ⟨c, d, slack, if slack < 0 then 1 else if 0 < (s.charger c).hold ∧ 0 < (s.charger c).grant then 2
          else if s.ss.params.ageLimit ≤ (s.charger c).turnAge then 3 else 4, (s.charger c).turnAge⟩
      else none)
  ∧ (∀ candidates : List Candidate, (candidates.map Candidate.charger).Nodup →
    (orderCandidates candidates).Perm candidates
    ∧ (orderCandidates candidates).Pairwise (fun a b => a.tier < b.tier
        ∨ a.tier = b.tier ∧ (a.tier ≠ 3 ∧ a.slack < b.slack
          ∨ (a.tier = 3 ∨ a.slack = b.slack) ∧ (b.age < a.age ∨ a.age = b.age ∧ a.charger < b.charger))))
  ∧ ∀ (s : State) f order t, t = s.roundGrants f →
    order = orderCandidates ((upTo 64).filterMap fun c => if (s.charger c).cfg.feeder = f then s.candidateOf c else none) →
    (∀ c, (s.charger c).cfg.feeder ≠ f → t.charger c = s.charger c) ∧ t.ca.feeders = s.ca.feeders
    ∧ (∀ c, (s.charger c).cfg.feeder = f → s.candidateOf c = none → ∃ resend,
        t.charger c = (if s.isCandidate c = true then
            { s.charger c with state := .full, grant := 0, turnAge := 0, hold := 0, resend := resend }
          else { s.charger c with resend := resend }))
    ∧ (∀ front x back g0 g, order = front ++ x :: back →
        g0 = min (s.charger x.charger).cfg.pMax (min ((6 * x.deficit + 9) / 10 * 10)
          ((s.feeder f).budget - (front.map fun y => (t.charger y.charger).grant).sum)) / 10 * 10 →
        g = (if g0 < (s.charger x.charger).cfg.pMin then 0 else g0) →
        ∃ resend, t.charger x.charger =
          if 0 < g then
            { s.charger x.charger with
              grant := g, state := .charging, turnAge := 0, resend := resend
              hold := if (s.charger x.charger).state = .charging then (s.charger x.charger).hold - 1 else s.ss.params.turnLength }
          else
            { s.charger x.charger with
              grant := 0, state := .waiting, turnAge := min 255 ((s.charger x.charger).turnAge + 1), hold := 0
              resend := resend })
    ∧ ∀ due sent, due = (fun c => decide ((s.charger c).cfg.feeder = f) && ((s.charger c).resend
          || decide ((t.charger c).grant ≠ if s.candidateOf c = none ∧ s.isCandidate c = true then 0 else (s.charger c).grant))) →
        sent = ((upTo 64).filterMap fun c => if due c && s.heard (s.charger c).cfg.station then
          (s.charger c).cfg.station.map fun a => Directive.mk a .setpoint (toBytes 2 (t.charger c).grant) else none) →
        s.blc.originFifo.length + sent.length ≤ 16 →
        t.blc.originFifo = s.blc.originFifo ++ sent
        ∧ ∀ c, due c = true → (t.charger c).resend = !s.heard (s.charger c).cfg.station

/-- The supervision timer expires (R182); a retry expires (R75); an overstay expires (R77). A stopped timer has no
expiry (R182). That an expiry is a command, and that the expiry of a stopped timer changes nothing, are the model's choices
(log 6, 4). -/
def Obligations.TimersThatOnlyMark : Prop :=
  ∀ (s : State) b,
    (s.ycs.supervision.isSome →
      exec .supervisionTimeout s = .next
        ({ s with ycs := { s.ycs with mode := .fallback, supervision := none } }.raise .supervisionLapse))
    ∧ (∀ k n unit, (s.bay b).state = .faultWait → (s.bay b).retryTimer = some n → (s.bay b).ticket = some k →
        (s.bay b).cfg.unit = some unit →
      exec (.retryTimeout b) s = .next
        (if s.blc.originFifo.length < 16 then
          { s.setBay b { s.bay b with state := .busy, retryTimer := none } with
            blc := { s.blc with originFifo := s.blc.originFifo ++ [⟨unit, .bayStart, match (s.bay b).cfg.kind with
              | .fuel => [0]
              | .wash => toBytes 1 (s.veh k.slot).washProgramme⟩] } }
        else (s.setBay b { s.bay b with state := .busy, retryTimer := none }).raise .directiveDrop))
    ∧ (∀ n, (s.bay b).overstayTimer = some n → (s.bay b).overstay = false →
      exec (.overstayTimeout b) s = .next
        ((s.setBay b { s.bay b with overstayTimer := none, overstay := true }).raise .overstay))
    ∧ (s.ycs.supervision = none → exec .supervisionTimeout s = .next s)
    ∧ ((s.bay b).retryTimer = none → exec (.retryTimeout b) s = .next s)
    ∧ ((s.bay b).overstayTimer = none → exec (.overstayTimeout b) s = .next s)

/-- ARRIVAL_TIMEOUT (R34): the reservation lapses, and the bus is MOVING towards the lane it was expected in.
NO_SHOW_TIMEOUT at a CALLING bay (R72): a first no-show puts the ticket back in the queue from this minute, where a bay may
take it again, and the bay ends FREE without a ticket or CALLING. A second raises
BAY_NO_SHOW with its notice and keeps the wash counter, and the bay ends FREE without a ticket or CALLING. It drops the ticket:
no queue and no bay holds a ticket of that kind for the bus, which has gone to its next stage (R62): a WASH ticket after a
FUEL stage with a wash due and room in that queue (R61), else placement, a reservation (R42, R48) or the end of the wait list
(R51). The choices of the freed FUEL bay and of a WASH bay for that new ticket go in ascending bay number (R66). That an
expiry is a command is the model's choice (log 6). -/
def Obligations.ReservationAndNoShowLapse : Prop :=
  (∀ (s : State) l v n, s.entry l v = some ⟨v, .expected, some n⟩ → s.AtRest → (∀ m, m ≠ l → s.entry m v = none) →
    (∀ w ∈ s.waitList, w.slot ≠ v) →
    ∃ t, exec (.arrivalTimeout l v) s = .next t
      ∧ t.veh v = { s.veh v with state := .moving, location := .enRoute (some l), misorder := false, shift := false }
      ∧ t.inSomeLane v = false ∧ t.flag .arrivalLapse = true ∧ t.stc = s.stc)
  ∧ (∀ (s : State) b k n, (s.bay b).state = .calling → (s.bay b).noShowTimer = some n → (s.bay b).ticket = some k → s.AtRest →
    (k.noShows = 0 → k.kind = (s.bay b).cfg.kind → s.QueuesOfTheirKind → (∀ q ∈ s.queue k.kind, q.slot ≠ k.slot) →
      ∃ t k', exec (.noShowTimeout b) s = .next t
        ∧ k' = { k with join := s.ycs.minute, noShows := 1, state := TicketState.waiting }
        ∧ ((t.veh k.slot).location = .queue k.kind ∧ k' ∈ t.queue k.kind
          ∨ ∃ d, (t.veh k.slot).location = .bay d ∧ (t.bay d).ticket = some { k' with state := .calledToBay })
        ∧ ((t.bay b).state = .free ∧ (t.bay b).ticket = none ∨ (t.bay b).state = .calling)
        ∧ (t.veh k.slot).state = .service ∧ t.lanes = s.lanes ∧ t.ds = s.ds ∧ t.dlp = s.dlp)
    ∧ (k.noShows ≠ 0 →
      ∃ t, exec (.noShowTimeout b) s = .next t
        ∧ t.flag .bayNoShow = true ∧ (t.veh k.slot).washCounter = (s.veh k.slot).washCounter
        ∧ (s.ycs.mode = .normal → s.dlp.notices.length < 16 →
            s.dlp.notices ++ [.bayNoShow b (s.veh k.slot).tag k.slot k.kind] <+: t.dlp.notices)
        ∧ ((t.bay b).state = .free ∧ (t.bay b).ticket = none ∨ (t.bay b).state = .calling)
        ∧ (k.kind = (s.bay b).cfg.kind → s.QueuesOfTheirKind → (∀ d, s.waitingTicket d k.slot = none) →
            (∀ d, d ≠ b → s.bayHolds d k.slot = false) → (s.veh k.slot).state = .service → s.inSomeLane k.slot = false →
            (∀ w ∈ s.waitList, w.slot ≠ k.slot) →
          t.bayHolds b k.slot = false ∧ (∀ q ∈ t.queue k.kind, q.slot ≠ k.slot)
          ∧ (∀ d q, (t.bay d).ticket = some q → q.kind = k.kind → q.slot ≠ k.slot)
          ∧ (k.kind = .wash ∨ (s.veh k.slot).washCounter < s.ss.params.washInterval ∨ 64 ≤ s.liveTickets .wash →
              t.hasTicket k.slot = false
              ∧ ((∃ l, s.candidate .park k.slot l = true) →
                ∃ l, s.candidate .park k.slot l = true ∧ (t.veh k.slot).state = .toBerth
                  ∧ (t.veh k.slot).location = .lane l .expected none
                  ∧ t.entry l k.slot = some ⟨k.slot, .expected, some s.ss.params.arrivalTimeout⟩ ∧ t.waitList = s.waitList)
              ∧ ((∀ l, s.candidate .park k.slot l = false) →
                (t.veh k.slot).state = .inbound ∧ t.waitList = s.waitList ++ [⟨k.slot, .serviceExit, s.ycs.minute⟩]
                ∧ t.flag .noBerth = true ∧ t.lanes = s.lanes))
          ∧ (k.kind = .fuel → s.ss.params.washInterval ≤ (s.veh k.slot).washCounter → 64 ≤ s.liveTickets .wash →
              t.flag .queueFull = true)
          ∧ (k.kind = .fuel → s.ss.params.washInterval ≤ (s.veh k.slot).washCounter → s.liveTickets .wash < 64 →
              (t.veh k.slot).state = .service ∧ t.lanes = s.lanes ∧ t.waitList = s.waitList
              ∧ ((t.veh k.slot).location = .queue .wash ∧ Ticket.mk k.slot .wash s.ycs.minute 0 .waiting ∈ t.stc.washQueue
                ∨ ∃ d, (t.veh k.slot).location = .bay d
                    ∧ (t.bay d).ticket = some ⟨k.slot, .wash, s.ycs.minute, 0, .calledToBay⟩)))))
  ∧ ∀ (s : State) b d k q n unit shown shown', (s.bay b).state = .calling → (s.bay b).noShowTimer = some n →
    (s.bay b).ticket = some k → s.AtRest → k.noShows ≠ 0 → k.kind = .fuel → (s.bay b).cfg.kind = .fuel →
    s.ss.params.washInterval ≤ (s.veh k.slot).washCounter → s.liveTickets .wash < 64 → s.ycs.clockSet = false →
    s.stc.fuelQueue = [q] → q.kind = .fuel → q.slot ≠ k.slot → s.stc.washQueue = [] →
    (∀ e, e ≠ b → s.bayHolds e k.slot = false) →
    (s.bay b).cfg.unit = some unit → (s.station unit).silent = false → (s.bay b).cfg.display = some shown →
    (s.bay d).cfg.kind = .wash → s.eligible d = true → (∀ e, e ≠ d → (s.bay e).cfg.kind = .wash → s.eligible e = false) →
    (s.bay d).cfg.display = some shown' → s.blc.originFifo.length ≤ 14 →
    ∃ t, exec (.noShowTimeout b) s = .next t
      ∧ (t.bay b).ticket = some { q with state := .calledToBay }
      ∧ (t.bay d).ticket = some ⟨k.slot, .wash, s.ycs.minute, 0, .calledToBay⟩
      ∧ t.stc.fuelQueue = [] ∧ t.stc.washQueue = []
      ∧ t.blc.originFifo = s.blc.originFifo ++
          (if b < d then
            [⟨shown, .sign, signPayload (s.veh q.slot).tag (.bay b)⟩, ⟨shown', .sign, signPayload (s.veh k.slot).tag (.bay d)⟩]
          else
            [⟨shown', .sign, signPayload (s.veh k.slot).tag (.bay d)⟩, ⟨shown, .sign, signPayload (s.veh q.slot).tag (.bay b)⟩])

/-- STORE_COMPLETE and LOAD_COMPLETE (R185, R186, R161, R177): a failed verify and an unusable image are deferred
faults; a good image becomes the working configuration of a yard that has stayed empty. -/
def Obligations.EndsOfStoreAndLoad : Prop :=
  ∀ (s : State),
    (s.ss.storing = true → s.er.deferred = none →
      exec (.storeComplete false) s = .next
        ({ s with
          ss := ⟨s.ss.params, none, false, s.ss.loading⟩
          er := { s.er with deferred := some .storeVerify, further := false } }.raise .storeFailed))
    ∧ (s.ss.storing = true → s.er.deferred ≠ none →
      exec (.storeComplete false) s = .next
        ({ s with ss := ⟨s.ss.params, none, false, s.ss.loading⟩, er := { s.er with further := true } }.raise .storeFailed))
    ∧ (s.ss.loading = true → s.ss.flash = none → s.er.deferred = none →
      exec .loadComplete s = .next
        { s with ss := { s.ss with loading := false }, er := { s.er with deferred := some .loadInvalid, further := false } })
    ∧ ∀ c : Configuration, s.ss.loading = true → s.ss.flash = some c → (∀ l, (s.lane l).entries = []) →
      (∀ b, inUse (s.bay b).state = false) →
      ∃ t, exec .loadComplete s = .next t
        ∧ t.configuration = c ∧ t.ss = ⟨c.params, some c, s.ss.storing, false⟩
        ∧ (∀ a, (t.station a).misses = 0 ∧ (t.station a).silent = false)
        ∧ t.blc.place = none ∧ t.blc.cycleCount = 0 ∧ t.blc.transactions = s.blc.transactions
        ∧ (∀ l, (t.lane l).setState = if (c.lanes.get l).capacity = 0 then .closed else .opened)
        ∧ (∀ f, (t.feeder f).state = (s.feeder f).state ∧ (t.feeder f).accumulator = (s.feeder f).accumulator)
        ∧ t.ycs = s.ycs ∧ ∀ v, (t.veh v).tag = (s.veh v).tag

/-! ### Placement, pull-out -/

/-- The computation chooses a candidate lane of the lowest class, with the smallest gap, with the lowest number (R42,
R47), and none exactly when there is no candidate (R51). The candidate lanes (R42, R35, and R55 for a SHUNT lane), the order
test and the gap against the neighbour at the join end (R44, R47, R41), and the charger test of the positions the bus would take
(R43, R45, R46). A wait-list retry (R53) goes front to back: each waiting bus is placed, or keeps its place in the list with no
candidate lane left; the first that a lane can take gets the lane the computation chooses. -/
def Obligations.PlacementChoosesTheBest : Prop :=
  (∀ (s : State) v cls, cls = (fun l => if s.orderPasses v l then (if s.chargerNeedMet v l then 1 else 2) else 3) →
      (s.placement v = none ↔ ∀ l, s.candidate .park v l = false)
      ∧ ∀ c, s.placement v = some c →
        s.candidate .park v c.lane = true ∧ c.cls = cls c.lane ∧ c.gap = s.gap v c.lane
        ∧ ∀ l, s.candidate .park v l = true →
          cls c.lane < cls l ∨ cls c.lane = cls l ∧ (s.gap v c.lane < s.gap v l ∨ s.gap v c.lane = s.gap v l ∧ c.lane ≤ l))
  ∧ (∀ (s : State) role v l, s.candidate role v l = true ↔
      (s.lane l).cfg.role = role ∧ (s.lane l).setState = .opened ∧ (s.station (s.lane l).cfg.reader).silent = false
      ∧ (s.lane l).front + ((s.lane l).entries.map fun e => s.units e.slot).sum
          + (match (s.veh v).length with
            | .standard => 1
            | .articulated => 2) ≤ (s.lane l).cfg.capacity)
  ∧ (∀ (s : State) v l neighbour key,
      neighbour = (match (s.lane l).cfg.kind with
        | .through => (s.lane l).entries.getLast?
        | .deadEnd => (s.lane l).entries.head?) →
      key = (fun w => match (s.veh w).boundRow.bind s.row with
        | some r => r.key
        | none => 1440) →
      (neighbour = none → s.orderPasses v l = true ∧ s.gap v l = 1441)
      ∧ ∀ e, neighbour = some e →
        (s.orderPasses v l = true ↔ match (s.lane l).cfg.kind with
          | .through => key e.slot ≤ key v
          | .deadEnd => key v ≤ key e.slot)
        ∧ (s.gap v l : Int) = |(key v : Int) - key e.slot|)
  ∧ (∀ (s : State) v l stored target first,
      stored = (s.veh v).battery.getD 0 * (s.veh v).lastSoc.getD 0 / 1000 →
      target = (match (s.veh v).boundRow.bind s.row with
        | some r => if 0 < r.energy then r.energy else (s.veh v).standby.getD 0
        | none => (s.veh v).standby.getD 0) →
      first = (match (s.lane l).cfg.kind with
        | .through => (s.lane l).front + ((s.lane l).entries.map fun e => s.units e.slot).sum
        | .deadEnd => ((s.lane l).entries.map fun e => s.units e.slot).sum) →
      (s.chargerNeedMet v l = true ↔ (s.veh v).propulsion = .diesel ∨ target ≤ stored
        ∨ ∃ c a, (s.charger c).cfg.station = some a ∧ (s.charger c).cfg.lane = l
            ∧ ((s.charger c).cfg.position = first
              ∨ (s.veh v).length = .articulated ∧ (s.charger c).cfg.position = first + 1)
            ∧ (s.charger c).connected = none ∧ (s.station a).silent = false
            ∧ (s.feeder (s.charger c).cfg.feeder).state ≠ .tripped))
  ∧ ∀ (s : State), (s.waitList.map WaitEntry.slot).Nodup → (∀ w ∈ s.waitList, s.inSomeLane w.slot = false) →
    s.retry.waitList.Sublist s.waitList ∧ s.retry.ds.active = s.ds.active ∧ s.retry.stc = s.stc
    ∧ (∀ w ∈ s.waitList,
        w ∈ s.retry.waitList ∧ s.retry.veh w.slot = s.veh w.slot ∧ (∀ l, s.retry.candidate .park w.slot l = false)
        ∨ w ∉ s.retry.waitList ∧ ∃ l, s.candidate .park w.slot l = true
          ∧ (s.retry.veh w.slot).state = .toBerth ∧ (s.retry.veh w.slot).location = .lane l .expected none
          ∧ s.retry.entry l w.slot = some ⟨w.slot, .expected, some s.ss.params.arrivalTimeout⟩)
    ∧ (∀ v, (∀ w ∈ s.waitList, w.slot ≠ v) → s.retry.veh v = s.veh v)
    ∧ ∀ front w back c, s.waitList = front ++ w :: back → (∀ x ∈ front, s.placement x.slot = none) →
        s.placement w.slot = some c → (s.retry.veh w.slot).location = .lane c.lane .expected none

/-- A row taken by the window pass (R131, R132, R134, R135, R137): a PARKED bus is called, BLOCKED when it does not
stand at the mouth; a row without a bus takes the candidate of the lowest lane, or is SHORT. The candidate at a mouth (R133,
R134) and the shunt lane of a blocker (R55). A call scan is the grace tests,
then the window pass over the rows in order unless a swap is PENDING, then the lanes in NO_ROOM (R127, R130). A shift step
(R139): a blocked bus at the mouth is called out; a shift that stands is left alone; with nothing blocked, or an entry at the
mouth that clears by itself, the record is IDLE; else the blocker gets a shunt reservation, or SHUNT_FULL is raised once. -/
def Obligations.WindowPassTakesARow : Prop :=
  (∀ (s : State) i r, s.row i = some r →
      (∀ v l, r.state = .bound → r.bound = some v → (s.veh v).state = .parked → s.presentLane v = some l →
        (s.takeRow i r).row i = some { r with
            state := .called, callMinute := some s.ycs.minute, originLane := some l, carried := false
            lowEnergy := lowOnEnergy r (s.veh v), blocked := decide (s.entryIndex l v ≠ 0) }
        ∧ (s.takeRow i r).veh v = { s.veh v with state := .called, boundRow := some i }
        ∧ (∀ c, ((s.takeRow i r).charger c).connected ≠ some v)
        ∧ (s.entryIndex l v ≠ 0 → (s.takeRow i r).flag .callBlocked = true ∧ l ∈ (s.takeRow i r).ds.stepDue)
        ∧ (s.takeRow i r).lanes = s.lanes)
      ∧ (∀ v, r.state = .bound → r.bound = some v → (s.veh v).state ≠ .parked →
        (s.takeRow i r).row i = some { r with state := .short, bound := none }
        ∧ (s.takeRow i r).veh v = { s.veh v with boundRow := none } ∧ (s.takeRow i r).flag .rowShort = true
        ∧ (s.takeRow i r).lanes = s.lanes ∧ (s.takeRow i r).ca = s.ca)
      ∧ (r.state = .planned → (∀ l, s.mouthCandidate r l = none) →
        (s.takeRow i r).row i = some { r with state := .short, bound := none } ∧ (s.takeRow i r).flag .rowShort = true
        ∧ (s.takeRow i r).fleet = s.fleet ∧ (s.takeRow i r).lanes = s.lanes)
      ∧ (r.state = .short → (∀ l, s.mouthCandidate r l = none) → s.takeRow i r = s)
      ∧ ∀ v l, r.state = .planned ∨ r.state = .short → s.mouthCandidate r l = some v →
        (∀ m, m < l → s.mouthCandidate r m = none) →
        ((s.takeRow i r).row i).map PlanRow.bound = some (some v) ∧ ((s.takeRow i r).row i).map PlanRow.state = some .called
        ∧ ((s.takeRow i r).veh v).state = .called ∧ ((s.takeRow i r).veh v).boundRow = some i)
  ∧ (∀ (s : State) r l v, s.mouthCandidate r l = some v ↔
      (∃ e rest, (s.lane l).entries = e :: rest ∧ e.slot = v ∧ e.standing = .present)
      ∧ (s.veh v).state = .parked ∧ (s.veh v).boundRow = none ∧ (s.veh v).held = false
      ∧ (r.kindReq = .diesel → (s.veh v).propulsion = .diesel) ∧ (r.kindReq = .electric → (s.veh v).propulsion = .electric)
      ∧ (r.lengthReq = .standard → (s.veh v).length = .standard)
      ∧ (r.lengthReq = .articulated → (s.veh v).length = .articulated)
      ∧ ((s.veh v).propulsion = .electric → 0 < r.energy →
          r.energy ≤ (s.veh v).battery.getD 0 * (s.veh v).lastSoc.getD 0 / 1000))
  ∧ (∀ (s : State) b o cls, cls = (fun l => if s.orderPasses b l then 1 else 3) →
      (s.shuntPlacement b o = none ↔ ∀ l, l ≠ o → s.candidate .shunt b l = false)
      ∧ ∀ c, s.shuntPlacement b o = some c →
        c.lane ≠ o ∧ s.candidate .shunt b c.lane = true ∧ c.cls = cls c.lane ∧ c.gap = s.gap b c.lane
        ∧ ∀ l, l ≠ o → s.candidate .shunt b l = true →
          cls c.lane < cls l ∨ cls c.lane = cls l ∧ (s.gap b c.lane < s.gap b l ∨ s.gap b c.lane = s.gap b l ∧ c.lane ≤ l))
  ∧ (∀ (s : State),
    s.callScan = ((if s.graceTests.ds.swap = .pending then s.graceTests else
      forEach (List.range s.graceTests.ds.active.length) (fun i u => match u.row i with
        | none => u
        | some r => if r.key ≤ u.ycs.minute + u.ss.params.callLead ∧ u.ycs.minute ≤ r.key + u.ss.params.departureGrace then
            (u.takeRow i r).settle else u) s.graceTests).shiftRetries))
  ∧ ∀ (s : State) l,
    ((∀ e, (s.lane l).entries.head? = some e → e.standing = .present → s.blockedRowOf e.slot = none) →
      (∀ b, s.shiftRecord l = .shifting b → s.presentIn l b = true → s.shiftStep l = s)
      ∧ ((∀ b, s.shiftRecord l = .shifting b → s.presentIn l b = false) →
        (s.blockedRowsIn l = [] → s.shiftStep l = s.setShiftRecord l .idle)
        ∧ ∀ e rest row rows, (s.lane l).entries = e :: rest → s.blockedRowsIn l = row :: rows →
          (e.standing = .expected ∨ (s.veh e.slot).state = .called → s.shiftStep l = s.setShiftRecord l .idle)
          ∧ (e.standing = .present → (s.veh e.slot).state ≠ .called →
            (∀ c, s.shuntPlacement e.slot l = some c → s.entry c.lane e.slot = none →
              (s.shiftStep l).shiftRecord l = .shifting e.slot
              ∧ ((s.shiftStep l).veh e.slot).state = .toBerth ∧ ((s.shiftStep l).veh e.slot).shift = true
              ∧ ((s.shiftStep l).veh e.slot).location = .lane l .present (some c.lane)
              ∧ (s.shiftStep l).entry c.lane e.slot = some ⟨e.slot, .expected, none⟩
              ∧ (s.shiftStep l).lane l = s.lane l ∧ c.lane ∈ (s.shiftStep l).ds.stepDue)
            ∧ (s.shuntPlacement e.slot l = none →
              (s.shiftRecord l = .noRoom e.slot → s.shiftStep l = s)
              ∧ (s.shiftRecord l ≠ .noRoom e.slot → s.shiftStep l =
                  ((s.setShiftRecord l (.noRoom e.slot)).raise .shuntFull).notify
                    (.shuntFull l (s.veh e.slot).tag e.slot row))))))
    ∧ ∀ e rest i r, (s.lane l).entries = e :: rest → e.standing = .present → s.blockedRowOf e.slot = some i →
      s.row i = some r →
      (s.shiftStep l).row i = some { r with blocked := false }
      ∧ ∀ a, (s.lane l).cfg.mouth = some a → s.blc.originFifo.length < 16 →
          s.blc.originFifo ++ [⟨a, .call, toBytes 2 r.block ++ toBytes 3 (s.veh e.slot).tag⟩] <+: (s.shiftStep l).blc.originFifo
end

