-- ==== Sys2Proof/Laws/Bytes.lean ====
section
/-! SUPPORT. Bytes and the numbers they spell (R188), and the fields of a payload that is put together from pieces. -/

namespace Sys2Proof.Machine

@[simp] theorem toBytes_length (width n : Nat) : (toBytes width n).length = width := by
  induction width generalizing n with
  | zero => rfl
  | succ w ih => simp [toBytes, ih]

theorem ofBytes_append (front : List Byte) (b : Byte) : ofBytes (front ++ [b]) = ofBytes front * 256 + b.toNat := by
  simp [ofBytes]

theorem ofBytes_lt (bytes : List Byte) : ofBytes bytes < 256 ^ bytes.length := by
  induction bytes using List.reverseRecOn with
  | nil => simp [ofBytes]
  | append_singleton front b ih =>
    rw [ofBytes_append, List.length_append, List.length_singleton, Nat.pow_succ]
    have := b.isLt
    omega

/-- A number that fits its width is read back from its bytes. -/
theorem ofBytes_toBytes (width n : Nat) (h : n < 256 ^ width) : ofBytes (toBytes width n) = n := by
  induction width generalizing n with
  | zero => simp at h; simp [toBytes, ofBytes, h]
  | succ w ih =>
    rw [toBytes, ofBytes_append, ih (n / 256) (by rw [Nat.pow_succ] at h; omega)]
    simp only [BitVec.toNat_ofNat]
    omega

/-- A number is read back modulo what its width holds. -/
theorem ofBytes_toBytes_mod (width n : Nat) : ofBytes (toBytes width n) = n % 256 ^ width := by
  induction width generalizing n with
  | zero => simp [toBytes, ofBytes, Nat.mod_one]
  | succ w ih =>
    rw [toBytes, ofBytes_append, ih (n / 256)]
    have hw : 256 ^ (w + 1) = 256 * 256 ^ w := by rw [Nat.pow_succ, Nat.mul_comm]
    rw [BitVec.toNat_ofNat, hw, Nat.mod_mul]
    omega

/-- Bytes are spelled again by the number they spell. -/
theorem toBytes_ofBytes (bytes : List Byte) : toBytes bytes.length (ofBytes bytes) = bytes := by
  induction bytes using List.reverseRecOn with
  | nil => rfl
  | append_singleton front b ih =>
    have hb := b.isLt
    rw [List.length_append, List.length_singleton, toBytes, ofBytes_append]
    rw [show (ofBytes front * 256 + b.toNat) / 256 = ofBytes front by omega, ih]
    congr 2
    apply BitVec.eq_of_toNat_eq
    simp only [BitVec.toNat_ofNat]
    omega

/-- The field that a piece of a payload stands for. -/
theorem field_of_pieces (front rest : List Byte) (width n start : Nat) (hs : front.length = start) (h : n < 256 ^ width) :
    field (front ++ (toBytes width n ++ rest)) start width = n := by
  subst hs
  simp [field, ofBytes_toBytes width n h]

/-- A field that ends before the last piece begins does not read it. -/
theorem field_append_left (front rest : List Byte) (start width : Nat) (h : start + width ≤ front.length) :
    field (front ++ rest) start width = field front start width := by
  unfold field
  rw [List.drop_append_of_le_length (by omega), List.take_append_of_le_length (by simp; omega)]

/-- A field that begins where a piece ends does not read it. -/
theorem field_append_right (front rest : List Byte) (start width : Nat) (h : front.length ≤ start) :
    field (front ++ rest) start width = field rest (start - front.length) width := by
  unfold field
  rw [List.drop_append, List.drop_eq_nil_of_le h]
  simp

@[simp] theorem field_toBytes (width n : Nat) (h : n < 256 ^ width) : field (toBytes width n) 0 width = n := by
  have := field_of_pieces [] [] width n 0 rfl h
  simpa using this

theorem telegramBody_length (t : Telegram) : (telegramBody t).length = t.payload.length + 4 := by
  simp [telegramBody]

@[simp] theorem telegramBytes_length (t : Telegram) : (telegramBytes t).length = t.payload.length + 6 := by
  simp [telegramBytes, telegramBody_length]

@[simp] theorem character_length (b : Byte) : (character b).length = 10 := by simp [character]

/-- A character determines its byte. -/
theorem character_injective {a b : Byte} (h : character a = character b) : a = b := by
  simp only [character, List.cons.injEq, List.map_cons, List.map_nil, List.cons_append, LineBit.data.injEq] at h
  obtain ⟨-, h7, h6, h5, h4, h3, h2, h1, h0, -⟩ := h
  exact BitVec.eq_of_getLsbD_eq fun i hi => by
    have : i = 0 ∨ i = 1 ∨ i = 2 ∨ i = 3 ∨ i = 4 ∨ i = 5 ∨ i = 6 ∨ i = 7 := by omega
    rcases this with rfl | rfl | rfl | rfl | rfl | rfl | rfl | rfl <;> assumption

@[simp] theorem stationBytes_length (a : Option Addr) : (stationBytes a).length = 1 := by
  cases a <;> simp [stationBytes, optBytes]

@[simp] theorem slotBytes_length (v : Option Slot) : (slotBytes v).length = 2 := by
  cases v <;> simp [slotBytes, optBytes]

@[simp] theorem codeByte_length {α : Type} [DecidableEq α] (list : List α) (x : α) : (codeByte list x).length = 1 := by
  simp [codeByte]

/-- A station field is read back as the station it was written for (R190). -/
theorem optAddrField_stationBytes (a : Option Addr) : optAddrField (ofBytes (stationBytes a)) = some a := by
  cases a with
  | none => decide
  | some a =>
    have h : a.val < 256 ^ 1 := by have := a.isLt; omega
    simp [stationBytes, optBytes, ofBytes_toBytes 1 _ h, optAddrField]

/-- A slot field is read back as the slot it was written for (R190). -/
theorem optSlotField_slotBytes (v : Option Slot) : optSlotField (ofBytes (slotBytes v)) = some v := by
  cases v with
  | none => decide
  | some v =>
    have h : v.val < 256 ^ 2 := by have := v.isLt; omega
    simp [slotBytes, optBytes, ofBytes_toBytes 2 _ h, optSlotField]

end Sys2Proof.Machine
end

