-- ==== Sys2Proof/Laws/State.lean ====
section
/-! SUPPORT. What the updates of the state leave and what they write: one lemma per field and per update, so that no proof
unfolds a record update. -/

namespace Sys2Proof.Machine

variable (s : State)

/-! ### setVeh -/

@[simp] theorem State.setVeh_lanes (v : Slot) (r : Vehicle) : (s.setVeh v r).lanes = s.lanes := rfl
@[simp] theorem State.setVeh_waitList (v : Slot) (r : Vehicle) : (s.setVeh v r).waitList = s.waitList := rfl
@[simp] theorem State.setVeh_stc (v : Slot) (r : Vehicle) : (s.setVeh v r).stc = s.stc := rfl
@[simp] theorem State.setVeh_ca (v : Slot) (r : Vehicle) : (s.setVeh v r).ca = s.ca := rfl
@[simp] theorem State.setVeh_ds (v : Slot) (r : Vehicle) : (s.setVeh v r).ds = s.ds := rfl
@[simp] theorem State.setVeh_blc (v : Slot) (r : Vehicle) : (s.setVeh v r).blc = s.blc := rfl
@[simp] theorem State.setVeh_dlp (v : Slot) (r : Vehicle) : (s.setVeh v r).dlp = s.dlp := rfl
@[simp] theorem State.setVeh_tau (v : Slot) (r : Vehicle) : (s.setVeh v r).tau = s.tau := rfl
@[simp] theorem State.setVeh_er (v : Slot) (r : Vehicle) : (s.setVeh v r).er = s.er := rfl
@[simp] theorem State.setVeh_ycs (v : Slot) (r : Vehicle) : (s.setVeh v r).ycs = s.ycs := rfl
@[simp] theorem State.setVeh_ss (v : Slot) (r : Vehicle) : (s.setVeh v r).ss = s.ss := rfl
@[simp] theorem State.setVeh_ownAddr (v : Slot) (r : Vehicle) : (s.setVeh v r).ownAddr = s.ownAddr := rfl
@[simp] theorem State.setVeh_pending (v : Slot) (r : Vehicle) : (s.setVeh v r).pending = s.pending := rfl
@[simp] theorem State.setVeh_lane (v : Slot) (r : Vehicle) (x : LaneNo) : (s.setVeh v r).lane x = s.lane x := rfl
@[simp] theorem State.setVeh_bay (v : Slot) (r : Vehicle) (x : BayNo) : (s.setVeh v r).bay x = s.bay x := rfl
@[simp] theorem State.setVeh_charger (v : Slot) (r : Vehicle) (x : ChargerNo) : (s.setVeh v r).charger x = s.charger x := rfl
@[simp] theorem State.setVeh_feeder (v : Slot) (r : Vehicle) (x : FeederNo) : (s.setVeh v r).feeder x = s.feeder x := rfl
@[simp] theorem State.setVeh_station (v : Slot) (r : Vehicle) (x : Addr) : (s.setVeh v r).station x = s.station x := rfl
@[simp] theorem State.setVeh_shiftRecord (v : Slot) (r : Vehicle) (x : LaneNo) : (s.setVeh v r).shiftRecord x = s.shiftRecord x := rfl
@[simp] theorem State.setVeh_row (v : Slot) (r : Vehicle) (x : Nat) : (s.setVeh v r).row x = s.row x := rfl
@[simp] theorem State.setVeh_queue (v : Slot) (r : Vehicle) (x : QueueKind) : (s.setVeh v r).queue x = s.queue x := by cases x <;> rfl

/-! ### setLane -/

@[simp] theorem State.setLane_fleet (l : LaneNo) (r : Lane) : (s.setLane l r).fleet = s.fleet := rfl
@[simp] theorem State.setLane_waitList (l : LaneNo) (r : Lane) : (s.setLane l r).waitList = s.waitList := rfl
@[simp] theorem State.setLane_stc (l : LaneNo) (r : Lane) : (s.setLane l r).stc = s.stc := rfl
@[simp] theorem State.setLane_ca (l : LaneNo) (r : Lane) : (s.setLane l r).ca = s.ca := rfl
@[simp] theorem State.setLane_ds (l : LaneNo) (r : Lane) : (s.setLane l r).ds = s.ds := rfl
@[simp] theorem State.setLane_blc (l : LaneNo) (r : Lane) : (s.setLane l r).blc = s.blc := rfl
@[simp] theorem State.setLane_dlp (l : LaneNo) (r : Lane) : (s.setLane l r).dlp = s.dlp := rfl
@[simp] theorem State.setLane_tau (l : LaneNo) (r : Lane) : (s.setLane l r).tau = s.tau := rfl
@[simp] theorem State.setLane_er (l : LaneNo) (r : Lane) : (s.setLane l r).er = s.er := rfl
@[simp] theorem State.setLane_ycs (l : LaneNo) (r : Lane) : (s.setLane l r).ycs = s.ycs := rfl
@[simp] theorem State.setLane_ss (l : LaneNo) (r : Lane) : (s.setLane l r).ss = s.ss := rfl
@[simp] theorem State.setLane_ownAddr (l : LaneNo) (r : Lane) : (s.setLane l r).ownAddr = s.ownAddr := rfl
@[simp] theorem State.setLane_pending (l : LaneNo) (r : Lane) : (s.setLane l r).pending = s.pending := rfl
@[simp] theorem State.setLane_veh (l : LaneNo) (r : Lane) (x : Slot) : (s.setLane l r).veh x = s.veh x := rfl
@[simp] theorem State.setLane_bay (l : LaneNo) (r : Lane) (x : BayNo) : (s.setLane l r).bay x = s.bay x := rfl
@[simp] theorem State.setLane_charger (l : LaneNo) (r : Lane) (x : ChargerNo) : (s.setLane l r).charger x = s.charger x := rfl
@[simp] theorem State.setLane_feeder (l : LaneNo) (r : Lane) (x : FeederNo) : (s.setLane l r).feeder x = s.feeder x := rfl
@[simp] theorem State.setLane_station (l : LaneNo) (r : Lane) (x : Addr) : (s.setLane l r).station x = s.station x := rfl
@[simp] theorem State.setLane_shiftRecord (l : LaneNo) (r : Lane) (x : LaneNo) : (s.setLane l r).shiftRecord x = s.shiftRecord x := rfl
@[simp] theorem State.setLane_row (l : LaneNo) (r : Lane) (x : Nat) : (s.setLane l r).row x = s.row x := rfl
@[simp] theorem State.setLane_queue (l : LaneNo) (r : Lane) (x : QueueKind) : (s.setLane l r).queue x = s.queue x := by cases x <;> rfl

/-! ### setBay -/

@[simp] theorem State.setBay_fleet (b : BayNo) (r : Bay) : (s.setBay b r).fleet = s.fleet := rfl
@[simp] theorem State.setBay_lanes (b : BayNo) (r : Bay) : (s.setBay b r).lanes = s.lanes := rfl
@[simp] theorem State.setBay_waitList (b : BayNo) (r : Bay) : (s.setBay b r).waitList = s.waitList := rfl
@[simp] theorem State.setBay_ca (b : BayNo) (r : Bay) : (s.setBay b r).ca = s.ca := rfl
@[simp] theorem State.setBay_ds (b : BayNo) (r : Bay) : (s.setBay b r).ds = s.ds := rfl
@[simp] theorem State.setBay_blc (b : BayNo) (r : Bay) : (s.setBay b r).blc = s.blc := rfl
@[simp] theorem State.setBay_dlp (b : BayNo) (r : Bay) : (s.setBay b r).dlp = s.dlp := rfl
@[simp] theorem State.setBay_tau (b : BayNo) (r : Bay) : (s.setBay b r).tau = s.tau := rfl
@[simp] theorem State.setBay_er (b : BayNo) (r : Bay) : (s.setBay b r).er = s.er := rfl
@[simp] theorem State.setBay_ycs (b : BayNo) (r : Bay) : (s.setBay b r).ycs = s.ycs := rfl
@[simp] theorem State.setBay_ss (b : BayNo) (r : Bay) : (s.setBay b r).ss = s.ss := rfl
@[simp] theorem State.setBay_ownAddr (b : BayNo) (r : Bay) : (s.setBay b r).ownAddr = s.ownAddr := rfl
@[simp] theorem State.setBay_pending (b : BayNo) (r : Bay) : (s.setBay b r).pending = s.pending := rfl
@[simp] theorem State.setBay_stc_fuelQueue (b : BayNo) (r : Bay) : (s.setBay b r).stc.fuelQueue = s.stc.fuelQueue := rfl
@[simp] theorem State.setBay_stc_washQueue (b : BayNo) (r : Bay) : (s.setBay b r).stc.washQueue = s.stc.washQueue := rfl
@[simp] theorem State.setBay_veh (b : BayNo) (r : Bay) (x : Slot) : (s.setBay b r).veh x = s.veh x := rfl
@[simp] theorem State.setBay_lane (b : BayNo) (r : Bay) (x : LaneNo) : (s.setBay b r).lane x = s.lane x := rfl
@[simp] theorem State.setBay_charger (b : BayNo) (r : Bay) (x : ChargerNo) : (s.setBay b r).charger x = s.charger x := rfl
@[simp] theorem State.setBay_feeder (b : BayNo) (r : Bay) (x : FeederNo) : (s.setBay b r).feeder x = s.feeder x := rfl
@[simp] theorem State.setBay_station (b : BayNo) (r : Bay) (x : Addr) : (s.setBay b r).station x = s.station x := rfl
@[simp] theorem State.setBay_shiftRecord (b : BayNo) (r : Bay) (x : LaneNo) : (s.setBay b r).shiftRecord x = s.shiftRecord x := rfl
@[simp] theorem State.setBay_row (b : BayNo) (r : Bay) (x : Nat) : (s.setBay b r).row x = s.row x := rfl
@[simp] theorem State.setBay_queue (b : BayNo) (r : Bay) (x : QueueKind) : (s.setBay b r).queue x = s.queue x := by cases x <;> rfl

/-! ### setCharger -/

@[simp] theorem State.setCharger_fleet (c : ChargerNo) (r : Charger) : (s.setCharger c r).fleet = s.fleet := rfl
@[simp] theorem State.setCharger_lanes (c : ChargerNo) (r : Charger) : (s.setCharger c r).lanes = s.lanes := rfl
@[simp] theorem State.setCharger_waitList (c : ChargerNo) (r : Charger) : (s.setCharger c r).waitList = s.waitList := rfl
@[simp] theorem State.setCharger_stc (c : ChargerNo) (r : Charger) : (s.setCharger c r).stc = s.stc := rfl
@[simp] theorem State.setCharger_ds (c : ChargerNo) (r : Charger) : (s.setCharger c r).ds = s.ds := rfl
@[simp] theorem State.setCharger_blc (c : ChargerNo) (r : Charger) : (s.setCharger c r).blc = s.blc := rfl
@[simp] theorem State.setCharger_dlp (c : ChargerNo) (r : Charger) : (s.setCharger c r).dlp = s.dlp := rfl
@[simp] theorem State.setCharger_tau (c : ChargerNo) (r : Charger) : (s.setCharger c r).tau = s.tau := rfl
@[simp] theorem State.setCharger_er (c : ChargerNo) (r : Charger) : (s.setCharger c r).er = s.er := rfl
@[simp] theorem State.setCharger_ycs (c : ChargerNo) (r : Charger) : (s.setCharger c r).ycs = s.ycs := rfl
@[simp] theorem State.setCharger_ss (c : ChargerNo) (r : Charger) : (s.setCharger c r).ss = s.ss := rfl
@[simp] theorem State.setCharger_ownAddr (c : ChargerNo) (r : Charger) : (s.setCharger c r).ownAddr = s.ownAddr := rfl
@[simp] theorem State.setCharger_pending (c : ChargerNo) (r : Charger) : (s.setCharger c r).pending = s.pending := rfl
@[simp] theorem State.setCharger_ca_feeders (c : ChargerNo) (r : Charger) : (s.setCharger c r).ca.feeders = s.ca.feeders := rfl
@[simp] theorem State.setCharger_veh (c : ChargerNo) (r : Charger) (x : Slot) : (s.setCharger c r).veh x = s.veh x := rfl
@[simp] theorem State.setCharger_lane (c : ChargerNo) (r : Charger) (x : LaneNo) : (s.setCharger c r).lane x = s.lane x := rfl
@[simp] theorem State.setCharger_bay (c : ChargerNo) (r : Charger) (x : BayNo) : (s.setCharger c r).bay x = s.bay x := rfl
@[simp] theorem State.setCharger_feeder (c : ChargerNo) (r : Charger) (x : FeederNo) : (s.setCharger c r).feeder x = s.feeder x := rfl
@[simp] theorem State.setCharger_station (c : ChargerNo) (r : Charger) (x : Addr) : (s.setCharger c r).station x = s.station x := rfl
@[simp] theorem State.setCharger_shiftRecord (c : ChargerNo) (r : Charger) (x : LaneNo) : (s.setCharger c r).shiftRecord x = s.shiftRecord x := rfl
@[simp] theorem State.setCharger_row (c : ChargerNo) (r : Charger) (x : Nat) : (s.setCharger c r).row x = s.row x := rfl
@[simp] theorem State.setCharger_queue (c : ChargerNo) (r : Charger) (x : QueueKind) : (s.setCharger c r).queue x = s.queue x := by cases x <;> rfl

/-! ### setFeeder -/

@[simp] theorem State.setFeeder_fleet (f : FeederNo) (r : Feeder) : (s.setFeeder f r).fleet = s.fleet := rfl
@[simp] theorem State.setFeeder_lanes (f : FeederNo) (r : Feeder) : (s.setFeeder f r).lanes = s.lanes := rfl
@[simp] theorem State.setFeeder_waitList (f : FeederNo) (r : Feeder) : (s.setFeeder f r).waitList = s.waitList := rfl
@[simp] theorem State.setFeeder_stc (f : FeederNo) (r : Feeder) : (s.setFeeder f r).stc = s.stc := rfl
@[simp] theorem State.setFeeder_ds (f : FeederNo) (r : Feeder) : (s.setFeeder f r).ds = s.ds := rfl
@[simp] theorem State.setFeeder_blc (f : FeederNo) (r : Feeder) : (s.setFeeder f r).blc = s.blc := rfl
@[simp] theorem State.setFeeder_dlp (f : FeederNo) (r : Feeder) : (s.setFeeder f r).dlp = s.dlp := rfl
@[simp] theorem State.setFeeder_tau (f : FeederNo) (r : Feeder) : (s.setFeeder f r).tau = s.tau := rfl
@[simp] theorem State.setFeeder_er (f : FeederNo) (r : Feeder) : (s.setFeeder f r).er = s.er := rfl
@[simp] theorem State.setFeeder_ycs (f : FeederNo) (r : Feeder) : (s.setFeeder f r).ycs = s.ycs := rfl
@[simp] theorem State.setFeeder_ss (f : FeederNo) (r : Feeder) : (s.setFeeder f r).ss = s.ss := rfl
@[simp] theorem State.setFeeder_ownAddr (f : FeederNo) (r : Feeder) : (s.setFeeder f r).ownAddr = s.ownAddr := rfl
@[simp] theorem State.setFeeder_pending (f : FeederNo) (r : Feeder) : (s.setFeeder f r).pending = s.pending := rfl
@[simp] theorem State.setFeeder_ca_chargers (f : FeederNo) (r : Feeder) : (s.setFeeder f r).ca.chargers = s.ca.chargers := rfl
@[simp] theorem State.setFeeder_veh (f : FeederNo) (r : Feeder) (x : Slot) : (s.setFeeder f r).veh x = s.veh x := rfl
@[simp] theorem State.setFeeder_lane (f : FeederNo) (r : Feeder) (x : LaneNo) : (s.setFeeder f r).lane x = s.lane x := rfl
@[simp] theorem State.setFeeder_bay (f : FeederNo) (r : Feeder) (x : BayNo) : (s.setFeeder f r).bay x = s.bay x := rfl
@[simp] theorem State.setFeeder_charger (f : FeederNo) (r : Feeder) (x : ChargerNo) : (s.setFeeder f r).charger x = s.charger x := rfl
@[simp] theorem State.setFeeder_station (f : FeederNo) (r : Feeder) (x : Addr) : (s.setFeeder f r).station x = s.station x := rfl
@[simp] theorem State.setFeeder_shiftRecord (f : FeederNo) (r : Feeder) (x : LaneNo) : (s.setFeeder f r).shiftRecord x = s.shiftRecord x := rfl
@[simp] theorem State.setFeeder_row (f : FeederNo) (r : Feeder) (x : Nat) : (s.setFeeder f r).row x = s.row x := rfl
@[simp] theorem State.setFeeder_queue (f : FeederNo) (r : Feeder) (x : QueueKind) : (s.setFeeder f r).queue x = s.queue x := by cases x <;> rfl

/-! ### setStation -/

@[simp] theorem State.setStation_fleet (a : Addr) (r : Station) : (s.setStation a r).fleet = s.fleet := rfl
@[simp] theorem State.setStation_lanes (a : Addr) (r : Station) : (s.setStation a r).lanes = s.lanes := rfl
@[simp] theorem State.setStation_waitList (a : Addr) (r : Station) : (s.setStation a r).waitList = s.waitList := rfl
@[simp] theorem State.setStation_stc (a : Addr) (r : Station) : (s.setStation a r).stc = s.stc := rfl
@[simp] theorem State.setStation_ca (a : Addr) (r : Station) : (s.setStation a r).ca = s.ca := rfl
@[simp] theorem State.setStation_ds (a : Addr) (r : Station) : (s.setStation a r).ds = s.ds := rfl
@[simp] theorem State.setStation_dlp (a : Addr) (r : Station) : (s.setStation a r).dlp = s.dlp := rfl
@[simp] theorem State.setStation_tau (a : Addr) (r : Station) : (s.setStation a r).tau = s.tau := rfl
@[simp] theorem State.setStation_er (a : Addr) (r : Station) : (s.setStation a r).er = s.er := rfl
@[simp] theorem State.setStation_ycs (a : Addr) (r : Station) : (s.setStation a r).ycs = s.ycs := rfl
@[simp] theorem State.setStation_ss (a : Addr) (r : Station) : (s.setStation a r).ss = s.ss := rfl
@[simp] theorem State.setStation_ownAddr (a : Addr) (r : Station) : (s.setStation a r).ownAddr = s.ownAddr := rfl
@[simp] theorem State.setStation_pending (a : Addr) (r : Station) : (s.setStation a r).pending = s.pending := rfl
@[simp] theorem State.setStation_blc_originFifo (a : Addr) (r : Station) : (s.setStation a r).blc.originFifo = s.blc.originFifo := rfl
@[simp] theorem State.setStation_blc_forwardFifo (a : Addr) (r : Station) : (s.setStation a r).blc.forwardFifo = s.blc.forwardFifo := rfl
@[simp] theorem State.setStation_blc_place (a : Addr) (r : Station) : (s.setStation a r).blc.place = s.blc.place := rfl
@[simp] theorem State.setStation_blc_cycleCount (a : Addr) (r : Station) : (s.setStation a r).blc.cycleCount = s.blc.cycleCount := rfl
@[simp] theorem State.setStation_blc_transactions (a : Addr) (r : Station) : (s.setStation a r).blc.transactions = s.blc.transactions := rfl
@[simp] theorem State.setStation_blc_pointer (a : Addr) (r : Station) : (s.setStation a r).blc.pointer = s.blc.pointer := rfl
@[simp] theorem State.setStation_blc_turn (a : Addr) (r : Station) : (s.setStation a r).blc.turn = s.blc.turn := rfl
@[simp] theorem State.setStation_blc_abandoned (a : Addr) (r : Station) : (s.setStation a r).blc.abandoned = s.blc.abandoned := rfl
@[simp] theorem State.setStation_blc_out (a : Addr) (r : Station) : (s.setStation a r).blc.out = s.blc.out := rfl
@[simp] theorem State.setStation_veh (a : Addr) (r : Station) (x : Slot) : (s.setStation a r).veh x = s.veh x := rfl
@[simp] theorem State.setStation_lane (a : Addr) (r : Station) (x : LaneNo) : (s.setStation a r).lane x = s.lane x := rfl
@[simp] theorem State.setStation_bay (a : Addr) (r : Station) (x : BayNo) : (s.setStation a r).bay x = s.bay x := rfl
@[simp] theorem State.setStation_charger (a : Addr) (r : Station) (x : ChargerNo) : (s.setStation a r).charger x = s.charger x := rfl
@[simp] theorem State.setStation_feeder (a : Addr) (r : Station) (x : FeederNo) : (s.setStation a r).feeder x = s.feeder x := rfl
@[simp] theorem State.setStation_shiftRecord (a : Addr) (r : Station) (x : LaneNo) : (s.setStation a r).shiftRecord x = s.shiftRecord x := rfl
@[simp] theorem State.setStation_row (a : Addr) (r : Station) (x : Nat) : (s.setStation a r).row x = s.row x := rfl
@[simp] theorem State.setStation_queue (a : Addr) (r : Station) (x : QueueKind) : (s.setStation a r).queue x = s.queue x := by cases x <;> rfl

/-! ### setShiftRecord -/

@[simp] theorem State.setShiftRecord_fleet (l : LaneNo) (r : ShiftRecord) : (s.setShiftRecord l r).fleet = s.fleet := rfl
@[simp] theorem State.setShiftRecord_lanes (l : LaneNo) (r : ShiftRecord) : (s.setShiftRecord l r).lanes = s.lanes := rfl
@[simp] theorem State.setShiftRecord_waitList (l : LaneNo) (r : ShiftRecord) : (s.setShiftRecord l r).waitList = s.waitList := rfl
@[simp] theorem State.setShiftRecord_stc (l : LaneNo) (r : ShiftRecord) : (s.setShiftRecord l r).stc = s.stc := rfl
@[simp] theorem State.setShiftRecord_ca (l : LaneNo) (r : ShiftRecord) : (s.setShiftRecord l r).ca = s.ca := rfl
@[simp] theorem State.setShiftRecord_blc (l : LaneNo) (r : ShiftRecord) : (s.setShiftRecord l r).blc = s.blc := rfl
@[simp] theorem State.setShiftRecord_dlp (l : LaneNo) (r : ShiftRecord) : (s.setShiftRecord l r).dlp = s.dlp := rfl
@[simp] theorem State.setShiftRecord_tau (l : LaneNo) (r : ShiftRecord) : (s.setShiftRecord l r).tau = s.tau := rfl
@[simp] theorem State.setShiftRecord_er (l : LaneNo) (r : ShiftRecord) : (s.setShiftRecord l r).er = s.er := rfl
@[simp] theorem State.setShiftRecord_ycs (l : LaneNo) (r : ShiftRecord) : (s.setShiftRecord l r).ycs = s.ycs := rfl
@[simp] theorem State.setShiftRecord_ss (l : LaneNo) (r : ShiftRecord) : (s.setShiftRecord l r).ss = s.ss := rfl
@[simp] theorem State.setShiftRecord_ownAddr (l : LaneNo) (r : ShiftRecord) : (s.setShiftRecord l r).ownAddr = s.ownAddr := rfl
@[simp] theorem State.setShiftRecord_pending (l : LaneNo) (r : ShiftRecord) : (s.setShiftRecord l r).pending = s.pending := rfl
@[simp] theorem State.setShiftRecord_ds_active (l : LaneNo) (r : ShiftRecord) : (s.setShiftRecord l r).ds.active = s.ds.active := rfl
@[simp] theorem State.setShiftRecord_ds_standby (l : LaneNo) (r : ShiftRecord) : (s.setShiftRecord l r).ds.standby = s.ds.standby := rfl
@[simp] theorem State.setShiftRecord_ds_swap (l : LaneNo) (r : ShiftRecord) : (s.setShiftRecord l r).ds.swap = s.ds.swap := rfl
@[simp] theorem State.setShiftRecord_ds_stepDue (l : LaneNo) (r : ShiftRecord) : (s.setShiftRecord l r).ds.stepDue = s.ds.stepDue := rfl
@[simp] theorem State.setShiftRecord_veh (l : LaneNo) (r : ShiftRecord) (x : Slot) : (s.setShiftRecord l r).veh x = s.veh x := rfl
@[simp] theorem State.setShiftRecord_lane (l : LaneNo) (r : ShiftRecord) (x : LaneNo) : (s.setShiftRecord l r).lane x = s.lane x := rfl
@[simp] theorem State.setShiftRecord_bay (l : LaneNo) (r : ShiftRecord) (x : BayNo) : (s.setShiftRecord l r).bay x = s.bay x := rfl
@[simp] theorem State.setShiftRecord_charger (l : LaneNo) (r : ShiftRecord) (x : ChargerNo) : (s.setShiftRecord l r).charger x = s.charger x := rfl
@[simp] theorem State.setShiftRecord_feeder (l : LaneNo) (r : ShiftRecord) (x : FeederNo) : (s.setShiftRecord l r).feeder x = s.feeder x := rfl
@[simp] theorem State.setShiftRecord_station (l : LaneNo) (r : ShiftRecord) (x : Addr) : (s.setShiftRecord l r).station x = s.station x := rfl
@[simp] theorem State.setShiftRecord_row (l : LaneNo) (r : ShiftRecord) (x : Nat) : (s.setShiftRecord l r).row x = s.row x := rfl
@[simp] theorem State.setShiftRecord_queue (l : LaneNo) (r : ShiftRecord) (x : QueueKind) : (s.setShiftRecord l r).queue x = s.queue x := by cases x <;> rfl

/-! ### modRow -/

@[simp] theorem State.modRow_fleet (i : Nat) (g : PlanRow → PlanRow) : (s.modRow i g).fleet = s.fleet := rfl
@[simp] theorem State.modRow_lanes (i : Nat) (g : PlanRow → PlanRow) : (s.modRow i g).lanes = s.lanes := rfl
@[simp] theorem State.modRow_waitList (i : Nat) (g : PlanRow → PlanRow) : (s.modRow i g).waitList = s.waitList := rfl
@[simp] theorem State.modRow_stc (i : Nat) (g : PlanRow → PlanRow) : (s.modRow i g).stc = s.stc := rfl
@[simp] theorem State.modRow_ca (i : Nat) (g : PlanRow → PlanRow) : (s.modRow i g).ca = s.ca := rfl
@[simp] theorem State.modRow_blc (i : Nat) (g : PlanRow → PlanRow) : (s.modRow i g).blc = s.blc := rfl
@[simp] theorem State.modRow_dlp (i : Nat) (g : PlanRow → PlanRow) : (s.modRow i g).dlp = s.dlp := rfl
@[simp] theorem State.modRow_tau (i : Nat) (g : PlanRow → PlanRow) : (s.modRow i g).tau = s.tau := rfl
@[simp] theorem State.modRow_er (i : Nat) (g : PlanRow → PlanRow) : (s.modRow i g).er = s.er := rfl
@[simp] theorem State.modRow_ycs (i : Nat) (g : PlanRow → PlanRow) : (s.modRow i g).ycs = s.ycs := rfl
@[simp] theorem State.modRow_ss (i : Nat) (g : PlanRow → PlanRow) : (s.modRow i g).ss = s.ss := rfl
@[simp] theorem State.modRow_ownAddr (i : Nat) (g : PlanRow → PlanRow) : (s.modRow i g).ownAddr = s.ownAddr := rfl
@[simp] theorem State.modRow_pending (i : Nat) (g : PlanRow → PlanRow) : (s.modRow i g).pending = s.pending := rfl
@[simp] theorem State.modRow_ds_standby (i : Nat) (g : PlanRow → PlanRow) : (s.modRow i g).ds.standby = s.ds.standby := rfl
@[simp] theorem State.modRow_ds_swap (i : Nat) (g : PlanRow → PlanRow) : (s.modRow i g).ds.swap = s.ds.swap := rfl
@[simp] theorem State.modRow_ds_shifts (i : Nat) (g : PlanRow → PlanRow) : (s.modRow i g).ds.shifts = s.ds.shifts := rfl
@[simp] theorem State.modRow_ds_stepDue (i : Nat) (g : PlanRow → PlanRow) : (s.modRow i g).ds.stepDue = s.ds.stepDue := rfl
@[simp] theorem State.modRow_veh (i : Nat) (g : PlanRow → PlanRow) (x : Slot) : (s.modRow i g).veh x = s.veh x := rfl
@[simp] theorem State.modRow_lane (i : Nat) (g : PlanRow → PlanRow) (x : LaneNo) : (s.modRow i g).lane x = s.lane x := rfl
@[simp] theorem State.modRow_bay (i : Nat) (g : PlanRow → PlanRow) (x : BayNo) : (s.modRow i g).bay x = s.bay x := rfl
@[simp] theorem State.modRow_charger (i : Nat) (g : PlanRow → PlanRow) (x : ChargerNo) : (s.modRow i g).charger x = s.charger x := rfl
@[simp] theorem State.modRow_feeder (i : Nat) (g : PlanRow → PlanRow) (x : FeederNo) : (s.modRow i g).feeder x = s.feeder x := rfl
@[simp] theorem State.modRow_station (i : Nat) (g : PlanRow → PlanRow) (x : Addr) : (s.modRow i g).station x = s.station x := rfl
@[simp] theorem State.modRow_shiftRecord (i : Nat) (g : PlanRow → PlanRow) (x : LaneNo) : (s.modRow i g).shiftRecord x = s.shiftRecord x := rfl
@[simp] theorem State.modRow_queue (i : Nat) (g : PlanRow → PlanRow) (x : QueueKind) : (s.modRow i g).queue x = s.queue x := by cases x <;> rfl

/-! ### raise -/

@[simp] theorem State.raise_fleet (f : EventFlag) : (s.raise f).fleet = s.fleet := rfl
@[simp] theorem State.raise_lanes (f : EventFlag) : (s.raise f).lanes = s.lanes := rfl
@[simp] theorem State.raise_waitList (f : EventFlag) : (s.raise f).waitList = s.waitList := rfl
@[simp] theorem State.raise_stc (f : EventFlag) : (s.raise f).stc = s.stc := rfl
@[simp] theorem State.raise_ca (f : EventFlag) : (s.raise f).ca = s.ca := rfl
@[simp] theorem State.raise_ds (f : EventFlag) : (s.raise f).ds = s.ds := rfl
@[simp] theorem State.raise_blc (f : EventFlag) : (s.raise f).blc = s.blc := rfl
@[simp] theorem State.raise_dlp (f : EventFlag) : (s.raise f).dlp = s.dlp := rfl
@[simp] theorem State.raise_tau (f : EventFlag) : (s.raise f).tau = s.tau := rfl
@[simp] theorem State.raise_ycs (f : EventFlag) : (s.raise f).ycs = s.ycs := rfl
@[simp] theorem State.raise_ss (f : EventFlag) : (s.raise f).ss = s.ss := rfl
@[simp] theorem State.raise_ownAddr (f : EventFlag) : (s.raise f).ownAddr = s.ownAddr := rfl
@[simp] theorem State.raise_pending (f : EventFlag) : (s.raise f).pending = s.pending := rfl
@[simp] theorem State.raise_er_deferred (f : EventFlag) : (s.raise f).er.deferred = s.er.deferred := rfl
@[simp] theorem State.raise_er_further (f : EventFlag) : (s.raise f).er.further = s.er.further := rfl
@[simp] theorem State.raise_veh (f : EventFlag) (x : Slot) : (s.raise f).veh x = s.veh x := rfl
@[simp] theorem State.raise_lane (f : EventFlag) (x : LaneNo) : (s.raise f).lane x = s.lane x := rfl
@[simp] theorem State.raise_bay (f : EventFlag) (x : BayNo) : (s.raise f).bay x = s.bay x := rfl
@[simp] theorem State.raise_charger (f : EventFlag) (x : ChargerNo) : (s.raise f).charger x = s.charger x := rfl
@[simp] theorem State.raise_feeder (f : EventFlag) (x : FeederNo) : (s.raise f).feeder x = s.feeder x := rfl
@[simp] theorem State.raise_station (f : EventFlag) (x : Addr) : (s.raise f).station x = s.station x := rfl
@[simp] theorem State.raise_shiftRecord (f : EventFlag) (x : LaneNo) : (s.raise f).shiftRecord x = s.shiftRecord x := rfl
@[simp] theorem State.raise_row (f : EventFlag) (x : Nat) : (s.raise f).row x = s.row x := rfl
@[simp] theorem State.raise_queue (f : EventFlag) (x : QueueKind) : (s.raise f).queue x = s.queue x := by cases x <;> rfl

/-! ### withPending -/

@[simp] theorem State.withPending_fleet (q : List Instr) : (s.withPending q).fleet = s.fleet := rfl
@[simp] theorem State.withPending_lanes (q : List Instr) : (s.withPending q).lanes = s.lanes := rfl
@[simp] theorem State.withPending_waitList (q : List Instr) : (s.withPending q).waitList = s.waitList := rfl
@[simp] theorem State.withPending_stc (q : List Instr) : (s.withPending q).stc = s.stc := rfl
@[simp] theorem State.withPending_ca (q : List Instr) : (s.withPending q).ca = s.ca := rfl
@[simp] theorem State.withPending_ds (q : List Instr) : (s.withPending q).ds = s.ds := rfl
@[simp] theorem State.withPending_blc (q : List Instr) : (s.withPending q).blc = s.blc := rfl
@[simp] theorem State.withPending_dlp (q : List Instr) : (s.withPending q).dlp = s.dlp := rfl
@[simp] theorem State.withPending_tau (q : List Instr) : (s.withPending q).tau = s.tau := rfl
@[simp] theorem State.withPending_er (q : List Instr) : (s.withPending q).er = s.er := rfl
@[simp] theorem State.withPending_ycs (q : List Instr) : (s.withPending q).ycs = s.ycs := rfl
@[simp] theorem State.withPending_ss (q : List Instr) : (s.withPending q).ss = s.ss := rfl
@[simp] theorem State.withPending_ownAddr (q : List Instr) : (s.withPending q).ownAddr = s.ownAddr := rfl
@[simp] theorem State.withPending_veh (q : List Instr) (x : Slot) : (s.withPending q).veh x = s.veh x := rfl
@[simp] theorem State.withPending_lane (q : List Instr) (x : LaneNo) : (s.withPending q).lane x = s.lane x := rfl
@[simp] theorem State.withPending_bay (q : List Instr) (x : BayNo) : (s.withPending q).bay x = s.bay x := rfl
@[simp] theorem State.withPending_charger (q : List Instr) (x : ChargerNo) : (s.withPending q).charger x = s.charger x := rfl
@[simp] theorem State.withPending_feeder (q : List Instr) (x : FeederNo) : (s.withPending q).feeder x = s.feeder x := rfl
@[simp] theorem State.withPending_station (q : List Instr) (x : Addr) : (s.withPending q).station x = s.station x := rfl
@[simp] theorem State.withPending_shiftRecord (q : List Instr) (x : LaneNo) : (s.withPending q).shiftRecord x = s.shiftRecord x := rfl
@[simp] theorem State.withPending_row (q : List Instr) (x : Nat) : (s.withPending q).row x = s.row x := rfl
@[simp] theorem State.withPending_queue (q : List Instr) (x : QueueKind) : (s.withPending q).queue x = s.queue x := by cases x <;> rfl

/-! ### What an update writes -/


@[simp] theorem State.setVeh_veh (i j : Slot) (r : Vehicle) : (s.setVeh i r).veh j = if i = j then r else s.veh j := by
  simp [State.setVeh, State.veh, Vector.get_eq_getElem, Vector.getElem_set, Fin.ext_iff]

theorem State.setVeh_same (i : Slot) : s.setVeh i (s.veh i) = s := by
  simp [State.setVeh, State.veh, Vector.get_eq_getElem]

theorem State.setVeh_setVeh (i : Slot) (r r' : Vehicle) : (s.setVeh i r).setVeh i r' = s.setVeh i r' := by
  simp [State.setVeh]

@[simp] theorem State.setLane_lane (i j : LaneNo) (r : Lane) : (s.setLane i r).lane j = if i = j then r else s.lane j := by
  simp [State.setLane, State.lane, Vector.get_eq_getElem, Vector.getElem_set, Fin.ext_iff]

theorem State.setLane_same (i : LaneNo) : s.setLane i (s.lane i) = s := by
  simp [State.setLane, State.lane, Vector.get_eq_getElem]

theorem State.setLane_setLane (i : LaneNo) (r r' : Lane) : (s.setLane i r).setLane i r' = s.setLane i r' := by
  simp [State.setLane]

@[simp] theorem State.setBay_bay (i j : BayNo) (r : Bay) : (s.setBay i r).bay j = if i = j then r else s.bay j := by
  simp [State.setBay, State.bay, Vector.get_eq_getElem, Vector.getElem_set, Fin.ext_iff]

theorem State.setBay_same (i : BayNo) : s.setBay i (s.bay i) = s := by
  simp [State.setBay, State.bay, Vector.get_eq_getElem]

theorem State.setBay_setBay (i : BayNo) (r r' : Bay) : (s.setBay i r).setBay i r' = s.setBay i r' := by
  simp [State.setBay]

@[simp] theorem State.setCharger_charger (i j : ChargerNo) (r : Charger) : (s.setCharger i r).charger j = if i = j then r else s.charger j := by
  simp [State.setCharger, State.charger, Vector.get_eq_getElem, Vector.getElem_set, Fin.ext_iff]

theorem State.setCharger_same (i : ChargerNo) : s.setCharger i (s.charger i) = s := by
  simp [State.setCharger, State.charger, Vector.get_eq_getElem]

theorem State.setCharger_setCharger (i : ChargerNo) (r r' : Charger) : (s.setCharger i r).setCharger i r' = s.setCharger i r' := by
  simp [State.setCharger]

@[simp] theorem State.setFeeder_feeder (i j : FeederNo) (r : Feeder) : (s.setFeeder i r).feeder j = if i = j then r else s.feeder j := by
  simp [State.setFeeder, State.feeder, Vector.get_eq_getElem, Vector.getElem_set, Fin.ext_iff]

theorem State.setFeeder_same (i : FeederNo) : s.setFeeder i (s.feeder i) = s := by
  simp [State.setFeeder, State.feeder, Vector.get_eq_getElem]

theorem State.setFeeder_setFeeder (i : FeederNo) (r r' : Feeder) : (s.setFeeder i r).setFeeder i r' = s.setFeeder i r' := by
  simp [State.setFeeder]

@[simp] theorem State.setStation_station (i j : Addr) (r : Station) : (s.setStation i r).station j = if i = j then r else s.station j := by
  simp [State.setStation, State.station, Vector.get_eq_getElem, Vector.getElem_set, Fin.ext_iff]

theorem State.setStation_same (i : Addr) : s.setStation i (s.station i) = s := by
  simp [State.setStation, State.station, Vector.get_eq_getElem]

theorem State.setStation_setStation (i : Addr) (r r' : Station) : (s.setStation i r).setStation i r' = s.setStation i r' := by
  simp [State.setStation]

@[simp] theorem State.setShiftRecord_shiftRecord (i j : LaneNo) (r : ShiftRecord) : (s.setShiftRecord i r).shiftRecord j = if i = j then r else s.shiftRecord j := by
  simp [State.setShiftRecord, State.shiftRecord, Vector.get_eq_getElem, Vector.getElem_set, Fin.ext_iff]

theorem State.setShiftRecord_same (i : LaneNo) : s.setShiftRecord i (s.shiftRecord i) = s := by
  simp [State.setShiftRecord, State.shiftRecord, Vector.get_eq_getElem]

theorem State.setShiftRecord_setShiftRecord (i : LaneNo) (r r' : ShiftRecord) : (s.setShiftRecord i r).setShiftRecord i r' = s.setShiftRecord i r' := by
  simp [State.setShiftRecord]

@[simp] theorem State.modRow_row (i j : Nat) (g : PlanRow → PlanRow) :
    (s.modRow i g).row j = if i = j then (s.row j).map g else s.row j := by
  simp only [State.modRow, State.row, List.getElem?_modify]
  split <;> simp

@[simp] theorem State.setQueue_queue (k j : QueueKind) (q : List Ticket) :
    (s.setQueue k q).queue j = if k = j then q else s.queue j := by
  cases k <;> cases j <;> simp [State.setQueue, State.queue]

@[simp] theorem State.setQueue_fleet (k : QueueKind) (q : List Ticket) : (s.setQueue k q).fleet = s.fleet := by cases k <;> rfl
@[simp] theorem State.setQueue_lanes (k : QueueKind) (q : List Ticket) : (s.setQueue k q).lanes = s.lanes := by cases k <;> rfl
@[simp] theorem State.setQueue_waitList (k : QueueKind) (q : List Ticket) : (s.setQueue k q).waitList = s.waitList := by cases k <;> rfl
@[simp] theorem State.setQueue_ca (k : QueueKind) (q : List Ticket) : (s.setQueue k q).ca = s.ca := by cases k <;> rfl
@[simp] theorem State.setQueue_ds (k : QueueKind) (q : List Ticket) : (s.setQueue k q).ds = s.ds := by cases k <;> rfl
@[simp] theorem State.setQueue_blc (k : QueueKind) (q : List Ticket) : (s.setQueue k q).blc = s.blc := by cases k <;> rfl
@[simp] theorem State.setQueue_dlp (k : QueueKind) (q : List Ticket) : (s.setQueue k q).dlp = s.dlp := by cases k <;> rfl
@[simp] theorem State.setQueue_tau (k : QueueKind) (q : List Ticket) : (s.setQueue k q).tau = s.tau := by cases k <;> rfl
@[simp] theorem State.setQueue_er (k : QueueKind) (q : List Ticket) : (s.setQueue k q).er = s.er := by cases k <;> rfl
@[simp] theorem State.setQueue_ycs (k : QueueKind) (q : List Ticket) : (s.setQueue k q).ycs = s.ycs := by cases k <;> rfl
@[simp] theorem State.setQueue_ss (k : QueueKind) (q : List Ticket) : (s.setQueue k q).ss = s.ss := by cases k <;> rfl
@[simp] theorem State.setQueue_ownAddr (k : QueueKind) (q : List Ticket) : (s.setQueue k q).ownAddr = s.ownAddr := by cases k <;> rfl
@[simp] theorem State.setQueue_pending (k : QueueKind) (q : List Ticket) : (s.setQueue k q).pending = s.pending := by cases k <;> rfl
@[simp] theorem State.setQueue_veh (k : QueueKind) (q : List Ticket) (x : Slot) : (s.setQueue k q).veh x = s.veh x := by
  cases k <;> rfl
@[simp] theorem State.setQueue_lane (k : QueueKind) (q : List Ticket) (x : LaneNo) : (s.setQueue k q).lane x = s.lane x := by
  cases k <;> rfl
@[simp] theorem State.setQueue_bay (k : QueueKind) (q : List Ticket) (x : BayNo) : (s.setQueue k q).bay x = s.bay x := by
  cases k <;> rfl
@[simp] theorem State.setQueue_charger (k : QueueKind) (q : List Ticket) (x : ChargerNo) : (s.setQueue k q).charger x = s.charger x := by
  cases k <;> rfl
@[simp] theorem State.setQueue_feeder (k : QueueKind) (q : List Ticket) (x : FeederNo) : (s.setQueue k q).feeder x = s.feeder x := by
  cases k <;> rfl
@[simp] theorem State.setQueue_station (k : QueueKind) (q : List Ticket) (x : Addr) : (s.setQueue k q).station x = s.station x := by
  cases k <;> rfl
@[simp] theorem State.setQueue_shiftRecord (k : QueueKind) (q : List Ticket) (x : LaneNo) : (s.setQueue k q).shiftRecord x = s.shiftRecord x := by
  cases k <;> rfl
@[simp] theorem State.setQueue_row (k : QueueKind) (q : List Ticket) (x : Nat) : (s.setQueue k q).row x = s.row x := by
  cases k <;> rfl

/-! ### The changes that read before they write -/

theorem State.modVeh_eq (i : Slot) (g : Vehicle → Vehicle) : s.modVeh i g = s.setVeh i (g (s.veh i)) := rfl

@[simp] theorem State.modVeh_veh (i j : Slot) (g : Vehicle → Vehicle) :
    (s.modVeh i g).veh j = if i = j then g (s.veh j) else s.veh j := by
  simp only [State.modVeh, State.setVeh_veh]
  split <;> simp_all

theorem State.modLane_eq (i : LaneNo) (g : Lane → Lane) : s.modLane i g = s.setLane i (g (s.lane i)) := rfl

@[simp] theorem State.modLane_lane (i j : LaneNo) (g : Lane → Lane) :
    (s.modLane i g).lane j = if i = j then g (s.lane j) else s.lane j := by
  simp only [State.modLane, State.setLane_lane]
  split <;> simp_all

theorem State.modBay_eq (i : BayNo) (g : Bay → Bay) : s.modBay i g = s.setBay i (g (s.bay i)) := rfl

@[simp] theorem State.modBay_bay (i j : BayNo) (g : Bay → Bay) :
    (s.modBay i g).bay j = if i = j then g (s.bay j) else s.bay j := by
  simp only [State.modBay, State.setBay_bay]
  split <;> simp_all

theorem State.modCharger_eq (i : ChargerNo) (g : Charger → Charger) : s.modCharger i g = s.setCharger i (g (s.charger i)) := rfl

@[simp] theorem State.modCharger_charger (i j : ChargerNo) (g : Charger → Charger) :
    (s.modCharger i g).charger j = if i = j then g (s.charger j) else s.charger j := by
  simp only [State.modCharger, State.setCharger_charger]
  split <;> simp_all

theorem State.modFeeder_eq (i : FeederNo) (g : Feeder → Feeder) : s.modFeeder i g = s.setFeeder i (g (s.feeder i)) := rfl

@[simp] theorem State.modFeeder_feeder (i j : FeederNo) (g : Feeder → Feeder) :
    (s.modFeeder i g).feeder j = if i = j then g (s.feeder j) else s.feeder j := by
  simp only [State.modFeeder, State.setFeeder_feeder]
  split <;> simp_all

theorem State.modStation_eq (i : Addr) (g : Station → Station) : s.modStation i g = s.setStation i (g (s.station i)) := rfl

@[simp] theorem State.modStation_station (i j : Addr) (g : Station → Station) :
    (s.modStation i g).station j = if i = j then g (s.station j) else s.station j := by
  simp only [State.modStation, State.setStation_station]
  split <;> simp_all

/-! ### The lanes to which a shift step is owed -/

@[simp] theorem State.oweStep_fleet (l : LaneNo) : (s.oweStep l).fleet = s.fleet := by unfold State.oweStep; split <;> rfl
@[simp] theorem State.oweStep_lanes (l : LaneNo) : (s.oweStep l).lanes = s.lanes := by unfold State.oweStep; split <;> rfl
@[simp] theorem State.oweStep_waitList (l : LaneNo) : (s.oweStep l).waitList = s.waitList := by unfold State.oweStep; split <;> rfl
@[simp] theorem State.oweStep_stc (l : LaneNo) : (s.oweStep l).stc = s.stc := by unfold State.oweStep; split <;> rfl
@[simp] theorem State.oweStep_ca (l : LaneNo) : (s.oweStep l).ca = s.ca := by unfold State.oweStep; split <;> rfl
@[simp] theorem State.oweStep_blc (l : LaneNo) : (s.oweStep l).blc = s.blc := by unfold State.oweStep; split <;> rfl
@[simp] theorem State.oweStep_dlp (l : LaneNo) : (s.oweStep l).dlp = s.dlp := by unfold State.oweStep; split <;> rfl
@[simp] theorem State.oweStep_tau (l : LaneNo) : (s.oweStep l).tau = s.tau := by unfold State.oweStep; split <;> rfl
@[simp] theorem State.oweStep_er (l : LaneNo) : (s.oweStep l).er = s.er := by unfold State.oweStep; split <;> rfl
@[simp] theorem State.oweStep_ycs (l : LaneNo) : (s.oweStep l).ycs = s.ycs := by unfold State.oweStep; split <;> rfl
@[simp] theorem State.oweStep_ss (l : LaneNo) : (s.oweStep l).ss = s.ss := by unfold State.oweStep; split <;> rfl
@[simp] theorem State.oweStep_ownAddr (l : LaneNo) : (s.oweStep l).ownAddr = s.ownAddr := by unfold State.oweStep; split <;> rfl
@[simp] theorem State.oweStep_pending (l : LaneNo) : (s.oweStep l).pending = s.pending := by unfold State.oweStep; split <;> rfl
@[simp] theorem State.oweStep_veh (l : LaneNo) (x : Slot) : (s.oweStep l).veh x = s.veh x := by
  unfold State.oweStep; split <;> rfl
@[simp] theorem State.oweStep_lane (l : LaneNo) (x : LaneNo) : (s.oweStep l).lane x = s.lane x := by
  unfold State.oweStep; split <;> rfl
@[simp] theorem State.oweStep_bay (l : LaneNo) (x : BayNo) : (s.oweStep l).bay x = s.bay x := by
  unfold State.oweStep; split <;> rfl
@[simp] theorem State.oweStep_charger (l : LaneNo) (x : ChargerNo) : (s.oweStep l).charger x = s.charger x := by
  unfold State.oweStep; split <;> rfl
@[simp] theorem State.oweStep_feeder (l : LaneNo) (x : FeederNo) : (s.oweStep l).feeder x = s.feeder x := by
  unfold State.oweStep; split <;> rfl
@[simp] theorem State.oweStep_station (l : LaneNo) (x : Addr) : (s.oweStep l).station x = s.station x := by
  unfold State.oweStep; split <;> rfl
@[simp] theorem State.oweStep_shiftRecord (l : LaneNo) (x : LaneNo) : (s.oweStep l).shiftRecord x = s.shiftRecord x := by
  unfold State.oweStep; split <;> rfl
@[simp] theorem State.oweStep_row (l : LaneNo) (x : Nat) : (s.oweStep l).row x = s.row x := by
  unfold State.oweStep; split <;> rfl

theorem State.oweStep_stepDue (l m : LaneNo) : m ∈ (s.oweStep l).ds.stepDue ↔ m = l ∨ m ∈ s.ds.stepDue := by
  unfold State.oweStep
  split
  · rename_i h; constructor
    · exact fun h' => .inr h'
    · rintro (rfl | h')
      · exact h
      · exact h'
  · simp

end Sys2Proof.Machine
end

