-- ==== Sys2Proof/Laws/Ops.lean ====
section
/-! SUPPORT. The shared operations: for each, what it can do, said once. A proof about a command cites these and unfolds none of
the operations. -/

namespace Sys2Proof.Machine

variable (s : State)

/-! ### Event flags (R173) -/

/-- The bit of a flag is its place in the list of R173. -/
theorem eventFlags_flagBit (f : EventFlag) : eventFlags[flagBit f]? = some f := by cases f <;> decide

theorem flagBit_lt (f : EventFlag) : flagBit f < 32 := by cases f <;> decide

theorem flagBit_injective {f g : EventFlag} (h : flagBit f = flagBit g) : f = g := by
  have hf := eventFlags_flagBit f
  rw [h, eventFlags_flagBit g] at hf
  exact (Option.some.inj hf).symm

/-- Raising a flag sets its bit of the event flag word and no other. -/
theorem State.raise_flag (f g : EventFlag) : (s.raise f).flag g = (s.flag g || decide (f = g)) := by
  have hg := flagBit_lt g
  have hi : decide (f = g) = decide (flagBit g = flagBit f) := by
    by_cases h : f = g
    · simp [h]
    · have : flagBit g ≠ flagBit f := fun e => h (flagBit_injective e.symm)
      simp [h, this]
  simp only [State.flag, State.raise, BitVec.getLsbD_or, hi]
  congr 1
  simp only [BitVec.getLsbD_shiftLeft, BitVec.getLsbD_one, hg, decide_true, Bool.true_and]
  by_cases h : flagBit g = flagBit f
  · simp [h]
  · simp only [h, decide_false, Bool.and_eq_false_iff]
    by_cases hlt : flagBit g < flagBit f
    · simp [hlt]
    · right; right; simp; omega

@[simp] theorem State.raise_flag_self (f : EventFlag) : (s.raise f).flag f = true := by simp [State.raise_flag]

/-- A flag that is set stays set when another is raised. -/
theorem State.raise_flag_of_flag {f g : EventFlag} (h : s.flag g = true) : (s.raise f).flag g = true := by
  simp [State.raise_flag, h]

/-! ### Faults, notices, directives, reports -/

/-- A fault takes an empty slot, and marks a taken one (R177). -/
theorem State.placeFault_er (c : FaultCode) :
    (s.placeFault c).er = match s.er.deferred with
      | none => { s.er with deferred := some c, further := false }
      | some _ => { s.er with further := true } := by
  unfold State.placeFault; split <;> simp_all

/-- A notice joins the notice FIFO in NORMAL when there is room, is dropped with NOTICE_DROP when there is none, and is not
generated in FALLBACK (R166). -/
theorem State.notify_cases (n : Notice) :
    s.ycs.mode = .fallback ∧ s.notify n = s
    ∨ s.ycs.mode = .normal ∧ 16 ≤ s.dlp.notices.length ∧ s.notify n = s.raise .noticeDrop
    ∨ s.ycs.mode = .normal ∧ s.dlp.notices.length < 16
        ∧ s.notify n = { s with dlp := { s.dlp with notices := s.dlp.notices ++ [n] } } := by
  unfold State.notify
  cases h : s.ycs.mode
  · by_cases hl : s.dlp.notices.length ≥ Config.noticeCapacity
    · exact .inr (.inl ⟨rfl, hl, by simp [hl]⟩)
    · exact .inr (.inr ⟨rfl, by simpa [Config.noticeCapacity] using hl, by simp [hl]⟩)
  · exact .inl ⟨rfl, rfl⟩

/-- A directive joins the berth directive FIFO, or finds it full and raises DIRECTIVE_DROP (R158). -/
theorem State.placeDirective_cases (d : Directive) :
    16 ≤ s.blc.originFifo.length ∧ s.placeDirective d = s.raise .directiveDrop
    ∨ s.blc.originFifo.length < 16
      ∧ s.placeDirective d = { s with blc := { s.blc with originFifo := s.blc.originFifo ++ [d] } } := by
  by_cases h : 16 ≤ s.blc.originFifo.length
  · exact .inl ⟨h, by simp [State.placeDirective, State.originFull, Config.originCapacity, h]⟩
  · exact .inr ⟨by omega, by simp [State.placeDirective, State.originFull, Config.originCapacity, h]⟩

/-- A directive to a station field: placed, or nothing when the field is absent. -/
theorem State.direct_cases (dest : Option Addr) (k : DirectiveKind) (p : List Byte) :
    dest = none ∧ s.direct dest k p = s ∨ ∃ a, dest = some a ∧ s.direct dest k p = s.placeDirective ⟨a, k, p⟩ := by
  cases dest with
  | none => exact .inl ⟨rfl, rfl⟩
  | some a => exact .inr ⟨a, rfl, rfl⟩

/-- A report joins the depot forward FIFO, or finds it full and raises FORWARD_DROP (R157, R166). -/
theorem State.forward_cases (r : Forwarded) :
    32 ≤ s.dlp.forwards.length ∧ s.forward r = s.raise .forwardDrop
    ∨ s.dlp.forwards.length < 32
      ∧ s.forward r = { s with dlp := { s.dlp with forwards := s.dlp.forwards ++ [r] } } := by
  by_cases h : 32 ≤ s.dlp.forwards.length
  · exact .inl ⟨h, by simp [State.forward, Config.depotForwardCapacity, h]⟩
  · exact .inr ⟨by omega, by simp [State.forward, Config.depotForwardCapacity, h]⟩

/-- A server directive joins the berth forward FIFO, or finds it full and raises FORWARD_DROP (R159). -/
theorem State.forwardDirective_cases (d : Directive) :
    16 ≤ s.blc.forwardFifo.length ∧ s.forwardDirective d = s.raise .forwardDrop
    ∨ s.blc.forwardFifo.length < 16
      ∧ s.forwardDirective d = { s with blc := { s.blc with forwardFifo := s.blc.forwardFifo ++ [d] } } := by
  by_cases h : 16 ≤ s.blc.forwardFifo.length
  · exact .inl ⟨h, by simp [State.forwardDirective, Config.berthForwardCapacity, h]⟩
  · exact .inr ⟨by omega, by simp [State.forwardDirective, Config.berthForwardCapacity, h]⟩

/-! ### Changes made one after another -/

@[simp] theorem forEach_nil {α : Type} (f : α → State → State) : forEach [] f s = s := rfl

@[simp] theorem forEach_cons {α : Type} (x : α) (list : List α) (f : α → State → State) :
    forEach (x :: list) f s = forEach list f (f x s) := rfl

theorem forEach_append {α : Type} (front back : List α) (f : α → State → State) :
    forEach (front ++ back) f s = forEach back f (forEach front f s) := by simp [forEach]

/-- What every change of a series keeps, the series keeps. -/
theorem forEach_keeps {α : Type} (P : State → Prop) (list : List α) (f : α → State → State) (s : State) (h0 : P s)
    (h : ∀ x ∈ list, ∀ t, P t → P (f x t)) : P (forEach list f s) := by
  induction list generalizing s with
  | nil => exact h0
  | cons x rest ih =>
    exact ih _ (h x (by simp) s h0) fun y hy t ht => h y (by simp [hy]) t ht

/-- A series in which no change applies changes nothing. -/
theorem forEach_none {α : Type} (list : List α) (f : α → State → State) (s : State) (h : ∀ x ∈ list, f x s = s) :
    forEach list f s = s := by
  induction list with
  | nil => rfl
  | cons x rest ih =>
    rw [forEach_cons, h x (by simp)]
    exact ih fun y hy => h y (by simp [hy])

/-- `upTo n` lists every number below `n`. -/
theorem mem_upTo {n : Nat} [NeZero n] (i : Fin n) : i ∈ upTo n :=
  List.mem_map.mpr ⟨i.val, List.mem_range.mpr i.isLt, Fin.ofNat_val_eq_self i⟩

/-! ### Queues of tickets (R60) -/

theorem State.insertTicket_mem (t u : Ticket) (q : List Ticket) : u ∈ s.insertTicket t q ↔ u = t ∨ u ∈ q := by
  induction q with
  | nil => simp [State.insertTicket]
  | cons x rest ih =>
    simp only [State.insertTicket]
    split
    · simp
    · simp only [List.mem_cons, ih]; tauto

theorem State.insertTicket_length (t : Ticket) (q : List Ticket) : (s.insertTicket t q).length = q.length + 1 := by
  induction q with
  | nil => rfl
  | cons x rest ih => simp only [State.insertTicket]; split <;> simp [ih]

/-- A ticket put in its place is added to the others, which keep their order. -/
theorem State.insertTicket_perm (t : Ticket) (q : List Ticket) : (s.insertTicket t q).Perm (t :: q) := by
  induction q with
  | nil => rfl
  | cons x rest ih =>
    simp only [State.insertTicket]
    split
    · rfl
    · exact (ih.cons x).trans (.swap t x rest)

/-- The tickets that wrap at a minute advance are moved within their queue, and none is lost (R60). -/
theorem State.requeueWrapped_perm (k : QueueKind) : ((s.requeueWrapped k).queue k).Perm (s.queue k) := by
  have moved : ∀ (wrapped others : List Ticket),
      (wrapped.foldl (fun q t => s.insertTicket t q) others).Perm (wrapped ++ others) := by
    intro wrapped
    induction wrapped with
    | nil => intro others; rfl
    | cons t rest ih =>
      intro others
      exact (ih _).trans (((s.insertTicket_perm t others).append_left rest).trans List.perm_middle)
  simp only [State.requeueWrapped, State.setQueue_queue, if_true]
  refine (moved _ _).trans ?_
  convert List.filter_append_perm (fun t => decide (s.waiting t = 0)) (s.queue k) using 2
  simp

theorem State.requeueWrapped_queue_ne {j k : QueueKind} (h : k ≠ j) : (s.requeueWrapped k).queue j = s.queue j := by
  simp [State.requeueWrapped, h]

/-- A ticket that enters a queue is in it, WAITING, and its vehicle is SERVICE in the queue (R60, R61). -/
theorem State.enqueue_spec (t : Ticket) :
    { t with state := .waiting } ∈ (s.enqueue t).queue t.kind
    ∧ (s.enqueue t).veh t.slot = { s.veh t.slot with state := .service, location := .queue t.kind } := by
  constructor
  · simp [State.enqueue, State.modVeh_eq, State.insertTicket_mem]
  · simp [State.enqueue, State.modVeh_eq]

/-! ### The depot link (R165, R176) -/

/-- While a soft reset is due the depot link has nothing to send. -/
theorem State.nextSource_due (h : s.dlp.reset = .due) : s.nextSource = none := by simp [State.nextSource, h]

/-! ### A choice among candidates (R47) -/

/-- The best choice of a list is one of the list. -/
theorem bestChoice_mem (list : List Choice) (c : Choice) (h : bestChoice list = some c) : c ∈ list := by
  suffices ∀ (l : List Choice) (best : Option Choice),
      l.foldl (fun best c => match best with
        | none => some c
        | some b => if c.better b then some c else some b) best = some c → c ∈ l ∨ best = some c by
    rcases this list none h with h' | h'
    · exact h'
    · cases h'
  intro l
  induction l with
  | nil => intro best hb; exact .inr hb
  | cons x rest ih =>
    intro best hb
    rw [List.foldl_cons] at hb
    rcases ih _ hb with h' | h'
    · exact .inl (List.mem_cons_of_mem _ h')
    · cases best with
      | none => exact .inl (by simp at h'; simp [h'])
      | some b =>
        simp only at h'
        split at h'
        · exact .inl (by simp at h'; simp [h'])
        · exact .inr h'

end Sys2Proof.Machine
end

