-- ==== Sys2Proof/Laws/Frame.lean ====
section
/-! SUPPORT. The frame of everything that the yard, the service, the charging and the pull-out do: `s.Beside t` says that `t`
differs from `s` in those blocks only, in what they have raised, noticed and ordered, and in nothing else. -/

namespace Sys2Proof.Machine

/-- `t` differs from `s` in the dynamic records of the yard, the service, the charging and the departures only. Beside those,
flags may have been raised, notices joined the notice FIFO in NORMAL, and directives joined the berth directive FIFO. -/
structure State.Beside (s t : State) : Prop where
  ycs : t.ycs = s.ycs
  tau : t.tau = s.tau
  ss : t.ss = s.ss
  ownAddr : t.ownAddr = s.ownAddr
  pending : t.pending = s.pending
  configuration : t.configuration = s.configuration
  dlp : t.dlp = { s.dlp with notices := t.dlp.notices }
  blc : t.blc = { s.blc with originFifo := t.blc.originFifo }
  er : t.er = { s.er with flags := t.er.flags }
  flags : ∀ f, s.flag f = true → t.flag f = true
  notices : s.dlp.notices <+: t.dlp.notices
  noticesBounded : s.dlp.notices.length ≤ 16 → t.dlp.notices.length ≤ 16
  quiet : s.ycs.mode = .fallback → t.dlp.notices = s.dlp.notices
  origin : s.blc.originFifo <+: t.blc.originFifo
  originBounded : s.blc.originFifo.length ≤ 16 → t.blc.originFifo.length ≤ 16

variable {s t u : State}

theorem State.Beside.refl (s : State) : s.Beside s :=
  ⟨rfl, rfl, rfl, rfl, rfl, rfl, rfl, rfl, rfl, fun _ h => h, List.prefix_rfl, id, fun _ => rfl, List.prefix_rfl, id⟩

theorem State.Beside.trans (h : s.Beside t) (k : t.Beside u) : s.Beside u where
  ycs := k.ycs.trans h.ycs
  tau := k.tau.trans h.tau
  ss := k.ss.trans h.ss
  ownAddr := k.ownAddr.trans h.ownAddr
  pending := k.pending.trans h.pending
  configuration := k.configuration.trans h.configuration
  dlp := by rw [k.dlp, h.dlp]
  blc := by rw [k.blc, h.blc]
  er := by rw [k.er, h.er]
  flags := fun f hf => k.flags f (h.flags f hf)
  notices := h.notices.trans k.notices
  noticesBounded := fun hb => k.noticesBounded (h.noticesBounded hb)
  quiet := fun hm => (k.quiet (h.ycs ▸ hm)).trans (h.quiet hm)
  origin := h.origin.trans k.origin
  originBounded := fun hb => k.originBounded (h.originBounded hb)

/-- What the relation leaves of the station table. -/
theorem State.Beside.station (h : s.Beside t) (a : Addr) : t.station a = s.station a := by
  unfold State.station; rw [h.blc]

/-- A change of the yard's own records alone. -/
theorem State.Beside.of_eq (hy : t.ycs = s.ycs) (ht : t.tau = s.tau) (hs : t.ss = s.ss) (ho : t.ownAddr = s.ownAddr)
    (hp : t.pending = s.pending) (hc : t.configuration = s.configuration) (hd : t.dlp = s.dlp) (hb : t.blc = s.blc)
    (he : t.er = s.er) : s.Beside t :=
  ⟨hy, ht, hs, ho, hp, hc, by rw [hd], by rw [hb], by rw [he], fun f => by unfold State.flag; rw [he]; exact id,
    by rw [hd], by rw [hd]; exact id, fun _ => by rw [hd], by rw [hb], by rw [hb]; exact id⟩

/-! ### Updates -/

theorem State.Beside.setVeh (h : s.Beside t) {v : Slot} {r : Vehicle} : s.Beside (t.setVeh v r) :=
  h.trans (.of_eq rfl rfl rfl rfl rfl rfl rfl rfl rfl)

theorem State.Beside.modVeh (h : s.Beside t) {v : Slot} {f : Vehicle → Vehicle} : s.Beside (t.modVeh v f) := h.setVeh

theorem State.Beside.waitList (h : s.Beside t) {w : List WaitEntry} : s.Beside { t with waitList := w } :=
  h.trans (.of_eq rfl rfl rfl rfl rfl rfl rfl rfl rfl)

theorem State.Beside.ds (h : s.Beside t) {d : Ds} : s.Beside { t with ds := d } :=
  h.trans (.of_eq rfl rfl rfl rfl rfl rfl rfl rfl rfl)

theorem State.Beside.setQueue (h : s.Beside t) {k : QueueKind} {q : List Ticket} : s.Beside (t.setQueue k q) := by
  cases k <;> exact h.trans (.of_eq rfl rfl rfl rfl rfl rfl rfl rfl rfl)

theorem State.Beside.modRow (h : s.Beside t) {i : Nat} {f : PlanRow → PlanRow} : s.Beside (t.modRow i f) := h.ds

theorem State.Beside.setShiftRecord (h : s.Beside t) {l : LaneNo} {r : ShiftRecord} : s.Beside (t.setShiftRecord l r) :=
  h.ds

theorem State.Beside.oweStep (h : s.Beside t) {l : LaneNo} : s.Beside (t.oweStep l) := by
  unfold State.oweStep; split
  · exact h
  · exact h.ds

/-- A configuration list stays as it was when the record written keeps its static part. -/
theorem map_set_same {α β : Type} {n : Nat} (xs : Vector α n) (i : Fin n) (x : α) (g : α → β) (h : g x = g (xs.get i)) :
    (xs.set i.val x i.isLt).map g = xs.map g := by
  rw [Vector.map_set, h, Vector.get_eq_getElem]
  have : g (xs[i.val]) = (xs.map g)[i.val] := by simp
  rw [this, Vector.set_getElem_self]

theorem State.Beside.setLane (h : s.Beside t) {l : LaneNo} {r : Lane} (hr : r.cfg = (t.lane l).cfg) :
    s.Beside (t.setLane l r) :=
  h.trans (.of_eq rfl rfl rfl rfl rfl
    (by simp only [State.configuration, State.setLane]; rw [map_set_same _ l _ _ hr]) rfl rfl rfl)

theorem State.Beside.modLane (h : s.Beside t) {l : LaneNo} {f : Lane → Lane} (hf : ∀ r, (f r).cfg = r.cfg) :
    s.Beside (t.modLane l f) := h.setLane (hf _)

theorem State.Beside.setBay (h : s.Beside t) {b : BayNo} {r : Bay} (hr : r.cfg = (t.bay b).cfg) :
    s.Beside (t.setBay b r) :=
  h.trans (.of_eq rfl rfl rfl rfl rfl
    (by simp only [State.configuration, State.setBay]; rw [map_set_same _ b _ _ hr]) rfl rfl rfl)

theorem State.Beside.modBay (h : s.Beside t) {b : BayNo} {f : Bay → Bay} (hf : ∀ r, (f r).cfg = r.cfg) :
    s.Beside (t.modBay b f) := h.setBay (hf _)

theorem State.Beside.setCharger (h : s.Beside t) {c : ChargerNo} {r : Charger} (hr : r.cfg = (t.charger c).cfg) :
    s.Beside (t.setCharger c r) :=
  h.trans (.of_eq rfl rfl rfl rfl rfl
    (by simp only [State.configuration, State.setCharger]; rw [map_set_same _ c _ _ hr]) rfl rfl rfl)

theorem State.Beside.modCharger (h : s.Beside t) {c : ChargerNo} {f : Charger → Charger} (hf : ∀ r, (f r).cfg = r.cfg) :
    s.Beside (t.modCharger c f) := h.setCharger (hf _)

theorem State.Beside.setFeeder (h : s.Beside t) {i : FeederNo} {r : Feeder} (hr : r.cfg = (t.feeder i).cfg) :
    s.Beside (t.setFeeder i r) :=
  h.trans (.of_eq rfl rfl rfl rfl rfl
    (by simp only [State.configuration, State.setFeeder]; rw [map_set_same _ i _ _ hr]) rfl rfl rfl)

theorem State.Beside.modFeeder (h : s.Beside t) {i : FeederNo} {f : Feeder → Feeder} (hf : ∀ r, (f r).cfg = r.cfg) :
    s.Beside (t.modFeeder i f) := h.setFeeder (hf _)

/-! ### Shared operations -/

theorem State.Beside.raise (h : s.Beside t) {f : EventFlag} : s.Beside (t.raise f) :=
  h.trans ⟨rfl, rfl, rfl, rfl, rfl, rfl, rfl, rfl, rfl, fun _ hg => t.raise_flag_of_flag hg, List.prefix_rfl, id,
    fun _ => rfl, List.prefix_rfl, id⟩

theorem State.Beside.notify (h : s.Beside t) {n : Notice} : s.Beside (t.notify n) := by
  rcases t.notify_cases n with ⟨_, e⟩ | ⟨_, _, e⟩ | ⟨hm, hl, e⟩ <;> rw [e]
  · exact h
  · exact h.raise
  · exact h.trans ⟨rfl, rfl, rfl, rfl, rfl, rfl, rfl, rfl, rfl, fun _ hg => hg, List.prefix_append _ _,
      fun _ => by simp; omega, fun hf => by simp [hm] at hf, List.prefix_rfl, id⟩

theorem State.Beside.placeDirective (h : s.Beside t) {d : Directive} : s.Beside (t.placeDirective d) := by
  rcases t.placeDirective_cases d with ⟨_, e⟩ | ⟨hl, e⟩ <;> rw [e]
  · exact h.raise
  · exact h.trans ⟨rfl, rfl, rfl, rfl, rfl, rfl, rfl, rfl, rfl, fun _ hg => hg, List.prefix_rfl, id, fun _ => rfl,
      List.prefix_append _ _, fun _ => by simp; omega⟩

theorem State.Beside.direct (h : s.Beside t) {dest : Option Addr} {k : DirectiveKind} {p : List Byte} :
    s.Beside (t.direct dest k p) := by
  cases dest
  · exact h
  · exact .placeDirective h

theorem State.Beside.yardConflict (h : s.Beside t) {v : Slot} {before : VehicleState} {cause : Nat} :
    s.Beside (t.yardConflict v before cause) := by
  unfold State.yardConflict
  exact .notify (.raise h)

theorem State.Beside.forEach {α : Type} (h : s.Beside t) {list : List α} {f : α → State → State}
    (hf : ∀ x ∈ list, ∀ u, s.Beside u → s.Beside (f x u)) : s.Beside (Machine.forEach list f t) :=
  forEach_keeps s.Beside list f t h hf

/-! ### Yard Map -/

theorem State.Beside.setpoint (h : s.Beside t) {c : ChargerNo} {kw : Nat} {placed : Bool} :
    s.Beside (t.setpoint c kw placed) := by
  unfold State.setpoint
  repeat' split
  · exact .modCharger h (by exact fun _ => rfl)
  · exact .modCharger (.raise h) (by exact fun _ => rfl)
  · exact .modCharger (.placeDirective h) (by exact fun _ => rfl)
  · exact .modCharger h (by exact fun _ => rfl)

theorem State.Beside.withdrawGrant (h : s.Beside t) {c : ChargerNo} : s.Beside (t.withdrawGrant c) := by
  unfold State.withdrawGrant
  split
  · exact .modCharger (.setpoint h) (by exact fun _ => rfl)
  · exact .modCharger h (by exact fun _ => rfl)

theorem State.Beside.disconnect (h : s.Beside t) {c : ChargerNo} : s.Beside (t.disconnect c) := by
  unfold State.disconnect
  exact .modCharger (.withdrawGrant (.modCharger h (by exact fun _ => rfl))) (by exact fun _ => rfl)

theorem State.Beside.recheckCharger (h : s.Beside t) {c : ChargerNo} : s.Beside (t.recheckCharger c) := by
  unfold State.recheckCharger
  repeat' split
  · exact h
  · exact h
  · exact .disconnect h

theorem State.Beside.recheckChargers (h : s.Beside t) : s.Beside (t.recheckChargers) := by
  unfold State.recheckChargers
  exact .forEach h fun c _ _ hu => .recheckCharger hu

theorem State.Beside.testEntry (h : s.Beside t) {l : LaneNo} {i : Nat} : s.Beside (t.testEntry l i) := by
  unfold State.testEntry
  repeat' split
  · exact h
  · exact h
  · exact .modVeh h

theorem State.Beside.testLane (h : s.Beside t) {l : LaneNo} : s.Beside (t.testLane l) := by
  unfold State.testLane
  exact .forEach h fun i _ _ hu => .testEntry hu

theorem State.Beside.testAllLanes (h : s.Beside t) : s.Beside (t.testAllLanes) := by
  unfold State.testAllLanes
  exact .forEach h fun l _ _ hu => .testLane hu

theorem State.Beside.writeEntries (h : s.Beside t) {l : LaneNo} {e : List Entry} : s.Beside (t.writeEntries l e) := by
  unfold State.writeEntries
  exact .recheckChargers (.oweStep (.modLane h (by exact fun _ => rfl)))

theorem State.Beside.addAtTail (h : s.Beside t) {l : LaneNo} {e : Entry} : s.Beside (t.addAtTail l e) := by
  unfold State.addAtTail
  exact .writeEntries h

theorem State.Beside.addAtJoinEnd (h : s.Beside t) {l : LaneNo} {e : Entry} : s.Beside (t.addAtJoinEnd l e) := by
  unfold State.addAtJoinEnd
  split
  · exact .addAtTail h
  · exact .writeEntries h

theorem State.Beside.clearMarksAfter (h : s.Beside t) {v : Slot} {x : Standing} : s.Beside (t.clearMarksAfter v x) := by
  have h1 : s.Beside (if x = .expected then t.modVeh v fun r => { r with shift := false } else t) := by
    split
    · exact .modVeh h
    · exact h
  unfold State.clearMarksAfter
  extract_lets a
  split
  · exact h1
  · exact .modVeh h1

theorem State.Beside.removeEntry (h : s.Beside t) {l : LaneNo} {v : Slot} : s.Beside (t.removeEntry l v) := by
  unfold State.removeEntry
  split
  · exact h
  · exact .clearMarksAfter (.writeEntries (.modLane h (by exact fun _ => rfl)))

theorem State.Beside.removeEntries (h : s.Beside t) {v : Slot} {keep : Option LaneNo} : s.Beside (t.removeEntries v keep) := by
  unfold State.removeEntries
  refine .forEach h fun l _ _ hu => ?_
  split
  · exact hu
  · exact .removeEntry hu

/-! ### Placement Engine -/

theorem State.Beside.leaveWaitList (h : s.Beside t) {v : Slot} : s.Beside (t.leaveWaitList v) := by
  unfold State.leaveWaitList
  exact .waitList h

theorem State.Beside.reserve (h : s.Beside t) {v : Slot} {c : Choice} {o : Origin} : s.Beside (t.reserve v c o) := by
  unfold State.reserve
  extract_lets p a b d e f
  have hd : s.Beside d := .modVeh (.leaveWaitList (.addAtJoinEnd h))
  have he : s.Beside e := by
    unfold e
    split
    · exact .raise hd
    · exact hd
  exact .notify (.direct he)

theorem State.Beside.joinWaitList (h : s.Beside t) {v : Slot} {o : Origin} : s.Beside (t.joinWaitList v o) := by
  unfold State.joinWaitList
  exact .notify (.raise (.modVeh (.waitList h)))

theorem State.Beside.tryWaiting (h : s.Beside t) {w : WaitEntry} : s.Beside (t.tryWaiting w) := by
  unfold State.tryWaiting
  split
  · exact .reserve h
  · exact h

theorem State.Beside.retry (h : s.Beside t) : s.Beside (t.retry) := by
  unfold State.retry
  exact .forEach h fun w _ _ hu => .tryWaiting hu

theorem State.Beside.requestPlacement (h : s.Beside t) {v : Slot} {o : Origin} : s.Beside (t.requestPlacement v o) := by
  unfold State.requestPlacement
  repeat' split
  · exact .tryWaiting h
  · exact .reserve h
  · exact .joinWaitList h
  · exact .yardConflict h

theorem State.Beside.reserveShunt (h : s.Beside t) {b : Slot} {o : LaneNo} {c : Choice} : s.Beside (t.reserveShunt b o c) := by
  unfold State.reserveShunt
  exact .notify (.direct (.recheckChargers (.modVeh (.addAtJoinEnd h))))

/-! ### Service Turn Controller -/

theorem State.Beside.enqueue (h : s.Beside t) {k : Ticket} : s.Beside (t.enqueue k) := by
  unfold State.enqueue
  exact .modVeh (.setQueue h)

theorem State.Beside.dequeue (h : s.Beside t) {k : QueueKind} {v : Slot} : s.Beside (t.dequeue k v) := by
  unfold State.dequeue
  exact .setQueue h

theorem State.Beside.requeueWrapped (h : s.Beside t) {k : QueueKind} : s.Beside (t.requeueWrapped k) := by
  unfold State.requeueWrapped
  exact .setQueue h

theorem State.Beside.callToBay (h : s.Beside t) {b : BayNo} {k : Ticket} : s.Beside (t.callToBay b k) := by
  unfold State.callToBay
  exact .direct (.modVeh (.modBay (.dequeue h) (by exact fun _ => rfl)))

theorem State.Beside.choose (h : s.Beside t) {b : BayNo} : s.Beside (t.choose b) := by
  unfold State.choose
  repeat' split
  · exact .callToBay h
  · exact h
  · exact h

theorem State.Beside.chooseKind (h : s.Beside t) {k : QueueKind} : s.Beside (t.chooseKind k) := by
  unfold State.chooseKind
  refine .forEach h fun b _ _ hu => ?_
  split
  · exact .choose hu
  · exact hu

theorem State.Beside.chooseAll (h : s.Beside t) : s.Beside (t.chooseAll) := by
  unfold State.chooseAll
  exact .forEach h fun b _ _ hu => .choose hu

theorem State.Beside.chooseDue (h : s.Beside t) {before : State} {freed : Option BayNo} :
    s.Beside (t.chooseDue before freed) := by
  unfold State.chooseDue
  refine .forEach h fun b _ _ hu => ?_
  split
  · exact .choose hu
  · exact hu

theorem State.Beside.requestTicket (h : s.Beside t) {v : Slot} {k : QueueKind} {skipped : State → State}
    (hs : ∀ u, s.Beside u → s.Beside (skipped u)) : s.Beside (t.requestTicket v k skipped) := by
  unfold State.requestTicket
  repeat' split
  · exact .yardConflict h
  · exact hs _ (State.Beside.raise h)
  · exact .enqueue h

theorem State.Beside.requestWash (h : s.Beside t) {v : Slot} {o : Origin} : s.Beside (t.requestWash v o) := by
  unfold State.requestWash
  exact .requestTicket h fun _ hu => .requestPlacement hu

theorem State.Beside.afterFuel (h : s.Beside t) {v : Slot} {o : Origin} : s.Beside (t.afterFuel v o) := by
  unfold State.afterFuel
  split
  · exact .requestWash h
  · exact .requestPlacement h

theorem State.Beside.requestFuel (h : s.Beside t) {v : Slot} {o : Origin} : s.Beside (t.requestFuel v o) := by
  unfold State.requestFuel
  exact .requestTicket h fun _ hu => .afterFuel hu

theorem State.Beside.stageEnded (h : s.Beside t) {v : Slot} {k : QueueKind} : s.Beside (t.stageEnded v k) := by
  cases k
  · exact .afterFuel h
  · exact .requestPlacement h

theorem State.Beside.releaseBay (h : s.Beside t) {b : BayNo} {x : BayState} : s.Beside (t.releaseBay b x) := by
  unfold State.releaseBay
  exact .modBay h (by exact fun _ => rfl)

theorem State.Beside.startBay (h : s.Beside t) {b : BayNo} {v : Slot} : s.Beside (t.startBay b v) := by
  unfold State.startBay
  exact .direct h

theorem State.Beside.serve (h : s.Beside t) {b : BayNo} {k : Ticket} : s.Beside (t.serve b k) := by
  unfold State.serve
  exact .startBay (.modVeh (.modBay h (by exact fun _ => rfl)))

theorem State.Beside.serveWaiting (h : s.Beside t) {b : BayNo} {k : Ticket} : s.Beside (t.serveWaiting b k) := by
  unfold State.serveWaiting
  exact .serve (.modBay (.dequeue h) (by exact fun _ => rfl))

theorem State.Beside.returnTicket (h : s.Beside t) {b : BayNo} : s.Beside (t.returnTicket b) := by
  unfold State.returnTicket
  split
  · exact .enqueue h
  · exact h

theorem State.Beside.bayArrive (h : s.Beside t) {b : BayNo} {v : Slot} : s.Beside (t.bayArrive b v) := by
  unfold State.bayArrive
  dsimp only
  repeat' split
  all_goals first
    | with_reducible exact h
    | with_reducible exact .raise h
    | with_reducible exact .serve h
    | with_reducible exact .serveWaiting h
    | with_reducible exact .chooseKind (.serveWaiting (.returnTicket h))

theorem State.Beside.washDone (h : s.Beside t) {b : BayNo} {v : Slot} : s.Beside (t.washDone b v) := by
  unfold State.washDone
  split
  · exact h
  · exact .modVeh h

theorem State.Beside.bayDone (h : s.Beside t) {b : BayNo} : s.Beside (t.bayDone b) := by
  unfold State.bayDone
  split
  · exact .chooseDue (.releaseBay (.stageEnded (.washDone (.modBay h (by exact fun _ => rfl)))))
  · exact .chooseDue (.releaseBay (.stageEnded (.washDone (.modBay h (by exact fun _ => rfl)))))
  · exact h

theorem State.Beside.latchOut (h : s.Beside t) {b : BayNo} {x : BayOutCause} {tag : Nat} : s.Beside (t.latchOut b x tag) := by
  unfold State.latchOut
  exact .notify (.raise (.releaseBay h))

theorem State.Beside.secondFault (h : s.Beside t) {b : BayNo} {k : Ticket} : s.Beside (t.secondFault b k) := by
  unfold State.secondFault
  exact .chooseDue (.latchOut (.stageEnded (.modBay h (by exact fun _ => rfl))))

theorem State.Beside.bayFault (h : s.Beside t) {b : BayNo} : s.Beside (t.bayFault b) := by
  unfold State.bayFault
  split
  · split
    · exact .modBay h (by exact fun _ => rfl)
    · exact .secondFault h
  · exact .secondFault h
  · exact .chooseKind (.latchOut (.returnTicket h))
  · exact h

theorem State.Beside.noShow (h : s.Beside t) {b : BayNo} : s.Beside (t.noShow b) := by
  unfold State.noShow
  split
  · split
    · exact .chooseDue (.releaseBay (.enqueue h))
    · exact .chooseDue (.releaseBay (.stageEnded (.notify (.raise (.modBay h (by exact fun _ => rfl))))))
  · exact h

theorem State.Beside.retryBay (h : s.Beside t) {b : BayNo} : s.Beside (t.retryBay b) := by
  unfold State.retryBay
  split
  · exact .startBay (.modBay h (by exact fun _ => rfl))
  · exact h

theorem State.Beside.overstayed (h : s.Beside t) {b : BayNo} : s.Beside (t.overstayed b) := by
  unfold State.overstayed
  split
  · exact h
  · extract_lets m a
    have ha : s.Beside a := .modBay h (by exact fun _ => rfl)
    split
    · exact ha
    · exact .raise ha

theorem State.Beside.skipWashes (h : s.Beside t) : s.Beside (t.skipWashes) := by
  unfold State.skipWashes
  split
  · exact .forEach h fun k _ _ hu => .stageEnded (.raise (.dequeue hu))
  · exact h

theorem State.Beside.serviceAdvance (h : s.Beside t) : s.Beside (t.serviceAdvance) := by
  unfold State.serviceAdvance
  exact .chooseAll (.skipWashes h)

theorem State.Beside.withdrawFromBay (h : s.Beside t) {b : BayNo} {v : Slot} : s.Beside (t.withdrawFromBay b v) := by
  unfold State.withdrawFromBay
  split
  · exact .choose (.releaseBay h)
  · exact h

theorem State.Beside.withdrawTicket (h : s.Beside t) {v : Slot} : s.Beside (t.withdrawTicket v) := by
  unfold State.withdrawTicket
  exact .forEach (.dequeue (.dequeue h)) fun b _ _ hu => .withdrawFromBay hu

/-! ### Charge Allocator -/

theorem State.Beside.connect (h : s.Beside t) {c : ChargerNo} {x : Connection} : s.Beside (t.connect c x) := by
  unfold State.connect
  split
  · exact h
  · exact .modCharger (.withdrawGrant (.modCharger h (by exact fun _ => rfl))) (by exact fun _ => rfl)
  · exact .disconnect h

theorem State.Beside.chargerReport (h : s.Beside t) {c : ChargerNo} {tagged : Bool} {slot : Option Slot} {soc power : Nat}
    {fault : Bool} : s.Beside (t.chargerReport c tagged slot soc power fault) := by
  unfold State.chargerReport
  extract_lets a b before connection d e f
  have ha : s.Beside a := .modCharger h (by exact fun _ => rfl)
  have hb : s.Beside b := by
    unfold b
    split
    · exact .modVeh ha
    · exact ha
  have hd : s.Beside d := by
    unfold d
    split
    · exact .raise hb
    · exact hb
  have he : s.Beside e := .connect hd
  have hf : s.Beside f := by
    unfold f
    split
    · exact .withdrawGrant he
    · exact he
  exact .modCharger hf (by exact fun _ => rfl)

theorem State.Beside.meterReport (h : s.Beside t) {f : FeederNo} {draw : Nat} : s.Beside (t.meterReport f draw) := by
  unfold State.meterReport
  exact .modFeeder h (by exact fun _ => rfl)

theorem State.Beside.chargingSilenced (h : s.Beside t) {a : Addr} : s.Beside (t.chargingSilenced a) := by
  unfold State.chargingSilenced
  refine .forEach (.forEach h fun c _ u hu => ?_) fun f _ u hu => ?_
  · split
    · exact .modCharger hu (by exact fun _ => rfl)
    · exact hu
  · split
    · exact .modFeeder hu (by exact fun _ => rfl)
    · exact hu

theorem State.Beside.cancelHolds (h : s.Beside t) {f : FeederNo} : s.Beside (t.cancelHolds f) := by
  unfold State.cancelHolds
  exact .forEach h fun c _ _ hu => .modCharger hu (by exact fun _ => rfl)

theorem State.Beside.roundStep2 (h : s.Beside t) {f : FeederNo} {drawn : Nat} : s.Beside (t.roundStep2 f drawn) := by
  unfold State.roundStep2
  extract_lets r after a
  have ha : s.Beside a := .modFeeder h (by exact fun _ => rfl)
  split
  · exact h
  · rcases after with _ | _ | _
    · exact .cancelHolds ha
    · exact .notify (.raise (.cancelHolds ha))
    · exact .notify (.raise (.forEach (.cancelHolds ha) fun c _ _ hu => .withdrawGrant hu))

theorem State.Beside.markFull (h : s.Beside t) {f : FeederNo} : s.Beside (t.markFull f) := by
  unfold State.markFull
  refine .forEach h fun c _ _ hu => ?_
  split
  · split
    · exact .modCharger hu (by exact fun _ => rfl)
    · exact hu
  · exact hu

theorem State.Beside.walk (h : s.Beside t) {remaining : Nat} {list : List Candidate} : s.Beside (t.walk remaining list) := by
  induction list generalizing t remaining with
  | nil => exact h
  | cons a rest ih =>
    refine ih (.modCharger h fun r => ?_)
    unfold grantedCharger
    split <;> rfl

theorem State.Beside.sendSetpoints (h : s.Beside t) {f : FeederNo} {before : State} : s.Beside (t.sendSetpoints f before) := by
  unfold State.sendSetpoints
  refine .forEach h fun c _ _ hu => ?_
  unfold State.setpointIfChanged
  split
  · exact .setpoint hu
  · exact hu

theorem State.Beside.round (h : s.Beside t) {f : FeederNo} : s.Beside (t.round f) := by
  unfold State.round State.roundGrants State.roundStep3 State.roundStep1
  exact .sendSetpoints (.walk (.markFull (.modFeeder (.roundStep2 (.modFeeder h (by exact fun _ => rfl))) (by exact fun _ => rfl))))

/-! ### Departure Sequencer -/

theorem State.Beside.clearBinding (h : s.Beside t) {v : Slot} : s.Beside (t.clearBinding v) := by
  unfold State.clearBinding
  exact .modVeh h

theorem State.Beside.oweStepAt (h : s.Beside t) {l : Option LaneNo} : s.Beside (t.oweStepAt l) := by
  cases l
  · exact h
  · exact .oweStep h

theorem State.Beside.unbindBound (h : s.Beside t) {v : Slot} : s.Beside (t.unbindBound v) := by
  unfold State.unbindBound
  repeat' split
  all_goals first
    | with_reducible exact h
    | with_reducible exact .clearBinding (.modRow h)

theorem State.Beside.undoCall (h : s.Beside t) {v : Slot} : s.Beside (t.undoCall v) := by
  unfold State.undoCall
  repeat' split
  all_goals first
    | with_reducible exact h
    | with_reducible exact .oweStepAt (.clearBinding (.modRow h))

theorem State.Beside.exchange (h : s.Beside t) : s.Beside (t.exchange) := by
  unfold State.exchange State.rebuildBindings
  exact .ds (.testAllLanes (.forEach (.ds h) fun v _ _ hu => .modVeh hu))

theorem State.Beside.exchangeIfDue (h : s.Beside t) : s.Beside (t.exchangeIfDue) := by
  unfold State.exchangeIfDue
  split
  · exact .exchange h
  · exact h

theorem State.Beside.sendCall (h : s.Beside t) {l : LaneNo} {block : Nat} {v : Slot} : s.Beside (t.sendCall l block v) := by
  unfold State.sendCall
  exact .direct h

theorem State.Beside.callAtMouth (h : s.Beside t) {l : LaneNo} : s.Beside (t.callAtMouth l) := by
  unfold State.callAtMouth
  repeat' split
  all_goals first
    | with_reducible exact h
    | with_reducible exact .sendCall (.modRow h)

theorem State.Beside.shuntFull (h : s.Beside t) {l : LaneNo} {c : Slot} {row : Nat} : s.Beside (t.shuntFull l c row) := by
  unfold State.shuntFull
  extract_lets known a
  have ha : s.Beside a := .setShiftRecord h
  split
  · exact ha
  · exact .notify (.raise ha)

theorem State.Beside.shiftEntry0 (h : s.Beside t) {l : LaneNo} : s.Beside (t.shiftEntry0 l) := by
  unfold State.shiftEntry0
  repeat' split
  all_goals first
    | with_reducible exact .setShiftRecord h
    | with_reducible exact .setShiftRecord (.reserveShunt h)
    | with_reducible exact .shuntFull h

theorem State.Beside.shiftStep (h : s.Beside t) {l : LaneNo} : s.Beside (t.shiftStep l) := by
  unfold State.shiftStep
  extract_lets a
  have ha : s.Beside a := .callAtMouth h
  split
  · exact ha
  · exact .shiftEntry0 ha

theorem State.Beside.shiftSteps (h : s.Beside t) {fuel : Nat} : s.Beside (t.shiftSteps fuel) := by
  induction fuel generalizing t with
  | zero => exact h
  | succ n ih =>
    unfold State.shiftSteps
    split
    · exact ih (.shiftStep (.ds h))
    · exact h

theorem State.Beside.settle (h : s.Beside t) : s.Beside (t.settle) := by
  unfold State.settle
  exact .exchangeIfDue (.shiftSteps h)

theorem State.Beside.callRow (h : s.Beside t) {i : Nat} {r : PlanRow} {v : Slot} {l : LaneNo} {x : Bool} : s.Beside (t.callRow i r v l x) := by
  unfold State.callRow
  extract_lets k low a b c d e f
  have hc : s.Beside c := .recheckChargers (.modVeh (.modRow h))
  have hd : s.Beside d := by
    unfold d
    split
    · exact .raise hc
    · exact hc
  have he : s.Beside e := by
    unfold e
    split
    · exact .sendCall hd
    · exact .raise hd
  have hf : s.Beside f := .notify he
  split
  · exact hf
  · exact .oweStep (.notify hf)

theorem State.Beside.makeShort (h : s.Beside t) {i : Nat} {r : PlanRow} {x : Option (Nat × VehicleState)} : s.Beside (t.makeShort i r x) := by
  unfold State.makeShort
  exact .notify (.raise (.modRow h))

theorem State.Beside.takeRow (h : s.Beside t) {i : Nat} {r : PlanRow} : s.Beside (t.takeRow i r) := by
  unfold State.takeRow
  repeat' split
  all_goals first
    | with_reducible exact h
    | with_reducible exact .callRow h
    | with_reducible exact .makeShort h
    | with_reducible exact .makeShort (.clearBinding h)

theorem State.Beside.reportMissed (h : s.Beside t) {i : Nat} {r : PlanRow} {x : MissCause} : s.Beside (t.reportMissed i r x) := by
  unfold State.reportMissed
  exact .notify (.raise h)

theorem State.Beside.missCalled (h : s.Beside t) {i : Nat} {r : PlanRow} : s.Beside (t.missCalled i r) := by
  unfold State.missCalled
  extract_lets a b
  have ha : s.Beside a := .modRow h
  have hb : s.Beside b := by
    unfold b
    split
    · exact .modVeh (.clearBinding ha)
    · exact ha
  exact .oweStepAt (.reportMissed hb)

theorem State.Beside.graceTest (h : s.Beside t) {i : Nat} : s.Beside (t.graceTest i) := by
  unfold State.graceTest
  repeat' split
  all_goals first
    | with_reducible exact h
    | with_reducible exact .settle (.missCalled h)
    | with_reducible exact .reportMissed (.modRow h)

theorem State.Beside.windowRow (h : s.Beside t) {i : Nat} : s.Beside (t.windowRow i) := by
  unfold State.windowRow
  repeat' split
  all_goals first
    | with_reducible exact h
    | with_reducible exact .settle (.takeRow h)

theorem State.Beside.shiftRetries (h : s.Beside t) : s.Beside (t.shiftRetries) := by
  unfold State.shiftRetries
  refine .settle (.forEach h fun l _ u hu => ?_)
  split
  · exact .oweStep hu
  · exact hu

theorem State.Beside.windowPass (h : s.Beside t) : s.Beside (t.windowPass) := by
  unfold State.windowPass
  split
  · exact h
  · exact .forEach h fun i _ _ hu => .windowRow hu

theorem State.Beside.callScan (h : s.Beside t) : s.Beside (t.callScan) := by
  unfold State.callScan State.graceTests
  exact .shiftRetries (.windowPass (.forEach h fun i _ _ hu => .graceTest hu))

theorem State.Beside.rollRow (h : s.Beside t) {i : Nat} : s.Beside (t.rollRow i) := by
  unfold State.rollRow
  split
  · exact h
  · split
    · exact .reportMissed (.modRow h)
    · exact .reportMissed (.modRow h)
    · extract_lets a b
      have ha : s.Beside a := .modRow h
      have hb : s.Beside b := by
        unfold b
        split
        · exact .clearBinding ha
        · exact ha
      exact .reportMissed hb
    · exact .modRow h
    · exact h

theorem State.Beside.rollRows (h : s.Beside t) : s.Beside (t.rollRows) := by
  unfold State.rollRows
  exact .forEach h fun i _ _ hu => .rollRow hu

/-! ### Reports of the yard -/

theorem State.Beside.withdraw (h : s.Beside t) {v : Slot} {keep : Option LaneNo} : s.Beside (t.withdraw v keep) := by
  unfold State.withdraw
  extract_lets held a
  have ha : s.Beside a := .modVeh (.leaveWaitList (.withdrawTicket (.removeEntries h)))
  split
  · exact .retry ha
  · exact ha

theorem State.Beside.enter (h : s.Beside t) {v : Slot} : s.Beside (t.enter v) := by
  have h1 : s.Beside (t.enterYard v) := by
    unfold State.enterYard
    exact .modVeh h
  unfold State.enter
  refine .chooseDue ?_
  unfold State.firstStage
  repeat' split
  · exact .requestFuel h1
  · exact .requestWash h1
  · exact .requestPlacement h1

theorem State.Beside.gateIn (h : s.Beside t) {v : Slot} : s.Beside (t.gateIn v) := by
  unfold State.gateIn
  split
  · exact .enter h
  · extract_lets call a b
    have hb : s.Beside b := .withdraw (.yardConflict h)
    refine .enter ?_
    split
    · exact .undoCall hb
    · exact hb

theorem State.Beside.setOut (h : s.Beside t) {v : Slot} : s.Beside (t.setOut v) := by
  unfold State.setOut
  exact .modVeh h

theorem State.Beside.completeCall (h : s.Beside t) {v : Slot} : s.Beside (t.completeCall v) := by
  unfold State.completeCall
  extract_lets a
  have ha : s.Beside a := .withdraw h
  split
  · exact .setOut ha
  · split
    · exact .clearBinding (.setOut ha)
    · exact .oweStepAt (.notify (.clearBinding (.setOut (.modRow ha))))

theorem State.Beside.gateOut (h : s.Beside t) {v : Slot} : s.Beside (t.gateOut v) := by
  unfold State.gateOut
  repeat' split
  · exact .yardConflict h
  · exact .completeCall h
  · exact .setOut (.unbindBound (.withdraw (.raise h)))

theorem State.Beside.parkIn (h : s.Beside t) {v : Slot} {l : LaneNo} : s.Beside (t.parkIn v l) := by
  unfold State.parkIn
  exact .testLane (.modVeh h)

theorem State.Beside.takeReservation (h : s.Beside t) {v : Slot} {l : LaneNo} : s.Beside (t.takeReservation v l) := by
  unfold State.takeReservation
  exact .parkIn (.writeEntries h)

theorem State.Beside.joinFlags (h : s.Beside t) {v : Slot} {l : LaneNo} {r : Vehicle} {before : VehicleState} : s.Beside (t.joinFlags v l r before) := by
  unfold State.joinFlags
  repeat' split
  all_goals first
    | with_reducible exact h
    | with_reducible exact .raise h
    | with_reducible exact .yardConflict (.raise h)
    | with_reducible exact .yardConflict h

theorem State.Beside.entryJoins (h : s.Beside t) {v : Slot} {l : LaneNo} {before : VehicleState} : s.Beside (t.entryJoins v l before) := by
  unfold State.entryJoins
  extract_lets r a b c d
  have ha : s.Beside a := by
    unfold a
    split
    · exact .addAtTail h
    · exact .writeEntries h
  have hc : s.Beside c := .joinFlags (.withdraw ha)
  have hd : s.Beside d := by
    unfold d
    split
    · exact .undoCall hc
    · exact hc
  exact .parkIn hd

theorem State.Beside.entryLost (h : s.Beside t) {v : Slot} {before : VehicleState} : s.Beside (t.entryLost v before) := by
  unfold State.entryLost
  extract_lets call a b c
  have ha : s.Beside a := .withdraw h
  have hb : s.Beside b := by
    unfold b
    split
    · exact .undoCall ha
    · exact ha
  exact .yardConflict (.modVeh hb)

theorem State.Beside.entryKnown (h : s.Beside t) {v : Slot} {l : LaneNo} {e : Entry} {before : VehicleState} : s.Beside (t.entryKnown v l e before) := by
  unfold State.entryKnown
  split
  · exact h
  · split
    · exact .retry (.takeReservation (.removeEntry (.yardConflict h)))
    · exact .takeReservation h

theorem State.Beside.laneEntered (h : s.Beside t) {v : Slot} {l : LaneNo} {before : VehicleState} : s.Beside (t.laneEntered v l before) := by
  unfold State.laneEntered
  split
  · exact .entryKnown h
  · split
    · exact .entryJoins h
    · exact .entryLost h

theorem State.Beside.bringIn (h : s.Beside t) {v : Slot} {cause : Nat} : s.Beside (t.bringIn v cause) := by
  unfold State.bringIn
  exact .yardConflict (.modVeh h)

theorem State.Beside.laneEntry (h : s.Beside t) {v : Slot} {l : LaneNo} : s.Beside (t.laneEntry v l) := by
  unfold State.laneEntry
  split
  · exact .yardConflict h
  · exact .laneEntered (.bringIn h)
  · exact .laneEntered h

theorem State.Beside.startShuntTimer (h : s.Beside t) {v : Slot} : s.Beside (t.startShuntTimer v) := by
  unfold State.startShuntTimer
  split
  · exact .modLane h (by exact fun _ => rfl)
  · exact h

theorem State.Beside.setMoving (h : s.Beside t) {v : Slot} {l : Option LaneNo} : s.Beside (t.setMoving v l) := by
  unfold State.setMoving
  exact .modVeh h

theorem State.Beside.exitAtMouth (h : s.Beside t) {v : Slot} {l : LaneNo} : s.Beside (t.exitAtMouth v l) := by
  unfold State.exitAtMouth
  exact .retry (.recheckChargers (.startShuntTimer (.modVeh (.removeEntry h))))

theorem State.Beside.exitFromInside (h : s.Beside t) {v : Slot} {l : LaneNo} : s.Beside (t.exitFromInside v l) := by
  unfold State.exitFromInside
  extract_lets target call a b c
  have ha : s.Beside a := .removeEntry h
  have hb : s.Beside b := by
    unfold b
    rcases target with _ | sh
    · exact ha
    · exact .removeEntry ha
  have hc : s.Beside c := by
    unfold c
    split
    · exact .undoCall hb
    · exact hb
  exact .retry (.recheckChargers (.setMoving hc))

theorem State.Beside.laneExited (h : s.Beside t) {v : Slot} {l : LaneNo} {before : VehicleState} : s.Beside (t.laneExited v l before) := by
  unfold State.laneExited
  split
  · exact .yardConflict h
  · split
    · split
      · exact .exitAtMouth h
      · exact .exitFromInside (.yardConflict h)
    · exact .setMoving (.withdraw (.yardConflict h))

theorem State.Beside.laneExit (h : s.Beside t) {v : Slot} {l : LaneNo} : s.Beside (t.laneExit v l) := by
  unfold State.laneExit
  split
  · exact .laneExited (.bringIn h)
  · exact .laneExited h

theorem State.Beside.arrivalLapse (h : s.Beside t) {v : Slot} {l : LaneNo} : s.Beside (t.arrivalLapse v l) := by
  unfold State.arrivalLapse
  split
  · exact .retry (.raise (.setMoving (.removeEntry h)))
  · exact h

theorem State.Beside.resolved (h : s.Beside t) {tag : Nat} {act : Slot → State} (ha : ∀ v, s.Beside (act v)) :
    s.Beside (t.resolved tag act) := by
  unfold State.resolved
  split
  · exact ha _
  · exact h

theorem State.Beside.lookUp (h : s.Beside t) {x : Telegram} : s.Beside (t.lookUp x) := by
  unfold State.lookUp
  split
  · exact .raise h
  · exact h

/-- What a report does when its owner acts on it lies beside everything else (R157). -/
theorem State.Beside.own (h : s.Beside t) {x : Telegram} : s.Beside (t.own x) := by
  unfold State.own
  extract_lets tag
  split
  · exact .resolved h fun v => .gateIn h
  split
  · exact .resolved h fun v => .gateOut h
  split
  · exact .resolved h fun v => .laneEntry h
  split
  · exact .resolved h fun v => .laneExit h
  split
  · exact .resolved h fun v => .bayArrive h
  split
  · exact .bayDone h
  split
  · exact .bayFault h
  split
  · exact .chargerReport h
  split
  · exact .meterReport h
  · exact h

end Sys2Proof.Machine
end

