-- ==== Sys2Proof/Laws/PerInstr.lean ====
section
/-! SUPPORT. One fact about every command, command by command: a command that stands for a report spells a payload of the
length R189 gives its kind. -/

namespace Sys2Proof.Laws.ReportSized

open Sys2Proof Sys2Proof.Machine

/-- The payload of the report a command stands for has the length of its kind. -/
def Statement (i : Instr) : Prop :=
  ∀ src kind payload, reportOf i = some (src, kind, payload) → reportLength kind = some payload.length

theorem powerOn (straps : Addr) : Statement (.powerOn straps) := fun _ _ _ h => nomatch h
theorem softReset : Statement .softReset := fun _ _ _ h => nomatch h
theorem poll : Statement .poll := fun _ _ _ h => nomatch h
theorem idleTurn : Statement .idleTurn := fun _ _ _ h => nomatch h
theorem replyTimeout : Statement .replyTimeout := fun _ _ _ h => nomatch h
theorem directiveTurn : Statement .directiveTurn := fun _ _ _ h => nomatch h
theorem callIn (answering : List Addr) : Statement (.callIn answering) := fun _ _ _ h => nomatch h
theorem callInTimeout : Statement .callInTimeout := fun _ _ _ h => nomatch h
theorem berthFrameRejected (frame : List Byte) : Statement (.berthFrameRejected frame) := fun _ _ _ h => nomatch h
theorem nothing (src : Addr) : Statement (.nothing src) := by
  rintro _ _ _ ⟨⟩
  rfl
theorem gateIn (src : Addr) (tag : Nat) : Statement (.gateIn src tag) := by
  rintro _ _ _ ⟨⟩
  rw [toBytes_length]; rfl
theorem gateOut (src : Addr) (tag : Nat) : Statement (.gateOut src tag) := by
  rintro _ _ _ ⟨⟩
  rw [toBytes_length]; rfl
theorem laneEntry (src : Addr) (tag : Nat) : Statement (.laneEntry src tag) := by
  rintro _ _ _ ⟨⟩
  rw [toBytes_length]; rfl
theorem laneExit (src : Addr) (tag : Nat) : Statement (.laneExit src tag) := by
  rintro _ _ _ ⟨⟩
  rw [toBytes_length]; rfl
theorem bayArrive (src : Addr) (tag : Nat) : Statement (.bayArrive src tag) := by
  rintro _ _ _ ⟨⟩
  rw [toBytes_length]; rfl
theorem bayDone (src : Addr) : Statement (.bayDone src) := by
  rintro _ _ _ ⟨⟩
  rfl
theorem bayFault (src : Addr) : Statement (.bayFault src) := by
  rintro _ _ _ ⟨⟩
  rfl
theorem chargerReport (src : Addr) (tag soc power : Nat) (marks : Byte) : Statement (.chargerReport src tag soc power marks) := by
  rintro _ _ _ ⟨⟩
  rw [List.length_append, List.length_append, List.length_append, toBytes_length, toBytes_length, toBytes_length]; rfl
theorem meterReport (src : Addr) (draw : Nat) : Statement (.meterReport src draw) := by
  rintro _ _ _ ⟨⟩
  rw [toBytes_length]; rfl
theorem linkFrameCheckFail (frame : List Byte) : Statement (.linkFrameCheckFail frame) := fun _ _ _ h => nomatch h
theorem linkTelegramDiscarded (src : Addr) (dest : Option Addr) (kind : Byte) (payload : List Byte) : Statement (.linkTelegramDiscarded src dest kind payload) := fun _ _ _ h => nomatch h
theorem serverDirective (src dest : Addr) (kind : DirectiveKind) (payload : List Byte) : Statement (.serverDirective src dest kind payload) := fun _ _ _ h => nomatch h
theorem requestReceived (src : Addr) (kind : Byte) (payload : List Byte) : Statement (.requestReceived src kind payload) := fun _ _ _ h => nomatch h
theorem requestFormatRefused : Statement .requestFormatRefused := fun _ _ _ h => nomatch h
theorem select : Statement .select := fun _ _ _ h => nomatch h
theorem fetch : Statement .fetch := fun _ _ _ h => nomatch h
theorem clear : Statement .clear := fun _ _ _ h => nomatch h
theorem ident : Statement .ident := fun _ _ _ h => nomatch h
theorem putStation : Statement .putStation := fun _ _ _ h => nomatch h
theorem putLane : Statement .putLane := fun _ _ _ h => nomatch h
theorem putCharger : Statement .putCharger := fun _ _ _ h => nomatch h
theorem putFeeder : Statement .putFeeder := fun _ _ _ h => nomatch h
theorem putBay : Statement .putBay := fun _ _ _ h => nomatch h
theorem putParams : Statement .putParams := fun _ _ _ h => nomatch h
theorem putFleet : Statement .putFleet := fun _ _ _ h => nomatch h
theorem putActive : Statement .putActive := fun _ _ _ h => nomatch h
theorem putStandby : Statement .putStandby := fun _ _ _ h => nomatch h
theorem putReadOnly : Statement .putReadOnly := fun _ _ _ h => nomatch h
theorem swapNow : Statement .swapNow := fun _ _ _ h => nomatch h
theorem swapAtRollover : Statement .swapAtRollover := fun _ _ _ h => nomatch h
theorem cancelSwap : Statement .cancelSwap := fun _ _ _ h => nomatch h
theorem cancelRow : Statement .cancelRow := fun _ _ _ h => nomatch h
theorem hold : Statement .hold := fun _ _ _ h => nomatch h
theorem unhold : Statement .unhold := fun _ _ _ h => nomatch h
theorem yardSet : Statement .yardSet := fun _ _ _ h => nomatch h
theorem yardSetOut : Statement .yardSetOut := fun _ _ _ h => nomatch h
theorem openLane : Statement .openLane := fun _ _ _ h => nomatch h
theorem closeLane : Statement .closeLane := fun _ _ _ h => nomatch h
theorem openBay : Statement .openBay := fun _ _ _ h => nomatch h
theorem closeBay : Statement .closeBay := fun _ _ _ h => nomatch h
theorem clearBay : Statement .clearBay := fun _ _ _ h => nomatch h
theorem clearFeeder : Statement .clearFeeder := fun _ _ _ h => nomatch h
theorem clockSet : Statement .clockSet := fun _ _ _ h => nomatch h
theorem store : Statement .store := fun _ _ _ h => nomatch h
theorem load : Statement .load := fun _ _ _ h => nomatch h
theorem reset : Statement .reset := fun _ _ _ h => nomatch h
theorem transmitAnswer : Statement .transmitAnswer := fun _ _ _ h => nomatch h
theorem transmitNotice : Statement .transmitNotice := fun _ _ _ h => nomatch h
theorem transmitForward : Statement .transmitForward := fun _ _ _ h => nomatch h
theorem minuteAdvance (order : List AdvanceTaker) : Statement (.minuteAdvance order) := fun _ _ _ h => nomatch h
theorem supervisionTimeout : Statement .supervisionTimeout := fun _ _ _ h => nomatch h
theorem arrivalTimeout (lane : LaneNo) (slot : Slot) : Statement (.arrivalTimeout lane slot) := fun _ _ _ h => nomatch h
theorem noShowTimeout (bay : BayNo) : Statement (.noShowTimeout bay) := fun _ _ _ h => nomatch h
theorem retryTimeout (bay : BayNo) : Statement (.retryTimeout bay) := fun _ _ _ h => nomatch h
theorem overstayTimeout (bay : BayNo) : Statement (.overstayTimeout bay) := fun _ _ _ h => nomatch h
theorem storeComplete (verified : Bool) : Statement (.storeComplete verified) := fun _ _ _ h => nomatch h
theorem loadComplete : Statement .loadComplete := fun _ _ _ h => nomatch h

end Sys2Proof.Laws.ReportSized
end

