-- ==== Sys2Proof/Tests/Slice0.lean ====
section
/-! SUPPORT. Tests: well-formedness refuses what no line or timer delivers, the worked sequences of spec/ (one step
each, with the values the spec gives), and for every obligation with hypotheses a state that meets them. -/

namespace Sys2Proof.Machine

/-- A station of a kind and an index. -/
def State.withStation (s : State) (a : Addr) (kind : StationKind) (index : Nat) : State :=
  s.modStation a fun r => { r with cfg := { r.cfg with kind := kind, index := index } }

/-- A vehicle in the fleet store. -/
def State.withBus (s : State) (v : Slot) (length : LengthClass) (state : VehicleState) (loc : Location)
    (row : Option Nat := none) : State :=
  s.setVeh v { tag := 1000 + v.val, length := length, state := state, location := loc, boundRow := row }

/-- A poll of a station in progress. -/
def State.polled (s : State) (a : Addr) : State := { s with blc := { s.blc with turn := .polling a } }

/-- The server, and its request in the buffer. -/
def State.served (s : State) (kind : Byte) (payload : List Byte) : State :=
  { s.modStation 0 fun r => { r with cfg := { kind := .server, level := 0 } } with
    dlp := { s.dlp with requests := [⟨0, kind, payload⟩] } }

/-- A station's table entry with its polled and urgent-capable marks set. -/
def State.marked (s : State) (a : Addr) : State :=
  s.modStation a fun r => { r with cfg := { r.cfg with polled := true, urgent := true } }

/-- The turn of the line. -/
def State.inTurn (s : State) (turn : Turn) : State := { s with blc := { s.blc with turn := turn } }

/-- A wash bay with a bus. -/
def State.inBay (s : State) (b : BayNo) (state : BayState) (k : Ticket) : State :=
  s.modBay b fun r => { r with state := state, ticket := some k }

/-- A PUT of the class the server has, at a row of a table. -/
def State.putting (s : State) (table : Table) (row : Nat) (payload : List Byte) : State :=
  let s := s.served 50 payload
  { s with tau := { s.tau with table := table, row := row } }

end Sys2Proof.Machine

namespace Sys2Proof.Tests

open Sys2Proof Sys2Proof.Machine

/- One kernel evaluation at a time: each of these theorems evaluates a step, and each thread takes a large stack. -/
set_option Elab.async false

/-! ### Well-formedness: an ill-formed term for each check, and its neighbour that passes -/

theorem test_wf_tag : (Instr.gateIn 3 (2 ^ 24)).wellFormed = false ∧ (Instr.gateIn 3 (2 ^ 24 - 1)).wellFormed = true := by
  decide

theorem test_wf_charger_report :
    (Instr.chargerReport 9 (2 ^ 24) 0 0 0).wellFormed = false ∧ (Instr.chargerReport 9 0 (2 ^ 16) 0 0).wellFormed = false
      ∧ (Instr.chargerReport 9 0 0 (2 ^ 16) 0).wellFormed = false
      ∧ (Instr.chargerReport 9 (2 ^ 24 - 1) 65535 65535 255).wellFormed = true := by decide

theorem test_wf_meter_report :
    (Instr.meterReport 60 (2 ^ 16)).wellFormed = false ∧ (Instr.meterReport 60 65535).wellFormed = true := by decide

theorem test_wf_frame :
    (Instr.berthFrameRejected [9, 1, 8, 0, 0, 0, 0]).wellFormed = false
      ∧ (Instr.linkFrameCheckFail [9, 1, 8, 0, 0, 0, 0]).wellFormed = false
      ∧ (Instr.berthFrameRejected [9, 1, 8, 0, 0, 0]).wellFormed = true := by decide

theorem test_wf_payload :
    (Instr.requestReceived 0 50 (List.replicate 49 0)).wellFormed = false
      ∧ (Instr.serverDirective 0 9 .sign (List.replicate 49 0)).wellFormed = false
      ∧ (Instr.linkTelegramDiscarded 0 (some 9) 50 (List.replicate 49 0)).wellFormed = false
      ∧ (Instr.requestReceived 0 50 (List.replicate 48 0)).wellFormed = true := by decide

theorem test_wf_callIn : (Instr.callIn [3, 3]).wellFormed = false ∧ (Instr.callIn [3, 5]).wellFormed = true := by decide

theorem test_wf_minuteAdvance :
    (Instr.minuteAdvance [.yardMap]).wellFormed = false
      ∧ (Instr.minuteAdvance (List.replicate 8 .yardMap)).wellFormed = false
      ∧ (Instr.minuteAdvance AdvanceTaker.all).wellFormed = true := by decide

/-! ### Bytes (R188, chapter 11) -/

/-- The generator of R188 with a register that starts at ones and is not inverted: the check value that is published for
the nine digits. -/
theorem test_check_of_digits : crc16 [0x31, 0x32, 0x33, 0x34, 0x35, 0x36, 0x37, 0x38, 0x39] = 0x29B1 := by decide +kernel

/-- The worked example of chapter 11. -/
theorem test_worked_example_bytes :
    (telegramBytes ⟨1, some 9, 33, []⟩).take 4 = [1, 9, 33, 0]
      ∧ (telegramBytes ⟨9, some 1, 8, chargerPayload 0x012A05 720 60 0⟩).take 12
        = [9, 1, 8, 8, 0x01, 0x2A, 0x05, 0x02, 0xD0, 0x00, 0x3C, 0x00]
      ∧ (telegramBytes ⟨1, some 9, 19, setpointPayload 60⟩).take 6 = [1, 9, 19, 2, 0x00, 0x3C] := by decide +kernel

/-- A character of R188: the start bit, eight data bits with the most significant first, the stop bit. -/
theorem test_character :
    character 0xA1 = [.start, .data true, .data false, .data true, .data false, .data false, .data false, .data false, .data true, .stop] := by
  decide

/-! ### The worked sequences -/

/-- The state a command answers. -/
def after : StepResult → State
  | .next t => t
  | _ => State.reset

/-- A BOUND row. -/
def boundRow (key : Nat) (v : Slot) : PlanRow :=
  { block := 1, key := key, kindReq := .any, lengthReq := .any, energy := 0, bound := some v, state := .bound }

/-- Lane 7 of chapter 2 before step 5. -/
def deadEnd : State :=
  let s := State.reset.withStation 17 .laneReader 7
  let s := s.withBus 20 .standard .parked (.lane 7 .present none) (some 2)
  let s := s.withBus 21 .articulated .toBerth (.lane 7 .expected none) (some 1)
  let s := s.withBus 22 .standard .toBerth (.lane 7 .expected none) (some 0)
  let s := s.withBus 23 .articulated .moving (.enRoute none)
  { s.setLane 7 ⟨{ kind := .deadEnd, capacity := 5, reader := 17 }, .opened, 0,
      [⟨22, .expected, some 10⟩, ⟨21, .expected, some 10⟩, ⟨20, .present, none⟩]⟩ with
    ds := { s.ds with active := [boundRow 290 22, boundRow 300 21, boundRow 360 20] } }

/-- Chapter 2, DEAD_END lane, step 5: the bus that arrives moves to entry 0, and both out-of-order entries are marked. -/
theorem test_laneEntry_dead_end :
    let t := after (exec (.laneEntry 17 1021) (deadEnd.polled 17))
    (t.lane 7).entries = [⟨21, .present, none⟩, ⟨22, .expected, some 10⟩, ⟨20, .present, none⟩]
      ∧ (t.veh 21).misorder = true ∧ (t.veh 22).misorder = true ∧ (t.veh 20).misorder = false
      ∧ (t.veh 21).state = .parked := by decide +kernel

/-- Chapter 2, DEAD_END lane, step 7: no room for 2 units, so the bus is LOST and the lane is as it was. -/
theorem test_laneEntry_no_room :
    let s := deadEnd.polled 17
    let t := after (exec (.laneEntry 17 1023) s)
    (t.veh 23).state = .lost ∧ t.flag .yardConflict = true ∧ t.lanes = s.lanes := by decide +kernel

/-- Lane 3 of chapter 2 before step 6. -/
def through : State :=
  let s := (((State.reset.withStation 13 .laneReader 3).withBus 10 .standard .parked (.lane 3 .present none) (some 1)).withBus
    11 .articulated .parked (.lane 3 .present none) (some 0)).withBus 13 .standard .parked (.lane 3 .present none)
  { s.setLane 3 ⟨{ capacity := 6, reader := 13 }, .opened, 0, [⟨11, .present, none⟩, ⟨10, .present, none⟩, ⟨13, .present, none⟩]⟩
    with ds := { s.ds with active := [boundRow 330 11, boundRow 345 10] } }

/-- Chapter 2, THROUGH lane, step 6: the window front advances by the units that left. -/
theorem test_laneExit_at_the_mouth :
    let t := after (exec (.laneExit 13 1011) (through.polled 13))
    (t.lane 3).entries.map Entry.slot = [10, 13] ∧ (t.lane 3).front = 2 ∧ t.room 3 = 2 ∧ (t.veh 11).state = .moving
      ∧ t.flag .yardConflict = false := by decide +kernel

/-- Chapter 2, THROUGH lane: an exit away from the mouth (step 7) is a conflict and leaves the window front. -/
theorem test_laneExit_behind_the_mouth :
    let t := after (exec (.laneExit 13 1013) (through.polled 13))
    (t.lane 3).entries.map Entry.slot = [11, 10] ∧ (t.lane 3).front = 0 ∧ (t.veh 13).state = .moving
      ∧ t.flag .yardConflict = true := by decide +kernel

/-- An OPEN lane that holds present and expected vehicles, mouth first. -/
def openLane (kind : LaneKind) (capacity front : Nat) (present expected : List Slot) : Lane :=
  ⟨{ kind := kind, capacity := capacity, reader := 100 }, .opened, front,
    present.map (fun v => ⟨v, .present, none⟩) ++ expected.map fun v => ⟨v, .expected, some 10⟩⟩

/-- A charger in a position of a lane, at the station 60 above its number. -/
def chargerAt (s : State) (c : ChargerNo) (lane : LaneNo) (position : Nat) (connected : Option Slot) (feeder : FeederNo) :
    State :=
  s.setCharger c
    { cfg := { station := some (Fin.ofNat 128 (60 + c.val)), lane := lane, position := position, feeder := feeder }
      state := if connected.isSome then .connected else .free, connected := connected }

/-- The yard of the placement decision of chapter 3; slot 40 is at the gate. -/
def decision : State :=
  let s := (State.reset.withStation 3 .gateReader 0).withStation 70 .display 0
  let s := [(30, 0), (31, 1), (33, 2), (35, 3), (36, 4), (37, 5), (38, 6)].foldl
    (fun s (v, i) => State.withBus s v .standard .parked .none (some i)) s
  let s := (s.withBus 34 .articulated .toBerth .none).setVeh 40
    { tag := 1040, propulsion := .electric, length := .articulated, battery := some 4000, standby := some 3000
      boundRow := some 7 }
  let s := ((((s.setLane 0 { openLane .through 8 0 [] [] with setState := .closed }).setLane 2 (openLane .through 8 0 [30, 31] [])).setLane
    4 (openLane .through 6 2 [33] [34])).setLane 5 (openLane .deadEnd 6 0 [35, 36] [])).setLane 6 (openLane .through 8 0 [] [])
  let s := ((s.setLane 8 (openLane .through 8 0 [37] [])).setLane 11 (openLane .through 8 0 [38] [])).setLane 9
    { openLane .deadEnd 4 0 [] [] with cfg := { kind := .deadEnd, capacity := 4, reader := 99 } }
  let s := s.setLane 12 { openLane .through 6 0 [] [] with cfg := { role := .shunt, capacity := 6, reader := 100 } }
  let s := chargerAt (chargerAt (chargerAt (chargerAt (chargerAt (chargerAt s 10 2 0 (some 30) 0) 11 2 4 none 0) 20 5 3 none 0)
    24 6 1 none 0) 25 6 0 none 1) 30 11 2 none 0
  let s := ((s.modStation 84 fun r => { r with silent := true }).modStation 99 fun r => { r with silent := true }).modFeeder 1
    fun r => { r with state := .tripped }
  { s with
    ds := { s.ds with active := [boundRow 320 30, boundRow 340 31, boundRow 300 33, boundRow 380 35, boundRow 400 36,
      boundRow 360 37, boundRow 345 38, { boundRow 350 40 with energy := 3200 }] }
    ycs := { s.ycs with mode := .normal } }

/-- Chapter 3, the placement decision: class 1 in lane 11 at position 1; the list, the sign and the notice. -/
theorem test_gateIn_places :
    let t := after (exec (.gateIn 3 1040) (decision.polled 3))
    (t.lane 11).entries = [⟨38, .present, none⟩, ⟨40, .expected, some 10⟩] ∧ t.room 11 = 5
      ∧ (t.veh 40).state = .toBerth ∧ (t.veh 40).location = .lane 11 .expected none ∧ (t.veh 40).misorder = false
      ∧ t.blc.originFifo = [⟨70, .sign, [0, 4, 16, 0, 11, 1]⟩] ∧ t.dlp.notices = [.placed 1040 40 11 1 1 .gate] := by
  decide +kernel

/-- Chapter 3, the variants of the placement decision: the station of charger 30 SILENT, and slot 40 unbound. -/
theorem test_placement_variants :
    ((decision.modStation 90 fun r => { r with silent := true }).placement 40).map (fun c => (c.lane, c.cls, c.gap)) = some (5, 1, 30)
      ∧ ((decision.modVeh 40 fun r => { r with boundRow := none }).placement 40).map (fun c => (c.lane, c.cls, c.gap))
        = some (11, 1, 1095) := by decide +kernel

/-- Chapter 3, the wait-list retry, after slot 61 has left lane 15. -/
theorem test_retry :
    let s := [(50, LengthClass.standard), (51, .articulated), (52, .standard)].foldl
      (fun s (v, len) => State.withBus s v len .inbound .gate) State.reset
    let s := ((s.withBus 60 .standard .parked .none).withBus 62 .articulated .parked .none).withBus 63 .standard .parked .none
    let s := s.setLane 15 (openLane .deadEnd 6 0 [60, 62, 63] [])
    let t := State.retry { s with waitList := [⟨50, .serviceExit, 5⟩, ⟨51, .gate, 6⟩, ⟨52, .gate, 7⟩] }
    (t.lane 15).entries.map Entry.slot = [52, 50, 60, 62, 63] ∧ t.waitList = [⟨51, .gate, 6⟩] ∧ t.room 15 = 0 := by
  decide +kernel

/-- The yard of the evening queue of chapter 4 with two bays in use. -/
def evening : State :=
  let s := (((State.reset.withStation 3 .gateReader 0).withStation 30 .bayUnit 0).withStation 32 .bayUnit 2).withStation 72 .display 1
  let bus := fun (s : State) (v : Slot) (p : Propulsion) (w : Nat) (row : Option Nat) (pr : Nat) =>
    s.setVeh v { tag := 1000 + v.val, propulsion := p, washCounter := w, boundRow := row, washProgramme := pr, state := .service }
  let s := bus (bus (bus (bus (bus s 70 .diesel 2 (some 0) 3) 71 .electric 2 (some 1) 2) 72 .diesel 1 none 3)
    73 .electric 4 (some 3) 5) 74 .electric 3 (some 2) 5
  let s := ((((s.setBay 0 { cfg := { kind := .fuel, unit := some 30, display := some 72 } }).setBay 1 { state := .closed }).setBay
    3 { cfg := { unit := some 33, display := some 72 }, state := .closed }).setBay 4 { state := .closed }).setBay 5 { state := .closed }
  { s.setBay 2 { cfg := { unit := some 32, display := some 72 } } with
    ds := { s.ds with active := [boundRow 940 70, boundRow 990 71, boundRow 1000 74, boundRow 1080 73] }
    ycs := { minute := 906, clockSet := true, mode := .normal, supervision := some 10 } }

/-- A ticket of the evening queue. -/
def ticket (v : Slot) (kind : QueueKind) (join : Nat) (noShows : Nat := 0) (state : TicketState := .waiting) : Ticket :=
  ⟨v, kind, join, noShows, state⟩

/-- Bay 2 of the evening queue: CALLING 71. -/
def calling71 : State :=
  let s := evening.modBay 2 fun r => { r with
    state := .calling, ticket := some (ticket 71 .wash 901 0 .calledToBay), callMinute := 901, noShowTimer := some 5 }
  { s with stc := { s.stc with washQueue := [ticket 73 .wash 903, ticket 74 .wash 904] } }

/-- Chapter 4, 901: the wash counter reaches the interval, and bay 2 calls at once. -/
theorem test_gateIn_wash :
    let s := evening.setVeh 71 { evening.veh 71 with state := .out, washCounter := 1 }
    let t := after (exec (.gateIn 3 1071) (State.polled { s with ycs := { s.ycs with minute := 901 } } 3))
    (t.veh 71).washCounter = 2 ∧ (t.bay 2).state = .calling ∧ (t.bay 2).ticket = some (ticket 71 .wash 901 0 .calledToBay)
      ∧ (t.bay 2).callMinute = 901 ∧ (t.bay 2).noShowTimer = some 5 ∧ t.stc.washQueue = []
      ∧ t.blc.originFifo = [⟨72, .sign, [0, 4, 47, 1, 2, 0]⟩] := by decide +kernel

/-- Chapter 4, 906: the first no-show goes back to the queue, and its key within the horizon lifts it again. -/
theorem test_noShowTimeout :
    let t := after (exec (.noShowTimeout 2) calling71)
    (t.bay 2).ticket = some (ticket 71 .wash 906 1 .calledToBay) ∧ (t.bay 2).callMinute = 906
      ∧ t.stc.washQueue = [ticket 73 .wash 903, ticket 74 .wash 904] := by decide +kernel

/-- Chapter 4, 907: a bus with a WAITING ticket of the bay's kind is served in place of the one called. -/
theorem test_bayArrive_other_bus :
    let s := (after (exec (.noShowTimeout 2) calling71)).polled 32
    let t := after (exec (.bayArrive 32 1074) { s with ycs := { s.ycs with minute := 907 } })
    (t.bay 2).state = .busy ∧ (t.bay 2).ticket = some (ticket 74 .wash 904 0 .inBay)
      ∧ t.stc.washQueue = [ticket 73 .wash 903, ticket 71 .wash 906 1] ∧ (t.bay 2).overstayTimer = some 10
      ∧ t.blc.originFifo.getLast? = some ⟨32, .bayStart, [5]⟩ := by decide +kernel

/-- A bay of the evening queue with a bus in it. -/
def busy (b : BayNo) (v : Slot) (kind : QueueKind) (faults : Nat) : State :=
  evening.modBay b fun r => { r with
    state := .busy, ticket := some (ticket v kind 902 0 .inBay), faultCount := faults, overstayTimer := some 10 }

/-- Chapter 4, 909: a fuelled bus that needs a wash gets a WASH ticket, and the bay calls the next. -/
theorem test_bayDone :
    let s := busy 0 70 .fuel 0
    let t := after (exec (.bayDone 30) (State.polled { s with
      stc := { s.stc with fuelQueue := [ticket 72 .fuel 902], bays := s.stc.bays.set 2 { s.bay 2 with state := .closed } }
      ycs := { s.ycs with minute := 909 } } 30))
    (t.bay 0).ticket = some (ticket 72 .fuel 902 0 .calledToBay) ∧ t.stc.washQueue = [ticket 70 .wash 909] := by
  decide +kernel

/-- R66: the freed FUEL bay 0 and the WASH bay 2 that the issued WASH ticket calls choose in ascending number. -/
theorem test_bayDone_order :
    let s := (busy 0 70 .fuel 0).modBay 0 fun r => { r with cfg := { r.cfg with display := some 71 } }
    let t := after (exec (.bayDone 30) (State.polled { s with stc := { s.stc with fuelQueue := [ticket 72 .fuel 902] } } 30))
    (t.bay 2).ticket = some (ticket 70 .wash s.ycs.minute 0 .calledToBay)
      ∧ t.blc.originFifo.map Directive.dest = [71, 72] := by
  decide +kernel

/-- Chapter 4, 910: the first fault waits for the retry delay, with the overstay timer running on. -/
theorem test_bayFault_first :
    let t := after (exec (.bayFault 32) ((busy 2 74 .wash 0).polled 32))
    (t.bay 2).state = .faultWait ∧ (t.bay 2).retryTimer = some 2 ∧ (t.bay 2).overstayTimer = some 10 := by decide +kernel

/-- Chapter 4, 913: the next fault latches the bay OUT, and the bus goes on its way unwashed. -/
theorem test_bayFault_second :
    let t := after (exec (.bayFault 32) ((busy 2 74 .wash 1).polled 32))
    (t.bay 2).state = .out ∧ (t.bay 2).ticket = none ∧ t.flag .bayOut = true ∧ (t.veh 74).washCounter = 3
      ∧ Notice.bayOut 2 .serviceFault 1074 ∈ t.dlp.notices := by decide +kernel

/-- Chapter 4, 912: the retry sends BAY_START again. -/
theorem test_retryTimeout :
    let s := (busy 2 74 .wash 1).modBay 2 fun r => { r with state := .faultWait, retryTimer := some 2 }
    let t := after (exec (.retryTimeout 2) s)
    (t.bay 2).state = .busy ∧ t.blc.originFifo = [⟨32, .bayStart, [5]⟩] := by decide +kernel

/-- Chapter 4, 914: OPEN_BAY of a CLOSED bay with tickets waiting calls; slot 71 is within the horizon. -/
theorem test_openBay :
    let s := evening.setBay 2 { evening.bay 2 with state := .out }
    let s := { s with
      stc := { s.stc with washQueue := [ticket 73 .wash 903, ticket 71 .wash 906 1] }
      ycs := { s.ycs with minute := 914 } }
    let t := after (exec .openBay (State.served s 53 [9, 3]))
    (t.bay 3).ticket = some (ticket 71 .wash 906 1 .calledToBay) ∧ t.stc.washQueue = [ticket 73 .wash 903] := by
  decide +kernel

/-- Feeder 2 and its three chargers in chapter 5, before the round of minute 600. -/
def shedding : State :=
  let s := (State.reset.withStation 60 .meter 2).setFeeder 2
    { cfg := { rated := 300, limit := 100, meter := some 60 }, accumulator := 40, reading := some 380 }
  let add := fun (s : State) (c : ChargerNo) (v : Slot) (pMax pMin grant age hold : Nat) (state : ChargerState) =>
    (s.setVeh v { tag := 100 + v.val, propulsion := .electric, battery := some 9999, standby := some 9999, state := .parked
                  location := .lane 0 .present none, lastSoc := some 0 }).setCharger c
      { cfg := { station := some (Fin.ofNat 128 c.val), lane := 0, position := 0, feeder := 2, pMax := pMax, pMin := pMin }
        state := state, connected := some v, grant := grant, actual := grant, turnAge := age, hold := hold, resend := false }
  let s := add (add (add s 20 1 150 30 150 0 6 .charging) 21 2 150 30 150 0 9 .charging) 22 3 100 50 0 3 0 .waiting
  { s with ycs := { minute := 599, clockSet := false, mode := .normal, supervision := some 10 } }

/-- Chapter 5, minute 600: the row of the table, and the set-points that were sent. -/
theorem test_minuteAdvance_sheds :
    let t := after (exec (.minuteAdvance AdvanceTaker.all) shedding)
    let f := t.feeder 2
    (f.baseLoad, f.accumulator, f.state, f.budget) = (80, 120, .shed, 140)
      ∧ ([20, 21, 22].map fun c => (t.charger c).grant) = [40, 0, 100]
      ∧ ([20, 21, 22].map fun c => (t.charger c).turnAge) = [0, 1, 0]
      ∧ ([20, 21, 22].map fun c => (t.charger c).hold) = [0, 0, 10]
      ∧ t.blc.originFifo = [⟨20, .setpoint, [0, 40]⟩, ⟨21, .setpoint, [0, 0]⟩, ⟨22, .setpoint, [0, 100]⟩]
      ∧ t.dlp.notices = [.feederShed 2 120 380 300 80] := by decide +kernel

/-- Chapter 5, minute 602: the trip withdraws both grants at once, and every candidate waits. -/
theorem test_round_trips :
    let s := shedding.modFeeder 2 fun r => { r with state := .shed, accumulator := 83, baseLoad := 85, reading := some 420 }
    let s := ((s.modCharger 20 fun r => { r with state := .waiting, grant := 0, actual := 0, turnAge := 1, hold := 0 }).modCharger 21
      fun r => { r with grant := 30, actual := 30, hold := 10 }).modCharger 22
      fun r => { r with state := .charging, grant := 100, actual := 300, turnAge := 0, hold := 9 }
    let t := s.round 2
    ((t.feeder 2).accumulator, (t.feeder 2).state, (t.feeder 2).budget) = (203, .tripped, 0)
      ∧ ([20, 21, 22].map fun c => ((t.charger c).grant, (t.charger c).turnAge, (t.charger c).state))
        = [(0, 2, .waiting), (0, 1, .waiting), (0, 1, .waiting)]
      ∧ t.blc.originFifo = [⟨21, .setpoint, [0, 0]⟩, ⟨22, .setpoint, [0, 0]⟩] := by decide +kernel

/-- Chapter 5, the first allocation round: four chargers, their slacks and the 400 kW between them. -/
theorem test_round_allocates :
    let row := fun (key energy : Nat) (v : Slot) => { boundRow key v with energy := energy }
    let s := State.reset.setFeeder 1 { cfg := { rated := 400 } }
    let add := fun (s : State) (c : ChargerNo) (v : Slot) (pMax cap soc : Nat) (r : Option Nat) (sb : Nat) =>
      (s.setVeh v { tag := 100 + v.val, propulsion := .electric, battery := some cap, standby := some sb, state := .parked
                    location := .lane 0 .present none, lastSoc := some soc, boundRow := r }).setCharger c
        { cfg := { station := some (Fin.ofNat 128 c.val), feeder := 1, pMax := pMax, pMin := 20 }, state := .connected
          connected := some v }
    let s := add (add (add (add s 4 4 150 3500 400 (some 0) 0) 5 5 150 3500 700 (some 2) 0) 6 6 100 3000 500 none 2400)
      7 7 150 3500 550 (some 1) 0
    let t := State.round { s with
      ds := { s.ds with active := [row 345 2800 4, row 380 2600 7, row 420 2800 5] }
      ycs := { minute := 300, clockSet := true, mode := .normal, supervision := some 10 } } 1
    ([4, 5, 6, 7].map fun c => ((t.charger c).state, (t.charger c).grant, (t.charger c).turnAge, (t.charger c).hold))
        = [(.charging, 150, 0, 10), (.charging, 100, 0, 10), (.waiting, 0, 1, 0), (.charging, 150, 0, 10)]
      ∧ t.blc.originFifo = [⟨4, .setpoint, [0, 150]⟩, ⟨5, .setpoint, [0, 100]⟩, ⟨6, .setpoint, [0, 0]⟩, ⟨7, .setpoint, [0, 150]⟩] := by
  decide +kernel

/-- Chapter 6, minute 3: the GATE_OUT of the last CALLED row makes the pending exchange; slot 83 is held. -/
theorem test_gateOut_exchange :
    let s := ((State.reset.withStation 3 .gateReader 0).withBus 81 .standard .departing (.enRoute none) (some 1)).withBus
      90 .standard .parked .none
    let s := s.setVeh 83 { tag := 1083, state := .parked, held := true }
    let t := after (exec (.gateOut 3 1081) (State.polled { s with
      ds := { s.ds with
        active := [{ boundRow 1300 80 with state := .gone }, { boundRow 1436 81 with state := .called, carried := true },
          { boundRow 1437 0 with state := .missed, bound := none }, { boundRow 1438 0 with state := .missed, bound := none }]
        standby := [boundRow 240 90, { boundRow 250 0 with state := .planned, bound := none }, boundRow 260 83]
        swap := .pending }
      ycs := { minute := 3, clockSet := true, mode := .normal, supervision := some 10 } } 3))
    t.ds.active.map (fun r => (r.key, r.state, r.bound)) = [(240, .bound, some 90), (250, .planned, none), (260, .planned, none)]
      ∧ t.ds.standby = [] ∧ t.ds.swap = .none ∧ (t.veh 90).boundRow = some 0 ∧ (t.veh 83).boundRow = none
      ∧ (t.veh 81).state = .out := by decide +kernel

/-- The yard of chapter 7 before minute 350. -/
def blockedCall : State :=
  let s := (((State.reset.setLane 4 { openLane .through 6 0 [41, 42, 43] [] with
      cfg := { capacity := 6, reader := 14, mouth := some 72 } }).setLane
    20 { cfg := { role := .shunt, capacity := 2, reader := 15 }, setState := .opened }).setLane
    21 { openLane .deadEnd 2 0 [49, 48] [] with cfg := { kind := .deadEnd, role := .shunt, capacity := 2, reader := 16 } }).withStation
    72 .display 2
  let s := ((s.withBus 41 .articulated .parked (.lane 4 .present none)).withBus 42 .standard .parked (.lane 4 .present none)
    (some 1)).setVeh 43
    { tag := 1043, propulsion := .electric, battery := some 3500, standby := some 0, lastSoc := some 720, boundRow := some 0
      state := .parked, location := .lane 4 .present none, misorder := true }
  let s := (s.withBus 48 .standard .parked (.lane 21 .present none)).withBus 49 .standard .parked (.lane 21 .present none)
  { s with
    ds := { s.ds with active := [{ boundRow 360 43 with block := 3110, energy := 2600 }, { boundRow 420 42 with block := 3170 }] }
    ycs := { minute := 349, clockSet := true, mode := .normal, supervision := some 10 } }

/-- Chapter 7, minute 350: the call is blocked and short of energy, and the blocker gets lane 20. -/
theorem test_minuteAdvance_calls :
    let t := after (exec (.minuteAdvance AdvanceTaker.all) blockedCall)
    (t.row 0).map (fun r => (r.state, r.callMinute, r.originLane, r.blocked, r.lowEnergy))
        = some (.called, some 350, some 4, true, true)
      ∧ (t.veh 43).state = .called ∧ t.shiftRecord 4 = .shifting 41
      ∧ (t.lane 20).entries = [⟨41, .expected, none⟩] ∧ (t.veh 41).location = .lane 4 .present (some 20)
      ∧ t.blc.originFifo = [⟨72, .sign, [0, 4, 17, 0, 20, 0]⟩] := by decide +kernel

/-- The line of chapter 8 at its start, in the turn given. -/
def stretch (turn : Turn) : State :=
  let add := fun (s : State) (a : Addr) (kind : StationKind) (i : Nat) (polled urgent : Bool) =>
    s.modStation a fun r => { r with cfg := { kind := kind, index := i, polled := polled, urgent := urgent } }
  let s := add (add (add (add State.reset 3 .gateReader 0 true true) 5 .laneReader 6 true true) 9 .charger 14 true false)
    12 .display 1 false false
  let s := (s.modStation 9 fun r => { r with misses := 2 }).modCharger 14 fun r =>
    { r with cfg := { r.cfg with station := some 9 }, grant := 80, state := .charging, resend := false }
  { s with
    blc := { s.blc with
      place := some 5, cycleCount := 6, transactions := 15, turn := turn, originFifo := [⟨12, .sign, []⟩, ⟨9, .setpoint, [0, 80]⟩] }
    ycs := { s.ycs with mode := .normal } }

/-- Chapter 8, turn 2: the address after 5 is 9. -/
theorem test_poll :
    let t := after (exec .poll (stretch .poll))
    t.blc.turn = .polling 9 ∧ t.blc.out.map (List.take 40) = some (([1, 9, 33, 0] : List Byte).flatMap character) := by decide +kernel

/-- Chapter 8, turn 2: the third miss. -/
theorem test_replyTimeout :
    let t := after (exec .replyTimeout (stretch (.polling 9)))
    t.station 9 = { (stretch .poll).station 9 with misses := 3, silent := true } ∧ t.flag .stationSilent = true
      ∧ (t.charger 14).grant = 0 ∧ (t.charger 14).resend = true ∧ t.blc.transactions = 16
      ∧ t.blc.originFifo = [⟨12, .sign, []⟩, ⟨9, .setpoint, [0, 80]⟩] ∧ t.dlp.notices = [.stationSilent 9 .charger 14] := by
  decide +kernel

/-- Chapter 8, turn 2: the SIGN to a display that is not polled is transmitted. -/
theorem test_directiveTurn :
    let t := after (exec .directiveTurn (stretch .directive))
    t.blc.originFifo = [⟨9, .setpoint, [0, 80]⟩] ∧ t.blc.pointer = .forward ∧ t.blc.out.map (List.take 40) = some (([1, 12, 17, 0] : List Byte).flatMap character) := by
  decide +kernel

/-- Chapter 8, turn 2: of 3 and 5, station 3 wins the slot. -/
theorem test_callIn :
    let t := after (exec (.callIn [5, 3]) (stretch .callIn))
    t.blc.turn = .slot (some 3) ∧ t.blc.transactions = 0 ∧ t.blc.out.map (List.take 40) = some (([1, 255, 34, 0] : List Byte).flatMap character) := by
  decide +kernel

/-- Chapter 8, turn 3: the cycle is complete, and the new one, of count 7, begins with station 3. -/
theorem test_poll_new_cycle :
    let s := { stretch .poll with blc := { (stretch .poll).blc with place := some 9 } }
    let t := after (exec .poll s)
    t.blc.turn = .polling 3 ∧ t.blc.cycleCount = 7 := by decide +kernel

/-- The server of chapter 9 with the pointer at a row of FEEDER, and FEEDER row 3 in the latch. -/
def access (row : Nat) : State :=
  let s := (State.reset.setFeeder 2 { cfg := { rated := 600 } }).setFeeder 3 { cfg := { rated := 400 } }
  { s with tau := { table := .feeder, row := row, latch := some ⟨.feeder, 3, s.readRow .feeder 3⟩ } }

/-- Chapter 9, step 8: the old copy is answered with its tag, and at the row limit the latch becomes invalid. -/
theorem test_fetch :
    let t := after (exec .fetch ((access 4).served 51 []))
    t.dlp.answer.map (fun a => (a.outcome, a.data.take 5)) = some (.ok, [3, 0, 3, 1, 144]) ∧ t.tau = ⟨.feeder, 4, none⟩ := by
  decide +kernel

/-- Chapter 9, step 9: an invalid latch answers no row. -/
theorem test_fetch_no_row :
    let t := after (exec .fetch (State.served { access 4 with tau := ⟨.feeder, 4, none⟩ } 51 []))
    t.dlp.answer.map Answer.data = some [255, 255, 255] ∧ t.tau.row = 4 := by decide +kernel

/-- Chapter 9, step 7: the answer carries the row as it was, and the latch keeps its copy. -/
theorem test_putFeeder :
    let s := (access 3).served 50 (toBytes 2 500 ++ toBytes 2 600 ++ [255] ++ toBytes 2 0)
    let t := after (exec .putFeeder s)
    (t.feeder 3).cfg.rated = 500 ∧ t.tau = { s.tau with row := 4 }
      ∧ t.dlp.answer.map (fun a => (a.outcome, a.data.take 5)) = some (.ok, [3, 0, 3, 1, 144]) := by decide +kernel

/-- Chapter 9, step 5: at the row limit a PUT is answered RANGE and nothing moves. -/
theorem test_put_range :
    let s := (access 4).served 50 (toBytes 2 500 ++ toBytes 2 600 ++ [255] ++ toBytes 2 0)
    let t := after (exec .putReadOnly s)
    t.dlp.answer.map (fun a => (a.outcome, a.data)) = some (.range, []) ∧ t.tau = s.tau ∧ t.ca = s.ca := by decide +kernel

/-! ### States that meet the hypotheses of the obligations, clause by clause -/

/-- A small yard: the server at 0, the gate reader at 3, lane 0 THROUGH with its reader at 5 and lane 1 DEAD_END with its
reader at 6, charger 0 at 9 with feeder 0 and its meter at 60, a FUEL bay at 30 and a WASH bay at 31, a display at 12, a
DIESEL bus in slot 0 and an ELECTRIC one in slot 1, both OUT. -/
def yard : State :=
  let s := State.reset.modStation 0 fun r => { r with cfg := { kind := .server, level := 0 } }
  let s := (((s.withStation 3 .gateReader 0).withStation 5 .laneReader 0).withStation 6 .laneReader 1).withStation 9 .charger 0
  let s := (((s.withStation 30 .bayUnit 0).withStation 31 .bayUnit 1).withStation 60 .meter 0).withStation 12 .display 1
  let s := (s.setLane 0 { cfg := { capacity := 4, reader := 5 }, setState := .opened }).setLane 1
    { cfg := { kind := .deadEnd, capacity := 4, reader := 6 }, setState := .opened }
  let s := (s.setBay 0 { cfg := { kind := .fuel, unit := some 30 } }).setBay 1 { cfg := { kind := .wash, unit := some 31 } }
  let s := (s.setCharger 0 { cfg := { station := some 9, pMax := 100 } }).setFeeder 0 { cfg := { rated := 200, limit := 100, meter := some 60 } }
  (s.setVeh 0 { tag := 1000 }).setVeh 1 { tag := 1001, propulsion := .electric, battery := some 3000, standby := some 2000 }

/-- Empty queues are of their kind. -/
theorem emptyQueues {s : State} (hf : s.stc.fuelQueue = []) (hw : s.stc.washQueue = []) : s.QueuesOfTheirKind := by
  intro k t ht
  cases k
  · rw [show s.queue .fuel = s.stc.fuelQueue from rfl, hf] at ht
    exact nomatch ht
  · rw [show s.queue .wash = s.stc.washQueue from rfl, hw] at ht
    exact nomatch ht

/-- A queue of WASH tickets alone is of its kind. -/
theorem washQueue {s : State} {k : Ticket} (hf : s.stc.fuelQueue = []) (hw : s.stc.washQueue = [k]) (hk : k.kind = .wash) :
    s.QueuesOfTheirKind := by
  intro j t ht
  cases j
  · rw [show s.queue .fuel = s.stc.fuelQueue from rfl, hf] at ht
    exact nomatch ht
  · rw [show s.queue .wash = s.stc.washQueue from rfl, hw] at ht
    cases List.mem_singleton.mp ht
    exact hk

theorem witness_StepRunsFrontCommand :
    (∃ s : State, ∃ c rest, s.pending = c :: rest) ∧ ∃ s : State, s.pending = [] :=
  ⟨⟨{ yard with pending := [.poll, .store] }, .poll, [.store], rfl⟩, State.reset, rfl⟩

theorem witness_TelegramsRoundTrip :
    (∃ t : Telegram, t.payload.length = 48 ∧ (t.dest = none → t.kind = 34))
      ∧ (∃ t : Telegram, t.payload.length ≤ 48 ∧ t.dest = none ∧ t.kind = 34)
      ∧ ∃ bytes t, parseTelegram bytes = some t :=
  ⟨⟨⟨9, some 1, 8, List.replicate 48 7⟩, by decide⟩, ⟨⟨1, none, 34, []⟩, by decide⟩,
    telegramBytes ⟨9, some 1, 10, []⟩, ⟨9, some 1, 10, []⟩, by decide +kernel⟩

theorem witness_PowerOnLoadsTheImage :
    (∃ s : State, ∃ c, s.ss.flash = some c) ∧ ∃ s : State, s.ss.flash = none :=
  ⟨⟨{ yard with ss := { yard.ss with flash := some yard.configuration } }, yard.configuration, rfl⟩, yard, rfl⟩

theorem witness_SoftResetKeepsConfiguration :
    (∃ s : State, s.dlp.reset = .due ∧ s.ss.storing = true) ∧ ∃ s : State, s.dlp.reset = .due ∧ s.ss.storing = false :=
  ⟨⟨{ yard with dlp := { yard.dlp with reset := .due }, ss := { yard.ss with storing := true } }, rfl, rfl⟩,
    { yard with dlp := { yard.dlp with reset := .due } }, rfl, rfl⟩

/-- A yard at work: a charger with a grant, a bay in service, a CALLED row, and a command waiting. -/
def atWork : State :=
  let s := (yard.setVeh 1 { yard.veh 1 with
    state := .parked, location := .lane 0 .present none, lastSoc := some 100, boundRow := some 0 }).setLane 0
    { yard.lane 0 with entries := [⟨1, .present, none⟩] }
  let s := s.modVeh 0 fun r => { r with state := .service, location := .bay 1 }
  let s := (s.modCharger 0 fun r => { r with state := .charging, connected := some 1, grant := 100 }).modFeeder 0
    fun r => { r with budget := 200 }
  let s := s.modBay 1 fun r => { r with state := .busy, ticket := some (ticket 0 .wash 5 0 .inBay), overstayTimer := some 10 }
  { s with
    ds := { s.ds with active := [boundRow 300 1, { boundRow 350 0 with state := .planned, bound := none }] }
    ycs := { minute := 1439, clockSet := true, mode := .normal, supervision := some 10 }
    pending := [.minuteAdvance AdvanceTaker.all, .poll] }

theorem witness_EveryStepKeepsBuffersAndStations :
    ∃ s t : State, s.BuffersBounded ∧ s.StationLaw ∧ step s = .next t := by
  refine ⟨atWork, _, ?_, ?_, rfl⟩
  · unfold State.BuffersBounded; decide +kernel
  · unfold State.StationLaw; decide +kernel

theorem atWork_rangeLaw : atWork.RangeLaw := by
  refine ⟨?_, fun c hc => nomatch hc⟩
  refine ⟨?_, ?_, ?_, ?_, ?_⟩
  · unfold StationCfg.indexInRange; decide +kernel
  · decide +kernel
  · decide +kernel
  · decide +kernel
  · unfold Params.InRange; decide +kernel

theorem witness_EveryStepKeepsSupervisionAndSettings :
    ∃ s t : State, s.SupervisionLaw ∧ s.SettingsLaw ∧ s.RangeLaw ∧ step s = .next t := by
  refine ⟨atWork, _, ?_, ?_, atWork_rangeLaw, rfl⟩
  · unfold State.SupervisionLaw; decide +kernel
  · unfold State.SettingsLaw; decide +kernel

/-- No bus of the yard at work stands with a shunt reservation. -/
theorem atWork_not_shifted (v : Slot) (l m : LaneNo) : (atWork.veh v).location ≠ .lane l .present (some m) := by
  have none_shifted : ∀ v, (match (atWork.veh v).location with
    | .lane _ .present (some _) => false
    | _ => true) = true := by decide +kernel
  intro h
  have hv := none_shifted v
  rw [h] at hv
  exact nomatch hv

theorem atWork_fleetLaw : atWork.FleetLaw := by
  have tags : ∀ v, (atWork.veh v).tag = if v = 0 then 1000 else if v = 1 then 1001 else 0 := by decide +kernel
  have records : ∀ v, ((atWork.veh v).tag = 0 → atWork.veh v = {}) ∧ ((atWork.veh v).held = true → (atWork.veh v).boundRow = none)
      ∧ ((atWork.veh v).shift = true → (atWork.veh v).state = .toBerth)
      ∧ (atWork.inSomeLane v = false → (atWork.veh v).misorder = false) := by decide +kernel
  refine ⟨fun v => ⟨(records v).1, (records v).2.1, (records v).2.2.1, fun l m h => absurd h (atWork_not_shifted v l m),
    (records v).2.2.2⟩, fun v w h hv => ?_⟩
  rw [tags v, tags w] at h
  rw [tags v] at hv
  clear tags records
  by_cases hv0 : v = 0 <;> by_cases hv1 : v = 1 <;> by_cases hw0 : w = 0 <;> by_cases hw1 : w = 1 <;>
    simp [hv0, hv1, hw0, hw1] at h hv ⊢

theorem atWork_bindingLaw : atWork.BindingLaw := by
  have fields : ∀ v, (atWork.veh v).boundRow = if v = 1 then some 0 else none := by decide +kernel
  have quiet : ∀ v, ¬ ((atWork.veh v).state = .called ∨ (atWork.veh v).state = .departing)
      ∧ (atWork.boundPlan v).all (fun r => r.state ≠ .called) = true := by decide +kernel
  refine ⟨fun v i => ⟨fun h => ?_, ?_⟩, fun v => ⟨fun h => absurd h (quiet v).1, ?_⟩, ?_, ?_, ?_⟩
  · rw [fields v] at h
    split at h
    next hv => cases h; subst hv; exact ⟨boundRow 300 1, rfl, by decide⟩
    next => cases h
  · rintro ⟨r, hr, hb⟩
    rw [fields v]
    match i, hr with
    | 0, hr =>
      cases (show some (boundRow 300 1) = some r from hr)
      have hv : v = 1 := by
        have := hb
        simp [PlanRow.binds, boundRow] at this
        exact this.symm
      simp [hv]
    | 1, hr =>
      cases (show some { boundRow 350 0 with state := .planned, bound := none } = some r from hr)
      simp [PlanRow.binds] at hb
    | n + 2, hr => exact nomatch (show (none : Option PlanRow) = some r from hr)
  · rintro ⟨r, hr, hc⟩
    have := (quiet v).2
    rw [hr] at this
    simp [hc] at this
  · decide +kernel
  · intro r hr
    exact nomatch (show r ∈ ([] : List PlanRow) from hr)
  · intro h
    exact nomatch (show SwapRegister.none = SwapRegister.pending from h)

theorem atWork_lawful : atWork.Lawful := by
  refine ⟨⟨?_, ?_, ?_, ?_, ?_, ?_, ?_, ?_⟩, atWork_rangeLaw, atWork_fleetLaw, ?_, ?_, ?_, ?_, atWork_bindingLaw, ?_, ?_⟩
  · unfold State.BuffersBounded; decide +kernel
  · unfold State.SupervisionLaw; decide +kernel
  · unfold State.StationLaw; decide +kernel
  · unfold State.SettingsLaw; decide +kernel
  · unfold State.GrantLaw; decide +kernel
  · unfold State.BayLaw; decide +kernel
  · unfold State.PlanLaw; decide +kernel
  · unfold State.AtRest; decide +kernel
  · unfold State.PlaceLaw; decide +kernel
  · unfold State.LaneLaw; decide +kernel
  · intro l v
    have idle : ∀ l, atWork.shiftRecord l = .idle := by decide +kernel
    rw [idle l]
    exact ⟨nofun, fun ⟨m, h⟩ => absurd h (atWork_not_shifted v l m)⟩
  · refine ⟨?_, ?_, ?_⟩
    · intro k; cases k <;> exact nofun
    · intro b t ht
      have bays : ∀ b : BayNo, (atWork.bay b).ticket = if b = 1 then some (ticket 0 .wash 5 0 .inBay) else none := by decide +kernel
      rw [bays b] at ht
      split at ht
      next hb => cases ht; subst hb; decide +kernel
      next => cases ht
    · intro k; cases k <;> decide +kernel
  · unfold State.FeederLaw; decide +kernel
  · unfold State.ConnectionLaw; decide +kernel

theorem witness_EveryStepKeepsGrantLaw :
    (∃ s t : State, s.GrantLaw ∧ step s = .next t) ∧ ∃ s t : State, s.Lawful ∧ step s = .next t := by
  refine ⟨⟨atWork, _, ?_, rfl⟩, atWork, _, atWork_lawful, rfl⟩
  unfold State.GrantLaw; decide +kernel

theorem witness_EveryStepKeepsBayLaw : ∃ s t : State, s.BayLaw ∧ step s = .next t := by
  refine ⟨atWork, _, ?_, rfl⟩
  unfold State.BayLaw; decide +kernel

theorem witness_EveryStepKeepsPlanLaw : ∃ s t : State, s.PlanLaw ∧ step s = .next t := by
  refine ⟨atWork, _, ?_, rfl⟩
  unfold State.PlanLaw; decide +kernel

theorem witness_EveryStepEndsAtRest : ∃ s t : State, s.AtRest ∧ step s = .next t := by
  refine ⟨atWork, _, ?_, rfl⟩
  unfold State.AtRest; decide +kernel

/-- A payload of PARAMS with every parameter at its default but the server's station. -/
def paramsPayload (server : Byte) : List Byte := [server, 10, 10, 2, 90, 30, 5, 2, 12, 10, 10, 60, 10, 5]

theorem witness_ConfigurationChangesOnlyBy :
    (∃ s t : State, exec .putParams s = .next t ∧ t.configuration ≠ s.configuration)
      ∧ (∃ s t : State, s.SettingsLaw ∧ s.ss.storing = true ∧ exec .poll s = .next t) := by
  constructor
  · refine ⟨yard.putting .params 0 (paramsPayload 7), _, rfl, ?_⟩
    decide +kernel
  · refine ⟨{ yard with ss := { yard.ss with storing := true } }, _, ?_, rfl, rfl⟩
    unfold State.SettingsLaw; decide +kernel

theorem witness_FlagsStayUntilCleared :
    ∃ s t : State, exec .poll s = .next t ∧ s.flag .noBerth = true := by
  refine ⟨yard.raise .noBerth, _, rfl, ?_⟩
  decide +kernel

theorem witness_FallbackUntilTheServerIsHeard :
    (∃ s t : State, s.ycs.mode = .fallback ∧ s.dlp.notices ≠ [] ∧ exec .transmitNotice s = .next t)
      ∧ ∃ s t : State, s.ycs.mode = .fallback ∧ exec (.requestReceived 0 51 []) s = .next t ∧ t.ycs.mode = .normal := by
  constructor
  · exact ⟨{ yard with dlp := { yard.dlp with notices := [.noBerth 1000 0 .gate 1] } }, _, rfl, by decide, rfl⟩
  · refine ⟨yard, _, rfl, rfl, ?_⟩
    decide +kernel

theorem witness_LatchedUntilCleared :
    (∃ s t : State, (s.feeder 3).state = .tripped ∧ exec (.minuteAdvance AdvanceTaker.all) s = .next t)
      ∧ ∃ s t : State, (s.bay 5).state = .out ∧ (s.bay 5).ticket = none ∧ exec .openBay s = .next t := by
  constructor
  · refine ⟨yard.modFeeder 3 fun r => { r with state := .tripped }, _, ?_, rfl⟩
    decide +kernel
  · refine ⟨yard.modBay 5 fun r => { r with state := .out }, _, ?_, ?_, rfl⟩ <;> decide +kernel

theorem witness_PollTurn :
    (∃ s : State, s.blc.turn = .poll ∧ s.pollChoice = (s.blc.cycleCount, some 5))
      ∧ (∃ s : State, s.blc.turn = .poll ∧ s.pollChoice = ((s.blc.cycleCount + 1) % 8, some 3))
      ∧ (∃ s : State, s.blc.turn = .poll ∧ s.pollChoice = (1, none))
      ∧ ∃ s : State, s.blc.turn = .poll ∧ s.takenInCycle 0 3 = true ∧ s.takenInCycle 1 3 = false ∧ s.pollChoice = (1, none) := by
  let s := (yard.marked 3).marked 5
  let silent := (yard.marked 3).modStation 3 fun r => { r with misses := 3, silent := true }
  refine ⟨⟨{ s with blc := { s.blc with place := some 3 } }, ?_⟩,
    ⟨{ s with blc := { s.blc with place := some 5, cycleCount := 7 } }, ?_⟩, ⟨yard, ?_⟩,
    { silent with blc := { silent.blc with place := some 3 } }, ?_⟩ <;> decide +kernel

theorem witness_MissesAndSilence :
    (∃ s : State, s.blc.turn = .polling 3 ∧ (s.station 3).misses = 1)
      ∧ (∃ s : State, s.blc.turn = .polling 3 ∧ (s.station 3).silent = true)
      ∧ (∃ s : State, s.blc.turn = .polling 9 ∧ (s.station 9).misses = 2 ∧ (s.station 9).silent = false
          ∧ (s.charger 0).cfg.station = some 9)
      ∧ (∃ s : State, s.blc.turn = .polling 60 ∧ (s.station 60).misses = 2 ∧ (s.station 60).silent = false
          ∧ (s.feeder 0).cfg.meter = some 60)
      ∧ ∃ s : State, s.Answers 31 10 ∧ (s.station 31).silent = true ∧ (s.bay 1).cfg.unit = some 31
          ∧ (∀ d, d ≠ 1 → (s.bay d).cfg.unit ≠ some 31) ∧ (s.bay 1).state = .free ∧ s.queue (s.bay 1).cfg.kind ≠ [] := by
  refine ⟨⟨(yard.modStation 3 fun r => { r with misses := 1 }).polled 3, ?_⟩,
    ⟨(yard.modStation 3 fun r => { r with misses := 3, silent := true }).polled 3, ?_⟩,
    ⟨(yard.modStation 9 fun r => { r with misses := 2 }).polled 9, ?_⟩,
    ⟨(yard.modStation 60 fun r => { r with misses := 2 }).polled 60, ?_⟩,
    (State.setQueue (yard.modStation 31 fun r => { r with misses := 3, silent := true }) .wash [ticket 0 .wash 5]).polled 31, ?_⟩
  · decide +kernel
  · decide +kernel
  · decide +kernel
  · decide +kernel
  · unfold State.Answers; decide +kernel

theorem witness_DirectiveTurn :
    let d : Directive := ⟨12, .sign, []⟩
    (∃ s : State, s.blc.turn = .directive ∧ s.blc.originFifo = [] ∧ s.blc.forwardFifo = [])
      ∧ (∃ s : State, s.blc.turn = .directive ∧ s.blc.originFifo = [d] ∧ s.blc.forwardFifo = [d] ∧ s.blc.pointer = .origin
          ∧ berthKind (s.station d.dest).cfg.kind = true)
      ∧ (∃ s : State, s.blc.turn = .directive ∧ s.blc.originFifo = [⟨127, .call, []⟩] ∧ s.blc.forwardFifo = []
          ∧ berthKind (s.station 127).cfg.kind = false)
      ∧ (∃ s : State, s.blc.turn = .directive ∧ s.blc.forwardFifo = [d] ∧ s.blc.originFifo = [])
      ∧ ∃ s : State, s.blc.turn = .directive ∧ s.blc.forwardFifo = [d] ∧ s.blc.originFifo = [d] ∧ s.blc.pointer = .forward := by
  intro d
  let turn := fun (origin forward : List Directive) (p : TurnPointer) => { yard with
    blc := { yard.blc with turn := .directive, originFifo := origin, forwardFifo := forward, pointer := p, transactions := 16 } }
  refine ⟨⟨turn [] [] .origin, ?_⟩, ⟨turn [d] [d] .origin, ?_⟩, ⟨turn [⟨127, .call, []⟩] [] .forward, ?_⟩,
    ⟨turn [] [d] .origin, ?_⟩, turn [d] [d] .forward, ?_⟩ <;> decide +kernel

theorem witness_CallInTurn :
    (∃ s : State, s.blc.turn = .callIn ∧ s.holdsSlots = true) ∧ (∃ s : State, s.blc.turn = .callIn ∧ s.holdsSlots = false)
      ∧ ∃ s : State, s.blc.turn = .slot none := by
  refine ⟨⟨(yard.marked 3).inTurn .callIn, ?_⟩, ⟨yard.inTurn .callIn, ?_⟩, yard.inTurn (.slot none), rfl⟩ <;> decide +kernel

/-- A turn of the line, with the stations whose transactions a soft reset abandoned. -/
def cutOff (s : State) (turn : Turn) (stations : List Addr) : State :=
  { s with blc := { s.blc with turn := turn, abandoned := stations } }

theorem witness_RejectedFrames :
    let wrong (s : State) (f : Telegram) : Prop := s.blc.turn = .polling f.src ∧ parseTelegram (telegramBytes f) = some f ∧ s.AtRest
    (∃ s : State, s.blc.turn = .polling 3 ∧ parseTelegram [] = none)
      ∧ (∃ s : State, wrong s ⟨127, some 1, 10, []⟩ ∧ s.knownSource 127 = false ∧ (s.station 127).silent = false)
      ∧ (∃ s : State, wrong s ⟨3, some 1, 9, [0, 5]⟩ ∧ s.knownSource 3 = true ∧ s.reportFits ⟨3, some 1, 9, [0, 5]⟩ = false
          ∧ (s.station 3).silent = false)
      ∧ (∃ s : State, wrong s ⟨3, some 1, 9, [0, 5]⟩ ∧ s.knownSource 3 = true ∧ s.reportFits ⟨3, some 1, 9, [0, 5]⟩ = false
          ∧ (s.station 3).silent = true ∧ s.waitList = []
          ∧ ∀ b, (s.bay b).cfg.unit = some 3 → (s.bay b).state ≠ .free ∨ s.queue (s.bay b).cfg.kind = [])
      ∧ ∃ s : State, wrong s ⟨127, some 1, 10, []⟩ ∧ s.knownSource 127 = false ∧ (s.station 127).silent = true
          ∧ s.waitList ≠ [] := by
  intro wrong
  let silent := fun a => yard.modStation a fun r => { r with misses := 3, silent := true }
  refine ⟨⟨yard.polled 3, rfl, rfl⟩, ⟨yard.polled 127, ?_⟩, ⟨yard.polled 3, ?_⟩, ⟨(silent 3).polled 3, ?_⟩,
    { (silent 127).polled 127 with waitList := [⟨0, .gate, 5⟩] }, ?_⟩
  all_goals simp only [wrong, State.AtRest]; decide +kernel

theorem witness_RejectedFrames_slot :
    let arrives (s : State) (f : Telegram) : Prop := s.blc.turn = .slot (some f.src) ∧ parseTelegram (telegramBytes f) = some f
    (∃ s : State, s.blc.turn = .slot (some 3)
        ∧ parseTelegram (telegramBytes ⟨5, some 1, 10, []⟩) = some ⟨5, some 1, 10, []⟩ ∧ (5 : Addr) ∉ s.blc.abandoned)
      ∧ (∃ s : State, arrives s ⟨127, some 1, 10, []⟩ ∧ s.knownSource 127 = false)
      ∧ (∃ s : State, arrives s ⟨3, some 1, 9, [0, 5]⟩ ∧ s.knownSource 3 = true ∧ (s.station 3).cfg.urgent = true
          ∧ s.reportFits ⟨3, some 1, 9, [0, 5]⟩ = false)
      ∧ ∃ s : State, arrives s ⟨3, some 1, 10, []⟩ ∧ s.knownSource 3 = true ∧ s.reportFits ⟨3, some 1, 10, []⟩ = true
          ∧ (s.station 3).cfg.urgent = false := by
  intro arrives
  refine ⟨⟨yard.inTurn (.slot (some 3)), ?_⟩, ⟨yard.inTurn (.slot (some 127)), ?_⟩, ⟨(yard.marked 3).inTurn (.slot (some 3)), ?_⟩,
    yard.inTurn (.slot (some 3)), ?_⟩
  all_goals decide +kernel

theorem witness_RejectedFrames_abandoned :
    let frame (f : Telegram) : Prop := parseTelegram (telegramBytes f) = some f
    (∃ s : State, s.blc.turn = .callIn ∧ parseTelegram [] = none ∧ s.blc.abandoned = [])
      ∧ (∃ s : State, s.blc.turn = .poll ∧ frame ⟨5, some 1, 10, []⟩ ∧ s.blc.abandoned = [3])
      ∧ (∃ s : State, s.blc.turn = .polling 5 ∧ frame ⟨3, some 1, 10, []⟩ ∧ s.blc.abandoned = [3])
      ∧ (∃ s : State, s.blc.turn = .directive ∧ parseTelegram [] = none ∧ s.blc.abandoned = [3])
      ∧ (∃ s : State, s.blc.turn = .directive ∧ (3 : Addr) ∉ s.blc.abandoned)
      ∧ ∃ s : State, s.blc.turn = .polling 5 ∧ (3 : Addr) ∈ s.blc.abandoned := by
  intro frame
  refine ⟨⟨cutOff yard .callIn [], ?_⟩, ⟨cutOff yard .poll [3], ?_⟩, ⟨cutOff yard (.polling 5) [3], ?_⟩,
    ⟨cutOff yard .directive [3], ?_⟩, ⟨cutOff yard .directive [5], ?_⟩, cutOff yard (.polling 5) [5, 3], ?_⟩
  all_goals decide +kernel

/-- R160: after a soft reset in a poll transaction of station 3, its late frame is discarded without a flag, in the turn of
another station too; from its own next poll on a frame of it that fails a check raises LINE_CHECK_ERROR. -/
theorem test_softReset_late_frame :
    let s := after (exec .softReset { yard.polled 3 with dlp := { yard.dlp with reset := .due } })
    s.blc.abandoned = [3] ∧ after (exec (.gateIn 3 1000) s) = s ∧ after (exec (.gateIn 3 1000) (s.inTurn (.polling 5))) = s.inTurn (.polling 5)
      ∧ (after (exec (.berthFrameRejected []) (s.inTurn (.polling 3)))).flag .lineCheckError = true := by decide +kernel

theorem witness_ReportEndsItsTurn :
    (∃ s : State, reportOf (.gateIn 3 1000) = some (3, 1, toBytes 3 1000) ∧ s.knownSource 3 = true
        ∧ sends (s.station 3).cfg.kind 1 = true ∧ s.blc.turn = .polling 3 ∧ (s.station 3).cfg.action = .copy
        ∧ s.dlp.forwards.length = 31)
      ∧ (∃ s : State, s.knownSource 3 = true ∧ sends (s.station 3).cfg.kind 1 = true ∧ s.blc.turn = .slot (some 3)
        ∧ (s.station 3).cfg.urgent = true ∧ (s.station 3).cfg.action = .pass ∧ s.dlp.forwards.length = 32)
      ∧ ∃ s : State, reportOf (.nothing 3) = some (3, 10, []) ∧ s.knownSource 3 = true
        ∧ sends (s.station 3).cfg.kind 10 = true ∧ s.blc.turn = .polling 3 := by
  let s := fun n action => { (yard.marked 3).modStation 3 fun r => { r with cfg := { r.cfg with action := action } } with
    dlp := { yard.dlp with forwards := List.replicate n ⟨5, 4, [0, 0, 1]⟩ } }
  refine ⟨⟨State.polled (s 31 .copy) 3, ?_⟩, ⟨State.inTurn (s 32 .pass) (.slot (some 3)), ?_⟩,
    State.polled (s 0 .consume) 3, ?_⟩ <;> decide +kernel

theorem witness_FormsOfAReportAgree :
    ∃ s t : State, reportOf (.gateIn 3 1000) = some (3, 1, toBytes 3 1000) ∧ s.Answers 3 1
      ∧ exec (.gateIn 3 1000) s = .next t ∧ (s.station 3).cfg.urgent = true ∧ (s.station 3).cfg.action = .consume := by
  refine ⟨(yard.marked 3).polled 3, _, rfl, ?_, rfl, ?_⟩
  · unfold State.Answers; decide +kernel
  · decide +kernel

theorem witness_RepliesThatDoNothingElse :
    let passes (s : State) (c : Instr) (src : Addr) (kind : Byte) (payload : List Byte) : Prop :=
      reportOf c = some (src, kind, payload) ∧ s.Answers src kind ∧ (s.station src).silent = false ∧ s.AtRest
        ∧ (s.station src).cfg.action = .pass ∧ s.dlp.forwards.length = 31
    (∃ s : State, s.Answers 3 10 ∧ (s.station 3).silent = false ∧ s.AtRest)
      ∧ (∃ s : State, passes s (.gateIn 3 1000) 3 1 (toBytes 3 1000) ∧ s.slotOf 1000 = some 0)
      ∧ (∃ s : State, passes s (.bayDone 30) 30 6 [])
      ∧ (∃ s : State, passes s (.gateIn 3 999) 3 1 (toBytes 3 999) ∧ s.slotOf 999 = none)
      ∧ (∃ s : State, s.slotOf (2 ^ 24 % 2 ^ 24) = none ∧ s.Delivers 3 1)
      ∧ (∃ s : State, s.slotOf (999 % 2 ^ 24) = none ∧ s.Delivers 3 2)
      ∧ (∃ s : State, s.slotOf (999 % 2 ^ 24) = none ∧ s.Delivers 5 3)
      ∧ (∃ s : State, s.slotOf (999 % 2 ^ 24) = none ∧ s.Delivers 5 4)
      ∧ ∃ s : State, s.slotOf (999 % 2 ^ 24) = none ∧ s.Delivers 30 5 := by
  intro passes
  let passing := fun a => { yard.modStation a fun r => { r with cfg := { r.cfg with action := .pass } } with
    dlp := { yard.dlp with forwards := List.replicate 31 ⟨5, 4, [0, 0, 1]⟩ } }
  refine ⟨⟨yard.polled 3, ?_⟩, ⟨State.polled (passing 3) 3, ?_⟩, ⟨State.polled (passing 30) 30, ?_⟩, ⟨State.polled (passing 3) 3, ?_⟩,
    ⟨yard.polled 3, ?_⟩, ⟨yard.polled 3, ?_⟩, ⟨yard.polled 5, ?_⟩, ⟨yard.polled 5, ?_⟩, yard.polled 30, ?_⟩
  on_goal 1 => unfold State.Answers State.AtRest; decide +kernel
  iterate 3 on_goal 1 => simp only [passes, State.Answers, State.AtRest]; decide +kernel
  all_goals unfold State.Delivers State.Answers State.AtRest; decide +kernel

/-- Queues of tickets of their kinds. -/
theorem queuesOfTheirKind {s : State} (hf : ∀ k ∈ s.stc.fuelQueue, k.kind = .fuel) (hw : ∀ k ∈ s.stc.washQueue, k.kind = .wash) :
    s.QueuesOfTheirKind
  | .fuel => hf
  | .wash => hw

/-- A full service queue. -/
def filled (s : State) (k : QueueKind) : State := s.setQueue k (List.replicate 64 (ticket 200 k 5))

theorem witness_GateInStartsAVisit_service :
    let enters (s : State) (v : Slot) (p : Propulsion) (n : Nat) : Prop :=
      s.Delivers 3 1 ∧ s.slotOf (1000 + v.val) = some v ∧ (s.veh v).state = .out ∧ (s.veh v).propulsion = p
        ∧ (s.veh v).washCounter = n ∧ s.ss.params.washInterval = 2 ∧ s.hasTicket v = false ∧ s.inSomeLane v = false
        ∧ (∀ w ∈ s.waitList, w.slot ≠ v)
    (∃ s : State, enters s 1 .electric 1 ∧ s.liveTickets .wash = 0 ∧ s.QueuesOfTheirKind)
      ∧ (∃ s : State, enters s 0 .diesel 0 ∧ s.liveTickets .fuel = 64 ∧ s.QueuesOfTheirKind)
      ∧ (∃ s : State, enters s 0 .diesel 7 ∧ s.liveTickets .fuel = 64 ∧ s.liveTickets .wash = 64 ∧ s.QueuesOfTheirKind)
      ∧ (∃ s : State, enters s 1 .electric 7 ∧ s.liveTickets .wash = 64 ∧ s.QueuesOfTheirKind)
      ∧ ∃ s : State, enters s 0 .diesel 1 ∧ s.liveTickets .fuel = 64 ∧ s.liveTickets .wash = 0 ∧ s.QueuesOfTheirKind := by
  intro enters
  let s := fun n => (yard.modVeh 0 fun r => { r with washCounter := n }).modVeh 1 fun r => { r with washCounter := n }
  refine ⟨⟨(s 1).polled 3, ?_, ?_, emptyQueues rfl rfl⟩, ⟨(filled (s 0) .fuel).polled 3, ?_, ?_, queuesOfTheirKind ?_ ?_⟩,
    ⟨(filled (filled (s 7) .fuel) .wash).polled 3, ?_, ?_, ?_, queuesOfTheirKind ?_ ?_⟩,
    ⟨(filled (s 7) .wash).polled 3, ?_, ?_, queuesOfTheirKind ?_ ?_⟩, (filled (s 1) .fuel).polled 3, ?_, ?_, ?_, queuesOfTheirKind ?_ ?_⟩
  all_goals try simp only [enters, State.Delivers, State.Answers, State.AtRest]
  all_goals decide +kernel

theorem witness_GateInStartsAVisit :
    (∃ s : State, s.Delivers 3 1 ∧ s.slotOf 1000 = some 0 ∧ (s.veh 0).state = .out ∧ (s.veh 0).propulsion = .diesel
        ∧ s.hasTicket 0 = false ∧ s.liveTickets .fuel = 0 ∧ s.QueuesOfTheirKind)
      ∧ (∃ s : State, s.Delivers 3 1 ∧ s.slotOf 1001 = some 1 ∧ (s.veh 1).state = .out ∧ (s.veh 1).propulsion = .electric
        ∧ min 7 ((s.veh 1).washCounter + 1) < s.ss.params.washInterval ∧ s.inSomeLane 1 = false
        ∧ (∀ w ∈ s.waitList, w.slot ≠ 1) ∧ s.NoneBlocked ∧ s.candidate .park 1 0 = true)
      ∧ ∃ s : State, s.Delivers 3 1 ∧ s.slotOf 1001 = some 1 ∧ (s.veh 1).state = .out ∧ (s.veh 1).propulsion = .electric
        ∧ min 7 ((s.veh 1).washCounter + 1) < s.ss.params.washInterval ∧ s.inSomeLane 1 = false
        ∧ (∀ w ∈ s.waitList, w.slot ≠ 1) ∧ s.NoneBlocked ∧ ∀ l, s.candidate .park 1 l = false := by
  let closed := (yard.modLane 0 fun r => { r with setState := .closed }).modLane 1 fun r => { r with setState := .closed }
  refine ⟨⟨yard.polled 3, ?_, ?_, ?_, ?_, ?_, ?_, emptyQueues rfl rfl⟩, ⟨yard.polled 3, ?_⟩, State.polled closed 3, ?_⟩
  on_goal 1 => unfold State.Delivers State.Answers State.AtRest; decide +kernel
  iterate 5 on_goal 1 => decide +kernel
  all_goals unfold State.Delivers State.Answers State.AtRest State.NoneBlocked; decide +kernel

/-- The yard with bus 0 in a state and place, and a row of the ACTIVE bank that its record names. -/
def placed (state : VehicleState) (loc : Location) (row : Option PlanRow := none) : State :=
  { yard.modVeh 0 fun r => { r with state := state, location := loc, boundRow := row.map fun _ => 0 } with
    ds := { yard.ds with active := row.toList } }

/-- A lane list. -/
def withList (s : State) (l : LaneNo) (entries : List Entry) : State := s.modLane l fun r => { r with entries := entries }

/-- A row that has called bus 0. -/
def calledRow : PlanRow := { boundRow 300 0 with state := .called }

theorem witness_GateInStartsAVisit_reentry :
    (∃ s : State, s.Delivers 3 1 ∧ s.slotOf 1000 = some 0 ∧ (s.veh 0).state = .departing ∧ (s.veh 0).boundRow = some 0
        ∧ s.row 0 = some calledRow ∧ s.ds.swap ≠ .pending)
      ∧ ∃ s : State, s.Delivers 3 1 ∧ s.slotOf 1000 = some 0 ∧ (s.veh 0).state = .lost ∧ s.ycs.mode = .normal
        ∧ s.dlp.notices.length = 15 := by
  refine ⟨⟨(placed .departing (.enRoute none) calledRow).polled 3, ?_⟩,
    { (placed .lost .none).polled 3 with
      ycs := { yard.ycs with mode := .normal, supervision := some 10 }
      dlp := { yard.dlp with notices := List.replicate 15 (.noBerth 1000 0 .gate 1) } }, ?_⟩
  all_goals unfold State.Delivers State.Answers State.AtRest; decide +kernel

theorem witness_GateOutEndsAVisit :
    (∃ s : State, s.Delivers 3 2 ∧ s.slotOf 1000 = some 0 ∧ (s.veh 0).state = .out)
      ∧ ∃ s : State, s.Delivers 3 2 ∧ s.slotOf 1000 = some 0 ∧ (s.veh 0).state = .departing ∧ (s.veh 0).boundRow = some 0
        ∧ (s.row 0).map PlanRow.state = some .called ∧ (s.row 0).bind PlanRow.bound = some 0 ∧ s.ds.swap ≠ .pending
        ∧ s.ycs.mode = .normal ∧ s.dlp.notices.length = 15 ∧ s.waitList = [] ∧ s.flag .unscheduledExit = false
        ∧ s.flag .yardConflict = false := by
  let called := { yard.modVeh 0 fun r => { r with state := .departing, boundRow := some 0 } with
    ds := { yard.ds with active := [{ boundRow 300 0 with state := .called }] }
    ycs := { yard.ycs with mode := .normal, supervision := some 10 }
    dlp := { yard.dlp with notices := List.replicate 15 (.noBerth 1000 0 .gate 1) } }
  refine ⟨⟨yard.polled 3, ?_⟩, State.polled called 3, ?_⟩ <;>
  · unfold State.Delivers State.Answers State.AtRest; decide +kernel

theorem witness_GateOutEndsAVisit_unscheduled :
    (∃ s : State, s.Delivers 3 2 ∧ s.slotOf 1000 = some 0 ∧ (s.veh 0).state = .parked ∧ (s.veh 0).boundRow = some 0
        ∧ s.row 0 = some (boundRow 300 0) ∧ s.ds.swap ≠ .pending)
      ∧ ∃ s : State, s.Delivers 3 2 ∧ s.slotOf 1000 = some 0 ∧ (s.veh 0).state = .lost := by
  refine ⟨⟨State.polled (withList (placed .parked (.lane 0 .present none) (boundRow 300 0)) 0 [⟨0, .present, none⟩]) 3, ?_⟩,
    (placed .lost .none).polled 3, ?_⟩
  all_goals unfold State.Delivers State.Answers State.AtRest; decide +kernel

theorem witness_LaneEntryAndExit :
    (∃ s : State, s.Delivers 6 3 ∧ s.slotOf 1000 = some 0 ∧ s.laneOf 6 = 1 ∧ (s.veh 0).state = .toBerth
        ∧ s.entry 1 0 = some ⟨0, .expected, some 10⟩ ∧ s.presentLane 0 = none ∧ ((s.lane 1).entries.map Entry.slot).Nodup
        ∧ s.NoneBlocked ∧ (s.lane 1).cfg.kind = .deadEnd)
      ∧ (∃ s : State, s.Delivers 5 3 ∧ s.slotOf 1000 = some 0 ∧ s.laneOf 5 = 0 ∧ (s.veh 0).state = .toBerth
        ∧ s.entry 0 0 = some ⟨0, .expected, some 10⟩ ∧ s.presentLane 0 = none ∧ ((s.lane 0).entries.map Entry.slot).Nodup
        ∧ s.NoneBlocked ∧ (s.lane 0).cfg.kind = .through)
      ∧ (∃ s : State, s.Delivers 5 4 ∧ s.slotOf 1000 = some 0 ∧ s.laneOf 5 = 0 ∧ (s.veh 0).state = .parked
        ∧ (s.lane 0).entries = [⟨0, .present, none⟩] ∧ (∀ w ∈ s.waitList, w.slot ≠ 0) ∧ ∀ m, m ≠ 0 → s.entry m 0 = none)
      ∧ ∃ s : State, s.Delivers 6 4 ∧ s.slotOf 1000 = some 0 ∧ s.laneOf 6 = 1 ∧ (s.veh 0).state = .called
        ∧ (s.lane 1).entries = [⟨0, .present, none⟩, ⟨1, .present, none⟩] ∧ (∀ w ∈ s.waitList, w.slot ≠ 0)
        ∧ ∀ m, m ≠ 1 → s.entry m 0 = none := by
  let s := fun state l entries => (yard.modVeh 0 fun r => { r with state := state }).modLane l fun r => { r with entries := entries }
  refine ⟨⟨State.polled (s .toBerth 1 [⟨0, .expected, some 10⟩, ⟨1, .present, none⟩]) 6, ?_⟩,
    ⟨State.polled (s .toBerth 0 [⟨1, .expected, some 10⟩, ⟨0, .expected, some 10⟩]) 5, ?_⟩,
    ⟨State.polled (s .parked 0 [⟨0, .present, none⟩]) 5, ?_⟩,
    State.polled (s .called 1 [⟨0, .present, none⟩, ⟨1, .present, none⟩]) 6, ?_⟩
  · unfold State.Delivers State.Answers State.AtRest State.NoneBlocked; decide +kernel
  · unfold State.Delivers State.Answers State.AtRest State.NoneBlocked; decide +kernel
  · unfold State.Delivers State.Answers State.AtRest; decide +kernel
  · unfold State.Delivers State.Answers State.AtRest; decide +kernel

theorem witness_LaneEntryAndExit_joining :
    let enters (s : State) (src : Addr) (l : LaneNo) : Prop := s.Delivers src 3 ∧ s.slotOf 1000 = some 0 ∧ s.laneOf src = l
    let joins (s : State) (src : Addr) (l : LaneNo) : Prop :=
      enters s src l ∧ s.entry l 0 = none ∧ s.units 0 ≤ s.room l ∧ s.NoneBlocked ∧ s.waitList = []
    (∃ s : State, enters s 5 0 ∧ (s.veh 0).state = .lost)
      ∧ (∃ s : State, joins s 5 0 ∧ (s.veh 0).state = .out)
      ∧ (∃ s : State, joins s 6 1 ∧ (s.veh 0).state = .toBerth ∧ (s.veh 0).location = .lane 0 .expected none)
      ∧ (∃ s : State, joins s 6 1 ∧ (s.veh 0).state = .moving ∧ (s.veh 0).location = .enRoute (some 0))
      ∧ (∃ s : State, joins s 6 1 ∧ (s.veh 0).state = .moving ∧ (s.veh 0).location = .enRoute (some 1)
          ∧ s.flag .wrongLane = false)
      ∧ (∃ s : State, joins s 5 0 ∧ (s.veh 0).state = .parked ∧ s.ycs.mode = .normal)
      ∧ (∃ s : State, joins s 5 0 ∧ (s.veh 0).state = .departing ∧ (s.veh 0).boundRow = some 0 ∧ s.row 0 = some calledRow
          ∧ s.ds.swap ≠ .pending)
      ∧ ∃ s : State, enters s 5 0 ∧ (s.veh 0).state = .called ∧ (s.veh 0).boundRow = some 0 ∧ s.row 0 = some calledRow
          ∧ s.ds.swap ≠ .pending ∧ s.entry 0 0 = none ∧ s.room 0 < s.units 0 := by
  intro enters joins
  refine ⟨⟨(placed .lost .none).polled 5, ?_⟩, ⟨(placed .out .none).polled 5, ?_⟩,
    ⟨State.polled (withList (placed .toBerth (.lane 0 .expected none)) 0 [⟨0, .expected, some 10⟩]) 6, ?_⟩,
    ⟨(placed .moving (.enRoute (some 0))).polled 6, ?_⟩, ⟨(placed .moving (.enRoute (some 1))).polled 6, ?_⟩,
    ⟨{ (placed .parked (.lane 1 .present none)).polled 5 with ycs := { yard.ycs with mode := .normal, supervision := some 10 } }, ?_⟩,
    ⟨(placed .departing (.enRoute none) calledRow).polled 5, ?_⟩,
    State.polled ((placed .called (.lane 1 .present none) calledRow).modLane 0 fun r => { r with cfg := { r.cfg with capacity := 0 } }) 5, ?_⟩
  all_goals simp only [enters, joins, State.Delivers, State.Answers, State.AtRest, State.NoneBlocked]; decide +kernel

theorem witness_LaneEntryAndExit_leaving :
    let exits (s : State) (src : Addr) (l : LaneNo) : Prop := s.Delivers src 4 ∧ s.slotOf 1000 = some 0 ∧ s.laneOf src = l
    (∃ s : State, exits s 5 0 ∧ s.entry 0 0 = none ∧ (s.veh 0).state = .lost)
      ∧ (∃ s : State, exits s 5 0 ∧ s.entry 0 0 = none ∧ (s.veh 0).state = .out)
      ∧ (∃ s : State, exits s 5 0 ∧ s.entry 0 0 = some ⟨0, .expected, some 10⟩)
      ∧ (∃ s : State, exits s 6 1 ∧ s.entry 1 0 = some ⟨0, .present, none⟩ ∧ s.entryIndex 1 0 ≠ 0 ∧ (s.veh 0).state = .called
          ∧ (s.veh 0).location = .lane 1 .present none ∧ (∀ m, m ≠ 1 → some m ≠ none → s.entry m 0 = none)
          ∧ (∀ w ∈ s.waitList, w.slot ≠ 0) ∧ (s.veh 0).boundRow = some 0 ∧ s.row 0 = some calledRow ∧ s.ds.swap ≠ .pending)
      ∧ (∃ s : State, exits s 5 0 ∧ s.entry 0 0 = some ⟨0, .present, none⟩ ∧ s.entryIndex 0 0 ≠ 0 ∧ (s.veh 0).state = .toBerth
          ∧ (s.veh 0).location = .lane 0 .present (some 1) ∧ (∀ m, m ≠ 0 → some m ≠ some 1 → s.entry m 0 = none)
          ∧ s.entry 1 0 ≠ none ∧ ∀ w ∈ s.waitList, w.slot ≠ 0)
      ∧ ∃ s : State, exits s 5 0 ∧ (s.veh 0).state = .toBerth ∧ (s.veh 0).location = .lane 0 .present (some 1)
          ∧ (s.lane 0).entries = [⟨0, .present, none⟩, ⟨1, .present, none⟩] ∧ s.entry 1 0 = some ⟨0, .expected, none⟩
          ∧ (∀ m, m ≠ 0 → s.presentIn m 0 = false) ∧ ∀ w ∈ s.waitList, w.slot ≠ 0 := by
  intro exits
  let shifted := withList (placed .toBerth (.lane 0 .present (some 1))) 1 [⟨0, .expected, none⟩]
  refine ⟨⟨(placed .lost .none).polled 5, ?_⟩, ⟨(placed .out .none).polled 5, ?_⟩,
    ⟨State.polled (withList (placed .toBerth (.lane 0 .expected none)) 0 [⟨0, .expected, some 10⟩]) 5, ?_⟩,
    ⟨State.polled (withList (placed .called (.lane 1 .present none) calledRow) 1 [⟨1, .expected, some 10⟩, ⟨0, .present, none⟩]) 6, ?_⟩,
    ⟨State.polled (withList shifted 0 [⟨1, .present, none⟩, ⟨0, .present, none⟩]) 5, ?_⟩,
    State.polled (withList shifted 0 [⟨0, .present, none⟩, ⟨1, .present, none⟩]) 5, ?_⟩
  all_goals simp only [exits, State.Delivers, State.Answers, State.AtRest]; decide +kernel

theorem witness_LaneEntryAndExit_again :
    let enters (s : State) : Prop := s.Delivers 5 3 ∧ s.slotOf 1000 = some 0 ∧ s.laneOf 5 = 0
    (∃ s : State, enters s ∧ (s.veh 0).state = .parked ∧ s.entry 0 0 = some ⟨0, .present, none⟩)
      ∧ ∃ s : State, enters s ∧ (s.veh 0).state = .toBerth ∧ (s.veh 0).location = .lane 1 .present (some 0)
        ∧ s.entry 0 0 = some ⟨0, .expected, none⟩ ∧ s.presentLane 0 = some 1
        ∧ (∀ m, m ≠ 1 → s.presentIn m 0 = false) ∧ ((s.lane 0).entries.map Entry.slot).Nodup
        ∧ (∀ w ∈ s.waitList, w.slot ≠ 0) ∧ s.blockedRowsIn 0 = [] ∧ s.ycs.mode = .normal ∧ s.dlp.notices.length < 16 := by
  intro enters
  refine ⟨⟨State.polled (withList (placed .parked (.lane 0 .present none)) 0 [⟨0, .present, none⟩]) 5, ?_⟩,
    { State.polled (withList (withList (placed .toBerth (.lane 1 .present (some 0))) 0 [⟨0, .expected, none⟩]) 1
        [⟨0, .present, none⟩]) 5 with ycs := { yard.ycs with mode := .normal, supervision := some 10 } }, ?_⟩
  all_goals simp only [enters, State.Delivers, State.Answers, State.AtRest]; decide +kernel

theorem witness_BayArriveOfTheCalledBus :
    ∃ s : State, s.Delivers 31 5 ∧ s.slotOf 1000 = some 0 ∧ s.bayOf 31 = 1 ∧ (s.bay 1).state = .calling
      ∧ (s.bay 1).ticket = some (ticket 0 .wash 5 0 .calledToBay) ∧ (s.bay 1).cfg.unit = some 31
      ∧ s.blc.originFifo.length = 15 := by
  let s := yard.inBay 1 .calling (ticket 0 .wash 5 0 .calledToBay)
  refine ⟨State.polled { s with blc := { s.blc with originFifo := List.replicate 15 ⟨12, .sign, []⟩ } } 31, ?_⟩
  unfold State.Delivers State.Answers State.AtRest; decide +kernel

theorem witness_BayArriveOfTheCalledBus_others :
    let arrives (s : State) : Prop := s.Delivers 31 5 ∧ s.slotOf 1000 = some 0 ∧ s.bayOf 31 = 1 ∧ (s.bay 1).cfg.kind = .wash
    let w := ticket 0 .wash 5
    let k := ticket 1 .wash 4 0 .calledToBay
    (∃ s : State, arrives s ∧ (s.bay 1).state = .calling ∧ (s.bay 1).ticket = some k ∧ s.waitingTicket .wash 0 = some w
        ∧ (∀ q ∈ s.queue .wash, q.slot ≠ 1) ∧ s.QueuesOfTheirKind)
      ∧ (∃ s : State, arrives s ∧ (s.bay 1).state = .free ∧ s.waitingTicket .wash 0 = some w)
      ∧ (∃ s : State, arrives s ∧ (s.bay 1).state = .out)
      ∧ (∃ s : State, arrives s ∧ (s.bay 1).state = .busy ∧ s.bayHolds 1 0 = false)
      ∧ (∃ s : State, arrives s ∧ (s.bay 1).state = .calling ∧ s.bayHolds 1 0 = false ∧ s.waitingTicket .wash 0 = none)
      ∧ ∃ s : State, arrives s ∧ (s.bay 1).state = .faultWait ∧ s.bayHolds 1 0 = true := by
  intro arrives w k
  let s := fun (state : BayState) (held : Option Ticket) (queue : List Ticket) =>
    (State.setQueue (yard.modBay 1 fun r => { r with state := state, ticket := held }) .wash queue).polled 31
  refine ⟨⟨s .calling (some k) [w], ?_, ?_, ?_, ?_, ?_, washQueue (k := w) rfl rfl rfl⟩, ⟨s .free none [w], ?_⟩, ⟨s .out none [], ?_⟩,
    ⟨s .busy (some { k with state := .inBay }) [], ?_⟩, ⟨s .calling (some k) [], ?_⟩,
    s .faultWait (some { w with state := .inBay }) [], ?_⟩
  all_goals try simp only [arrives, State.Delivers, State.Answers, State.AtRest]
  all_goals decide +kernel

theorem witness_BayDoneAndFault :
    (∃ s : State, s.Delivers 31 6 ∧ s.bayOf 31 = 1 ∧ (s.bay 1).cfg.kind = .wash ∧ (s.bay 1).state = .faultWait
        ∧ (s.bay 1).ticket = some (ticket 0 .wash 5 0 .inBay) ∧ (s.veh 0).state = .service ∧ s.inSomeLane 0 = false
        ∧ (∀ w ∈ s.waitList, w.slot ≠ 0) ∧ ∀ d, s.waitingTicket d 0 = none)
      ∧ (∃ s : State, s.Delivers 31 7 ∧ s.bayOf 31 = 1 ∧ (s.bay 1).ticket = some (ticket 0 .wash 5 0 .inBay)
        ∧ (s.bay 1).state = .busy ∧ (s.bay 1).faultCount = 0)
      ∧ (∃ s : State, s.Delivers 31 7 ∧ s.bayOf 31 = 1 ∧ (s.bay 1).ticket = some (ticket 0 .wash 5 0 .inBay)
        ∧ (s.bay 1).state = .busy ∧ (s.bay 1).faultCount = 1)
      ∧ ∃ s : State, s.Delivers 31 7 ∧ s.bayOf 31 = 1 ∧ (s.bay 1).ticket = some (ticket 0 .wash 5 0 .inBay)
        ∧ (s.bay 1).state = .faultWait := by
  let s := fun state => State.polled ((yard.modVeh 0 fun r => { r with state := .service }).inBay 1 state (ticket 0 .wash 5 0 .inBay)) 31
  have all : ∀ k : QueueKind, (s .faultWait).waitingTicket k 0 = none := by intro k; cases k <;> decide +kernel
  refine ⟨⟨s .faultWait, ?_, ?_, ?_, ?_, ?_, ?_, ?_, ?_, all⟩, ⟨s .busy, ?_⟩, ⟨(s .busy).modBay 1 fun r => { r with faultCount := 1 }, ?_⟩,
    s .faultWait, ?_⟩
  on_goal 1 => unfold State.Delivers State.Answers State.AtRest; decide +kernel
  on_goal 8 => unfold State.Delivers State.Answers State.AtRest; decide +kernel
  on_goal 8 => unfold State.Delivers State.Answers State.AtRest; decide +kernel
  on_goal 8 => unfold State.Delivers State.Answers State.AtRest; decide +kernel
  all_goals decide +kernel

theorem witness_BayDoneAndFault_fuel_and_calling :
    let k := ticket 0 .fuel 5 0 .inBay
    let done (s : State) : Prop := s.Delivers 30 6 ∧ s.bayOf 30 = 0 ∧ (s.bay 0).cfg.kind = .fuel ∧ (s.bay 0).state = .busy
      ∧ (s.bay 0).ticket = some k ∧ (s.veh 0).state = .service ∧ s.inSomeLane 0 = false ∧ (∀ w ∈ s.waitList, w.slot ≠ 0)
      ∧ s.waitingTicket .fuel 0 = none ∧ s.waitingTicket .wash 0 = none ∧ (∀ d, d ≠ 0 → s.bayHolds d 0 = false)
    (∃ s : State, done s ∧ (s.veh 0).washCounter < s.ss.params.washInterval ∧ s.QueuesOfTheirKind)
      ∧ (∃ s : State, done s ∧ s.ss.params.washInterval ≤ (s.veh 0).washCounter ∧ s.liveTickets .wash < 64 ∧ s.QueuesOfTheirKind)
      ∧ (∃ s : State, s.Delivers 30 7 ∧ s.bayOf 30 = 0 ∧ (s.bay 0).state = .calling
        ∧ (s.bay 0).ticket = some { k with state := .calledToBay } ∧ (∀ q ∈ s.queue .fuel, q.slot ≠ 0) ∧ s.QueuesOfTheirKind)
      ∧ (∃ s : State, s.Delivers 30 7 ∧ s.bayOf 30 = 0 ∧ (s.bay 0).state = .free)
      ∧ ∃ s : State, s.Delivers 30 6 ∧ s.bayOf 30 = 0 ∧ (s.bay 0).state = .calling := by
  intro k done
  let s := fun n state t => State.polled ((yard.modVeh 0 fun r =>
    { r with state := .service, location := .bay 0, washCounter := n }).inBay 0 state t) 30
  refine ⟨⟨s 1 .busy k, ?_, ?_, emptyQueues rfl rfl⟩, ⟨s 2 .busy k, ?_, ?_, ?_, emptyQueues rfl rfl⟩,
    ⟨s 1 .calling { k with state := .calledToBay }, ?_, ?_, ?_, ?_, ?_, emptyQueues rfl rfl⟩, ⟨yard.polled 30, ?_⟩,
    s 1 .calling { k with state := .calledToBay }, ?_⟩
  all_goals try simp only [done, State.Delivers, State.Answers, State.AtRest]
  all_goals decide +kernel

theorem witness_ChargerReportConnects :
    (∃ s : State, s.Delivers 9 8 ∧ s.chargerOf 9 = 0 ∧ (s.charger 0).state ≠ .fault ∧ s.slotOf 1001 = some 1
        ∧ s.matches 1 0 = true ∧ (s.charger 0).connected = some 1)
      ∧ (∃ s : State, s.Delivers 9 8 ∧ s.chargerOf 9 = 0 ∧ (s.charger 0).state ≠ .fault ∧ s.slotOf 1001 = some 1
        ∧ s.matches 1 0 = true ∧ (s.charger 0).connected ≠ some 1)
      ∧ (∃ s : State, s.Delivers 9 8 ∧ s.chargerOf 9 = 0 ∧ (s.charger 0).state ≠ .fault ∧ s.slotOf 999 = none)
      ∧ (∃ s : State, s.Delivers 9 8 ∧ s.chargerOf 9 = 0 ∧ (s.charger 0).state ≠ .fault ∧ s.slotOf 0 = none)
      ∧ (∃ s : State, s.Delivers 9 8 ∧ s.chargerOf 9 = 0 ∧ (s.charger 0).state ≠ .fault ∧ s.slotOf 1000 = some 0
        ∧ s.matches 0 0 = false)
      ∧ ((0xFE : Byte).getLsbD 0 = false) := by
  let s := ((yard.modVeh 1 fun r => { r with state := .parked, location := .lane 0 .present none }).modLane 0
    fun r => { r with entries := [⟨1, .present, none⟩] }).polled 9
  refine ⟨⟨s.modCharger 0 fun r => { r with state := .connected, connected := some 1 }, ?_⟩, ⟨s, ?_⟩, ⟨s, ?_⟩, ⟨s, ?_⟩, ⟨s, ?_⟩,
    by decide⟩
  all_goals unfold State.Delivers State.Answers State.AtRest; decide +kernel

theorem witness_ChargerReportConnects_fault :
    (∃ s : State, s.Delivers 9 8 ∧ s.chargerOf 9 = 0 ∧ (s.charger 0).state = .charging ∧ s.slotOf 1001 = some 1
        ∧ s.matches 1 0 = true ∧ (s.charger 0).connected = some 1)
      ∧ (∃ s : State, s.Delivers 9 8 ∧ s.chargerOf 9 = 0 ∧ (s.charger 0).state = .fault ∧ s.slotOf 1001 = some 1
        ∧ s.matches 1 0 = true ∧ (s.charger 0).connected ≠ some 1)
      ∧ (∃ s : State, s.Delivers 9 8 ∧ s.chargerOf 9 = 0 ∧ (s.charger 0).state = .fault ∧ s.slotOf 1000 = some 0
        ∧ s.matches 0 0 = false)
      ∧ ((0x01 : Byte).getLsbD 0 = true) := by
  let s := ((yard.modVeh 1 fun r => { r with state := .parked, location := .lane 0 .present none }).modLane 0
    fun r => { r with entries := [⟨1, .present, none⟩] }).polled 9
  refine ⟨⟨s.modCharger 0 fun r => { r with state := .charging, connected := some 1, grant := 50 }, ?_⟩,
    ⟨s.modCharger 0 fun r => { r with state := .fault }, ?_⟩, ⟨s.modCharger 0 fun r => { r with state := .fault }, ?_⟩, by decide⟩
  all_goals unfold State.Delivers State.Answers State.AtRest; decide +kernel

theorem witness_MeterReportStoresTheReading : ∃ s : State, s.Delivers 60 9 ∧ s.feederOf 60 = 0 := by
  refine ⟨yard.polled 60, ?_⟩
  unfold State.Delivers State.Answers State.AtRest; decide +kernel

theorem witness_ReceivingOnTheLink :
    (∃ frame, parseTelegram frame = none)
      ∧ (∃ s : State, (127 : Addr) ≠ s.ownAddr ∧ (16 : Byte) ∉ ([17, 18, 19, 20] : List Byte)
        ∧ (21 : Byte) ∉ ([17, 18, 19, 20] : List Byte))
      ∧ (∃ s : State, (0 : Addr) ≠ s.ownAddr ∧ berthKind (s.station 0).cfg.kind = false)
      ∧ (∃ s : State, (12 : Addr) ≠ s.ownAddr ∧ berthKind (s.station 12).cfg.kind = true ∧ s.blc.forwardFifo.length = 16)
      ∧ (∃ s : State, (12 : Addr) ≠ s.ownAddr ∧ berthKind (s.station 12).cfg.kind = true ∧ s.blc.forwardFifo.length = 15)
      ∧ (∃ s : State, s.dlp.requests.length = 3) ∧ ∃ s : State, s.dlp.requests.length = 4 := by
  let forwards := fun n => { yard with blc := { yard.blc with forwardFifo := List.replicate n ⟨12, .sign, []⟩ } }
  let asked := fun n => { yard with dlp := { yard.dlp with requests := List.replicate n ⟨0, 54, []⟩ } }
  refine ⟨⟨[9, 1, 10, 0, 0, 0], ?_⟩, ⟨yard, ?_⟩, ⟨yard, ?_⟩, ⟨forwards 16, ?_⟩, ⟨forwards 15, ?_⟩, ⟨asked 3, rfl⟩, asked 4, rfl⟩ <;>
    decide +kernel

/-- An answer in the slot. -/
def someAnswer : Answer :=
  { dest := 0, summary := 0, outcome := .ok, fault := none, further := false, kind := 54, data := [] }

theorem witness_OutputOfTheLink :
    (∃ s : State, s.dlp.reset ≠ .due ∧ s.dlp.answer = some someAnswer)
      ∧ (∃ s : State, s.dlp.reset ≠ .due ∧ s.dlp.answer = none ∧ s.dlp.notices = [.noBerth 1000 0 .gate 1]
        ∧ s.dlp.forwards = [⟨3, 1, [0, 0, 1]⟩] ∧ s.dlp.pointer = .notice)
      ∧ (∃ s : State, s.dlp.reset ≠ .due ∧ s.dlp.answer = none ∧ s.dlp.notices = [.noBerth 1000 0 .gate 1]
        ∧ s.dlp.forwards = [⟨3, 1, [0, 0, 1]⟩] ∧ s.dlp.pointer = .forward)
      ∧ (∃ s : State, s.dlp.reset ≠ .due ∧ s.dlp.answer = none ∧ s.dlp.notices = [.noBerth 1000 0 .gate 1] ∧ s.dlp.forwards = []
        ∧ s.dlp.pointer = .forward)
      ∧ (∃ s : State, s.dlp.reset ≠ .due ∧ s.dlp.answer = none ∧ s.dlp.notices = [] ∧ s.dlp.forwards = [⟨3, 1, [0, 0, 1]⟩]
        ∧ s.dlp.pointer = .notice)
      ∧ (∃ s : State, s.dlp.reset ≠ .due ∧ s.dlp.answer = none ∧ s.dlp.notices = [] ∧ s.dlp.forwards = [])
      ∧ ∃ s : State, s.dlp.reset = .due ∧ s.dlp.notices = [.noBerth 1000 0 .gate 1] :=
  let s : Option Answer → List Notice → List Forwarded → OutputPointer → State := fun a n f p =>
    { yard with dlp := { yard.dlp with answer := a, notices := n, forwards := f, pointer := p } }
  let n := Notice.noBerth 1000 0 .gate 1
  let f : Forwarded := ⟨3, 1, [0, 0, 1]⟩
  have ready : ∀ a n f p, (s a n f p).dlp.reset ≠ .due :=
    fun _ _ _ _ h => nomatch (show ResetPhase.none = ResetPhase.due from h)
  ⟨⟨s (some someAnswer) [] [] .notice, ready _ _ _ _, rfl⟩, ⟨s none [n] [f] .notice, ready _ _ _ _, rfl, rfl, rfl, rfl⟩,
    ⟨s none [n] [f] .forward, ready _ _ _ _, rfl, rfl, rfl, rfl⟩, ⟨s none [n] [] .forward, ready _ _ _ _, rfl, rfl, rfl, rfl⟩,
    ⟨s none [] [f] .notice, ready _ _ _ _, rfl, rfl, rfl, rfl⟩, ⟨s none [] [] .notice, ready _ _ _ _, rfl, rfl, rfl⟩,
    { yard with dlp := { yard.dlp with reset := .due, notices := [n] } }, rfl, rfl⟩

/-- The maintenance terminal, of class 1, asks. -/
def byTerminal (kind : Byte) (payload : List Byte) : State :=
  { yard.modStation 2 fun r => { r with cfg := { kind := .maint, level := 1 } } with
    dlp := { yard.dlp with requests := [⟨2, kind, payload⟩] } }

/-- A gate reader, of class 3, asks. -/
def byReader (kind : Byte) (payload : List Byte) : State :=
  { yard with dlp := { yard.dlp with requests := [⟨3, kind, payload⟩] } }

theorem witness_SelectAndFetch :
    (∃ s : State, s.Takes ⟨0, 49, 13 :: toBytes 2 0⟩ [])
      ∧ (∃ s : State, s.Takes ⟨3, 49, 0 :: toBytes 2 127⟩ [] ∧ tables[0]? = some .station ∧ readClass .station < s.requesterClass 3)
      ∧ (∃ s : State, s.Takes ⟨0, 49, 0 :: toBytes 2 128⟩ [] ∧ s.requesterClass 0 ≤ readClass .station ∧ rowLimit .station = 128)
      ∧ (∃ s : State, s.Takes ⟨0, 49, 12 :: toBytes 2 0⟩ [] ∧ tables[12]? = some .events ∧ s.requesterClass 0 ≤ readClass .events
        ∧ 0 < rowLimit .events)
      ∧ (∃ s : State, s.Takes ⟨0, 51, []⟩ [] ∧ s.requesterClass 0 ≤ readClass s.tau.table ∧ s.tau.latch = none
        ∧ s.tau.row + 1 = rowLimit s.tau.table)
      ∧ (∃ s : State, s.Takes ⟨0, 51, []⟩ [] ∧ s.requesterClass 0 ≤ readClass s.tau.table
        ∧ s.tau.latch = some ⟨.lane, 4, []⟩ ∧ s.requesterClass 0 ≤ readClass .lane ∧ s.tau.row = rowLimit s.tau.table)
      ∧ ∃ s : State, s.Takes ⟨3, 51, []⟩ [] ∧ readClass s.tau.table < s.requesterClass 3 := by
  refine ⟨⟨yard.served 49 (13 :: toBytes 2 0), ?_⟩, ⟨byReader 49 (0 :: toBytes 2 127), ?_⟩, ⟨yard.served 49 (0 :: toBytes 2 128), ?_⟩,
    ⟨yard.served 49 (12 :: toBytes 2 0), ?_⟩,
    ⟨{ yard.served 51 [] with tau := ⟨.station, 127, none⟩ }, ?_⟩,
    ⟨{ yard.served 51 [] with tau := ⟨.station, 128, some ⟨.lane, 4, []⟩⟩ }, ?_⟩, byReader 51 [], ?_⟩
  all_goals unfold State.Takes; decide +kernel

theorem witness_ClearAndIdent :
    (∃ s : State, s.Takes ⟨3, 52, toBytes 4 0⟩ [] ∧ s.requesterClass 3 = 3)
      ∧ (∃ s : State, s.Takes ⟨2, 52, toBytes 4 (2 ^ 32 - 1)⟩ [] ∧ s.requesterClass 2 = 1)
      ∧ (∃ s : State, s.Takes ⟨3, 52, toBytes 4 1⟩ [] ∧ 1 < s.requesterClass 3)
      ∧ ∃ s : State, s.Takes ⟨3, 54, []⟩ [] := by
  refine ⟨⟨byReader 52 (toBytes 4 0), ?_⟩, ⟨byTerminal 52 (toBytes 4 (2 ^ 32 - 1)), ?_⟩, ⟨byReader 52 (toBytes 4 1), ?_⟩,
    byReader 54 [], ?_⟩
  all_goals unfold State.Takes; decide +kernel

theorem witness_RefusedRequests :
    (∃ s : State, s.Takes ⟨0, 48, []⟩ []) ∧ (∃ s : State, s.Takes ⟨0, 49, [0, 0]⟩ [])
      ∧ (∃ s : State, s.Takes ⟨0, 50, [0]⟩ [] ∧ ([0] : List Byte).length ∉ putLengths s.tau.table)
      ∧ (∃ s : State, s.Takes ⟨0, 51, [0]⟩ []) ∧ (∃ s : State, s.Takes ⟨0, 52, [0, 0, 0]⟩ [])
      ∧ (∃ s : State, s.Takes ⟨0, 53, [17]⟩ []) ∧ (∃ s : State, s.Takes ⟨0, 53, []⟩ [])
      ∧ (∃ s : State, s.Takes ⟨0, 53, [0, 0]⟩ [] ∧ orderKinds[0]? = some .swapNow ∧ operandBytes .swapNow = 0)
      ∧ (∃ s : State, s.Takes ⟨0, 54, [0]⟩ [])
      ∧ (∃ s : State, s.Takes ⟨2, 50, [0, 0, 0, 0, 0]⟩ [] ∧ 5 ∈ putLengths s.tau.table
        ∧ ∀ n, putClass s.tau.table = some n → n < s.requesterClass 2)
      ∧ ∃ s : State, s.Takes ⟨0, 50, [0, 0, 0, 0, 0]⟩ [] ∧ 5 ∈ putLengths s.tau.table ∧ putClass s.tau.table = some 0
        ∧ s.requesterClass 0 ≤ 0 ∧ rowLimit s.tau.table ≤ s.tau.row := by
  refine ⟨⟨yard.served 48 [], ?_⟩, ⟨yard.served 49 [0, 0], ?_⟩, ⟨yard.served 50 [0], ?_⟩, ⟨yard.served 51 [0], ?_⟩,
    ⟨yard.served 52 [0, 0, 0], ?_⟩, ⟨yard.served 53 [17], ?_⟩, ⟨yard.served 53 [], ?_⟩, ⟨yard.served 53 [0, 0], ?_⟩,
    ⟨yard.served 54 [0], ?_⟩, ⟨byTerminal 50 [0, 0, 0, 0, 0], ?_, ?_, ?_⟩, yard.putting .station 128 [0, 0, 0, 0, 0], ?_⟩
  on_goal 12 =>
    intro n hn
    have : some n = some 0 := hn.symm.trans (by decide +kernel)
    cases this
    decide +kernel
  on_goal 11 => decide +kernel
  all_goals unfold State.Takes; decide +kernel

theorem witness_OrdersRefusedByClassOrPending :
    (∃ s : State, (s.station 0).cfg.kind = .server) ∧ (∃ s : State, (s.station 2).cfg.kind = .maint)
      ∧ (∃ s : State, (s.station 0).cfg.kind = .unused ∧ 0 = s.ss.params.server)
      ∧ (∃ s : State, (s.station 127).cfg.kind = .unused ∧ 127 ≠ s.ss.params.server)
      ∧ (∃ s : State, berthKind (s.station 3).cfg.kind = true)
      ∧ (∃ s : State, s.Takes ⟨2, 53, [14]⟩ [] ∧ s.asked ⟨2, 53, [14]⟩ = .order .store ∧ orderClass .store < s.requesterClass 2)
      ∧ (∃ s : State, s.Takes ⟨0, 53, [14]⟩ [] ∧ s.asked ⟨0, 53, [14]⟩ = .order .store ∧ s.requesterClass 0 ≤ orderClass .store
        ∧ s.ss.storing = true)
      ∧ (∃ s : State, s.Takes ⟨0, 53, [15]⟩ [] ∧ s.asked ⟨0, 53, [15]⟩ = .order .load ∧ s.requesterClass 0 ≤ orderClass .load
        ∧ s.ss.loading = true)
      ∧ ∃ s : State, s.Takes ⟨0, 53, [0]⟩ [] ∧ s.asked ⟨0, 53, [0]⟩ = .order .swapNow
        ∧ s.requesterClass 0 ≤ orderClass .swapNow ∧ s.ds.swap ≠ .none := by
  refine ⟨⟨yard, by decide +kernel⟩, ⟨byTerminal 54 [], by decide +kernel⟩, ⟨State.reset, by decide +kernel⟩,
    ⟨yard, by decide +kernel⟩, ⟨yard, by decide +kernel⟩, ⟨byTerminal 53 [14], ?_⟩,
    ⟨{ yard.served 53 [14] with ss := { yard.ss with storing := true } }, ?_⟩,
    ⟨{ yard.served 53 [15] with ss := { yard.ss with loading := true } }, ?_⟩,
    { yard.served 53 [0] with ds := { yard.ds with swap := .armed } }, ?_⟩
  all_goals unfold State.Takes; decide +kernel

theorem witness_OrdersRefusedByClassOrPending_out :
    ∃ s : State, s.Takes ⟨2, 53, 6 :: toBytes 2 0 ++ [255]⟩ [] ∧ s.asked ⟨2, 53, 6 :: toBytes 2 0 ++ [255]⟩ = .yardSetOut
      ∧ 0 < s.requesterClass 2 := by
  refine ⟨byTerminal 53 (6 :: toBytes 2 0 ++ [255]), ?_⟩
  unfold State.Takes; decide +kernel

theorem witness_PutParamsClamps :
    (∃ s : State, s.TakesPut ⟨0, 50, paramsPayload 127⟩ [] .params 0 ∧ (paramsPayload 127).length = 14 ∧ s.ss.storing = false)
      ∧ (∃ s : State, s.TakesPut ⟨0, 50, paramsPayload 127⟩ [] .params 0 ∧ s.ss.storing = true)
      ∧ ∃ s : State, s.TakesPut ⟨0, 50, paramsPayload 128⟩ [] .params 0 := by
  let s := yard.putting .params 0 (paramsPayload 127)
  refine ⟨⟨s, ?_⟩, ⟨{ s with ss := { s.ss with storing := true } }, ?_⟩, yard.putting .params 0 (paramsPayload 128), ?_⟩
  all_goals unfold State.TakesPut State.Takes; decide +kernel

/-- The payload of a PUT to FEEDER. -/
def feederRow (rated limit : Nat) (meter : Option Addr) (fallback : Nat) (tail : List Byte) : List Byte :=
  toBytes 2 rated ++ toBytes 2 limit ++ stationBytes meter ++ toBytes 2 fallback ++ tail

theorem witness_PutFeederStoresTheRow :
    (∃ s : State, s.TakesPut ⟨0, 50, feederRow 65535 9 none 2001 []⟩ [] .feeder 3 ∧ s.ss.storing = false)
      ∧ ∃ s : State, s.TakesPut ⟨0, 50, feederRow 200 100 (some 60) 0 (List.replicate 11 0)⟩ [] .feeder 0 ∧ s.ss.storing = false
        ∧ (s.feeder 0).cfg.meter = some 60 := by
  refine ⟨⟨yard.putting .feeder 3 (feederRow 65535 9 none 2001 []), ?_⟩,
    yard.putting .feeder 0 (feederRow 200 100 (some 60) 0 (List.replicate 11 0)), ?_⟩
  all_goals unfold State.TakesPut State.Takes; decide +kernel

/-- A PUT of the class the server has while a STORE is in progress, or not. -/
def puttingWhile (s : State) (storing : Bool) (table : Table) (row : Nat) (payload : List Byte) : State :=
  { s.putting table row payload with ss := { s.ss with storing := storing } }

theorem witness_PutFeederStoresTheRow_refused :
    let asks (s : State) (payload : List Byte) : Prop := s.TakesPut ⟨0, 50, payload⟩ [] .feeder 3 ∧ payload.length = 7
    (∃ s : State, asks s [0, 0, 0, 0, 128, 0, 0] ∧ noStation 128) ∧ (∃ s : State, asks s [0, 0, 0, 0, 254, 0, 0] ∧ noStation 254)
      ∧ ∃ s : State, asks s [0, 0, 0, 0, 255, 0, 0] ∧ ¬ noStation 255 ∧ s.ss.storing = true := by
  intro asks
  refine ⟨⟨yard.putting .feeder 3 [0, 0, 0, 0, 128, 0, 0], ?_⟩, ⟨yard.putting .feeder 3 [0, 0, 0, 0, 254, 0, 0], ?_⟩,
    puttingWhile yard true .feeder 3 [0, 0, 0, 0, 255, 0, 0], ?_⟩
  all_goals simp only [asks, State.TakesPut, State.Takes, noStation]; decide +kernel

/-- The payload of a PUT to CHARGER at station 9. -/
def chargerRow (lane : LaneNo) (pMax pMin : Nat) (tail : List Byte) : List Byte :=
  stationBytes (some 9) ++ toBytes 1 lane.val ++ toBytes 1 0 ++ toBytes 1 0 ++ toBytes 2 pMax ++ toBytes 2 pMin ++ tail

theorem witness_PutChargerStoresTheRow :
    (∃ s : State, s.TakesPut ⟨0, 50, chargerRow 0 100 10 []⟩ [] .charger 0 ∧ s.ss.storing = false
        ∧ (s.charger 0).cfg.station = some 9 ∧ (s.charger 0).cfg.lane = 0 ∧ (s.charger 0).cfg.position = 0
        ∧ (s.charger 0).cfg.feeder = 0 ∧ (s.charger 0).grant = 100
        ∧ ∀ d, d ≠ 0 → (s.charger d).cfg.station = none ∨ (s.charger d).cfg.lane ≠ 0 ∨ (s.charger d).cfg.position ≠ 0)
      ∧ (∃ s : State, s.TakesPut ⟨0, 50, chargerRow 0 90 10 (List.replicate 10 0)⟩ [] .charger 0 ∧ s.ss.storing = false
        ∧ (s.charger 0).cfg.station = some 9 ∧ (s.charger 0).cfg.lane = 0 ∧ (s.charger 0).cfg.position = 0
        ∧ (s.charger 0).cfg.feeder = 0 ∧ 90 < (s.charger 0).grant)
      ∧ ∃ s : State, s.TakesPut ⟨0, 50, chargerRow 31 65535 0 []⟩ [] .charger 0 ∧ s.ss.storing = false
        ∧ (s.charger 0).cfg.lane ≠ 31 := by
  refine ⟨⟨(yard.modCharger 0 fun r => { r with grant := 100 }).putting .charger 0 (chargerRow 0 100 10 []), ?_⟩,
    ⟨(yard.modCharger 0 fun r => { r with grant := 100 }).putting .charger 0 (chargerRow 0 90 10 (List.replicate 10 0)), ?_⟩,
    yard.putting .charger 0 (chargerRow 31 65535 0 []), ?_⟩
  all_goals unfold State.TakesPut State.Takes; decide +kernel

theorem witness_PutChargerStoresTheRow_refused :
    let asks (s : State) (payload : List Byte) : Prop := s.TakesPut ⟨0, 50, payload⟩ [] .charger 1 ∧ payload.length = 8
    (∃ s : State, asks s [128, 0, 0, 0, 0, 10, 0, 10] ∧ noStation 128) ∧ (∃ s : State, asks s [255, 32, 0, 0, 0, 10, 0, 10])
      ∧ (∃ s : State, asks s [255, 31, 7, 3, 0, 10, 0, 10] ∧ ¬ noStation 255 ∧ s.ss.storing = true)
      ∧ ∃ s : State, asks s [10, 0, 0, 3, 0, 10, 0, 10] ∧ ¬ noStation 10 ∧ s.ss.storing = false
        ∧ (s.charger 0).cfg.station ≠ none ∧ (s.charger 0).cfg.lane = 0 ∧ (s.charger 0).cfg.position = 0 := by
  intro asks
  refine ⟨⟨yard.putting .charger 1 [128, 0, 0, 0, 0, 10, 0, 10], ?_⟩, ⟨yard.putting .charger 1 [255, 32, 0, 0, 0, 10, 0, 10], ?_⟩,
    ⟨puttingWhile yard true .charger 1 [255, 31, 7, 3, 0, 10, 0, 10], ?_⟩, yard.putting .charger 1 [10, 0, 0, 3, 0, 10, 0, 10], ?_⟩
  all_goals simp only [asks, State.TakesPut, State.Takes, noStation]; decide +kernel

/-- The payload of a PUT to BAY: a wash bay with its unit at 31. -/
def washBay (tail : List Byte) : List Byte := codeByte queueKinds .wash ++ stationBytes (some 31) ++ stationBytes none ++ tail

theorem witness_PutBayStoresTheRow :
    (∃ s : State, s.TakesPut ⟨0, 50, washBay []⟩ [] .bay 5 ∧ s.ss.storing = false ∧ inUse (s.bay 5).state = false
        ∧ s.queue .wash = [])
      ∧ (∃ s : State, s.TakesPut ⟨0, 50, washBay []⟩ [] .bay 1 ∧ inUse (s.bay 1).state = true ∧ (s.bay 1).cfg.kind = .wash)
      ∧ ∃ s : State, s.TakesPut ⟨0, 50, washBay (List.replicate 14 0)⟩ [] .bay 5 ∧ (s.bay 5).state = .free ∧ s.queue .wash ≠ []
        ∧ s.heard (some 31) = true := by
  refine ⟨⟨yard.putting .bay 5 (washBay []), ?_⟩, ⟨(yard.inBay 1 .busy (ticket 0 .wash 5 0 .inBay)).putting .bay 1 (washBay []), ?_⟩,
    (yard.setQueue .wash [ticket 0 .wash 5]).putting .bay 5 (washBay (List.replicate 14 0)), ?_⟩
  all_goals unfold State.TakesPut State.Takes; decide +kernel

theorem witness_PutBayStoresTheRow_refused :
    let asks (s : State) (payload : List Byte) : Prop := s.TakesPut ⟨0, 50, payload⟩ [] .bay 1 ∧ payload.length = 3
    (∃ s : State, asks s [2, 31, 255]) ∧ (∃ s : State, asks s [1, 31, 254] ∧ noStation 254)
      ∧ (∃ s : State, asks s [1, 127, 255] ∧ ¬ noStation 127 ∧ ¬ noStation 255 ∧ s.ss.storing = true)
      ∧ ∃ s : State, asks s [0, 31, 255] ∧ ¬ noStation 31 ∧ ¬ noStation 255 ∧ s.ss.storing = false ∧ (s.bay 1).state = .faultWait
        ∧ (s.bay 1).cfg.kind = .wash := by
  intro asks
  refine ⟨⟨yard.putting .bay 1 [2, 31, 255], ?_⟩, ⟨yard.putting .bay 1 [1, 31, 254], ?_⟩,
    ⟨puttingWhile yard true .bay 1 [1, 127, 255], ?_⟩,
    (yard.inBay 1 .faultWait (ticket 0 .wash 5 0 .inBay)).putting .bay 1 [0, 31, 255], ?_⟩
  all_goals simp only [asks, State.TakesPut, State.Takes, noStation]; decide +kernel

/-- The payload of a PUT to STATION. -/
def stationRow (kind : StationKind) (index level : Nat) (tail : List Byte) : List Byte :=
  codeByte stationKinds kind ++ toBytes 1 index ++ toBytes 1 level ++ codeByte actions .copy ++ [3] ++ tail

theorem witness_PutStationStoresTheRow :
    let asks (s : State) (a : Addr) (payload : List Byte) : Prop :=
      s.TakesPut ⟨0, 50, payload⟩ [] .station a.val ∧ s.ss.storing = false ∧ s.AtRest
    (∃ s : State, asks s 127 (stationRow .laneReader 32 4 []) ∧ (s.station 127).silent = false
        ∧ (s.station 127).cfg.kind ≠ .laneReader)
      ∧ (∃ s : State, asks s 12 (stationRow .display 1 3 [0, 0]) ∧ (s.station 12).cfg.kind = .display
        ∧ (s.station 12).cfg.index = 1)
      ∧ (∃ s : State, asks s 31 (stationRow .bayUnit 2 3 []) ∧ (s.station 31).silent = true ∧ (s.station 31).cfg.kind = .bayUnit
        ∧ (s.station 31).cfg.index = 1 ∧ s.waitList = [] ∧ ∀ k, s.queue k = [])
      ∧ ∃ s : State, asks s 31 (stationRow .bayUnit 2 3 []) ∧ (s.station 31).silent = true ∧ (s.station 31).cfg.index = 1
        ∧ (s.bay 1).cfg.unit = some 31 ∧ (∀ d, d ≠ 1 → (s.bay d).cfg.unit ≠ some 31) ∧ (s.bay 1).state = .free
        ∧ s.queue (s.bay 1).cfg.kind ≠ [] := by
  intro asks
  let silent := yard.modStation 31 fun r => { r with misses := 3, silent := true }
  refine ⟨⟨yard.putting .station 127 (stationRow .laneReader 32 4 []), ?_⟩, ⟨yard.putting .station 12 (stationRow .display 1 3 [0, 0]), ?_⟩,
    ⟨silent.putting .station 31 (stationRow .bayUnit 2 3 []), ?_, ?_, ?_, ?_, ?_, ?_⟩,
    (silent.setQueue .wash [ticket 0 .wash 5]).putting .station 31 (stationRow .bayUnit 2 3 []), ?_⟩
  on_goal 8 => exact fun k => by cases k <;> rfl
  all_goals try simp only [asks, State.TakesPut, State.Takes, State.AtRest]
  all_goals decide +kernel

theorem witness_PutStationStoresTheRow_refused :
    let asks (s : State) (payload : List Byte) : Prop := s.TakesPut ⟨0, 50, payload⟩ [] .station 127 ∧ payload.length = 5
    (∃ s : State, asks s [9, 0, 3, 0, 3]) ∧ (∃ s : State, asks s [0, 0, 3, 3, 3]) ∧ (∃ s : State, asks s [5, 3, 3, 0, 3])
      ∧ ∃ s : State, asks s [5, 2, 3, 2, 3] ∧ s.ss.storing = true := by
  intro asks
  refine ⟨⟨yard.putting .station 127 [9, 0, 3, 0, 3], ?_⟩, ⟨yard.putting .station 127 [0, 0, 3, 3, 3], ?_⟩,
    ⟨yard.putting .station 127 [5, 3, 3, 0, 3], ?_⟩, puttingWhile yard true .station 127 [5, 2, 3, 2, 3], ?_⟩
  all_goals simp only [asks, State.TakesPut, State.Takes]; decide +kernel

/-- The payload of a PUT to LANE: a THROUGH PARK lane with its reader at 5. -/
def laneRow (capacity : Nat) (tail : List Byte) : List Byte :=
  codeByte laneKinds .through ++ codeByte laneRoles .park ++ toBytes 1 capacity ++ toBytes 1 (5 : Addr).val ++ stationBytes none ++ tail

theorem witness_PutLaneStoresTheRow :
    (∃ s : State, s.TakesPut ⟨0, 50, laneRow 0 []⟩ [] .lane 0 ∧ s.ss.storing = false ∧ s.AtRest ∧ (s.lane 0).entries = []
        ∧ (s.lane 0).cfg.capacity ≠ 0 ∧ s.waitList = [])
      ∧ (∃ s : State, s.TakesPut ⟨0, 50, laneRow 9 (List.replicate 36 0)⟩ [] .lane 31 ∧ s.ss.storing = false ∧ s.AtRest
        ∧ (s.lane 31).entries = [] ∧ (s.lane 31).cfg.capacity = 0 ∧ s.waitList ≠ [])
      ∧ ∃ s : State, s.TakesPut ⟨0, 50, laneRow 4 (List.replicate 4 0)⟩ [] .lane 0 ∧ s.ss.storing = false ∧ s.AtRest
        ∧ (s.lane 0).entries ≠ [] ∧ (s.lane 0).cfg.kind = .through ∧ (s.lane 0).cfg.role = .park
        ∧ (s.lane 0).cfg.capacity = min 8 4 := by
  refine ⟨⟨yard.putting .lane 0 (laneRow 0 []), ?_⟩,
    ⟨{ yard with waitList := [⟨1, .gate, 5⟩] }.putting .lane 31 (laneRow 9 (List.replicate 36 0)), ?_⟩,
    (yard.modLane 0 fun r => { r with entries := [⟨1, .present, none⟩] }).putting .lane 0 (laneRow 4 (List.replicate 4 0)), ?_⟩
  all_goals unfold State.TakesPut State.Takes State.AtRest; decide +kernel

theorem witness_PutLaneStoresTheRow_refused :
    let asks (s : State) (payload : List Byte) : Prop := s.TakesPut ⟨0, 50, payload⟩ [] .lane 1 ∧ payload.length = 5
    (∃ s : State, asks s [2, 0, 4, 6, 255]) ∧ (∃ s : State, asks s [1, 0, 4, 128, 255])
      ∧ (∃ s : State, asks s [1, 0, 4, 6, 128] ∧ noStation 128)
      ∧ (∃ s : State, asks s [1, 1, 255, 127, 127] ∧ ¬ noStation 127 ∧ s.ss.storing = true)
      ∧ ∃ s : State, asks s [1, 0, 5, 6, 255] ∧ ¬ noStation 255 ∧ s.ss.storing = false ∧ (s.lane 1).entries ≠ []
        ∧ min 8 5 ≠ (s.lane 1).cfg.capacity := by
  intro asks
  refine ⟨⟨yard.putting .lane 1 [2, 0, 4, 6, 255], ?_⟩, ⟨yard.putting .lane 1 [1, 0, 4, 128, 255], ?_⟩,
    ⟨yard.putting .lane 1 [1, 0, 4, 6, 128], ?_⟩, ⟨puttingWhile yard true .lane 1 [1, 1, 255, 127, 127], ?_⟩,
    (withList yard 1 [⟨1, .present, none⟩]).putting .lane 1 [1, 0, 5, 6, 255], ?_⟩
  all_goals simp only [asks, State.TakesPut, State.Takes, noStation]; decide +kernel

/-- The payload of a PUT to FLEET. -/
def fleetRow (tag : Nat) (propulsion : Propulsion) (battery standby : Nat) (tail : List Byte) : List Byte :=
  toBytes 3 tag ++ codeByte propulsions propulsion ++ codeByte lengthClasses .standard ++ toBytes 2 battery ++ toBytes 2 standby
    ++ toBytes 1 7 ++ toBytes 1 7 ++ tail

theorem witness_PutFleetStoresTheRow :
    let asks (s : State) (v : Slot) (payload : List Byte) : Prop := s.TakesPut ⟨0, 50, payload⟩ [] .fleet v.val
    (∃ s : State, asks s 255 (fleetRow (2 ^ 24 - 1) .electric 9999 9999 []) ∧ (s.veh 255).tag = 0
        ∧ ∀ w, w ≠ 255 → (s.veh w).tag ≠ 2 ^ 24 - 1)
      ∧ (∃ s : State, asks s 0 (fleetRow 1000 .diesel 0 0 (List.replicate 11 0)) ∧ (s.veh 0).tag = 1000
        ∧ (s.veh 0).state = .out ∧ ∀ w, w ≠ 0 → (s.veh w).tag ≠ 1000)
      ∧ (∃ s : State, asks s 0 (fleetRow 0 .diesel 0 0 []) ∧ (s.veh 0).state = .out ∧ s.planned 0 = false)
      ∧ ∃ s : State, asks s 1 (fleetRow 1001 .electric 65535 10000 []) ∧ (s.veh 1).state = .parked
        ∧ (s.veh 1).tag = 1001 ∧ (s.veh 1).propulsion = .electric ∧ (s.veh 1).length = .standard
        ∧ ∀ w, w ≠ 1 → (s.veh w).tag ≠ 1001 := by
  intro asks
  refine ⟨⟨yard.putting .fleet 255 (fleetRow (2 ^ 24 - 1) .electric 9999 9999 []), ?_⟩,
    ⟨yard.putting .fleet 0 (fleetRow 1000 .diesel 0 0 (List.replicate 11 0)), ?_⟩,
    ⟨yard.putting .fleet 0 (fleetRow 0 .diesel 0 0 []), ?_⟩,
    (yard.modVeh 1 fun r => { r with state := .parked }).putting .fleet 1 (fleetRow 1001 .electric 65535 10000 []), ?_⟩
  all_goals simp only [asks, State.TakesPut, State.Takes]; decide +kernel

theorem witness_PutFleetStoresTheRow_refused :
    let asks (s : State) (payload : List Byte) : Prop := s.TakesPut ⟨0, 50, payload⟩ [] .fleet 0
    (∃ s : State, asks s (fleetRow 1001 .diesel 0 0 []) ∧ (s.veh 1).tag = 1001)
      ∧ (∃ s : State, asks s (fleetRow 1000 .electric 0 0 []) ∧ (s.veh 0).tag = 1000 ∧ (s.veh 0).state = .lost
        ∧ (s.veh 0).propulsion = .diesel)
      ∧ (∃ s : State, asks s (fleetRow 1002 .diesel 0 0 []) ∧ (s.veh 0).tag = 1000 ∧ s.ds.standby = [boundRow 300 0])
      ∧ ∃ s : State, asks s [0, 3, 232, 2, 0, 0, 0, 0, 0, 0, 0] := by
  intro asks
  refine ⟨⟨yard.putting .fleet 0 (fleetRow 1001 .diesel 0 0 []), ?_⟩,
    ⟨(placed .lost .none).putting .fleet 0 (fleetRow 1000 .electric 0 0 []), ?_⟩,
    ⟨{ yard with ds := { yard.ds with standby := [boundRow 300 0] } }.putting .fleet 0 (fleetRow 1002 .diesel 0 0 []), ?_⟩,
    yard.putting .fleet 0 [0, 3, 232, 2, 0, 0, 0, 0, 0, 0, 0], ?_⟩
  all_goals simp only [asks, State.TakesPut, State.Takes]; decide +kernel

/-- A PLANNED row. -/
def planned (key : Nat) : PlanRow := { boundRow key 0 with state := .planned, bound := none }

theorem witness_PutPlanRows :
    (∃ s : State, s.TakesPut ⟨0, 50, planPayload 0 65535 .any .any 65535 none []⟩ [] .standby 0 ∧ s.ds.swap = .pending)
      ∧ (∃ s : State, s.TakesPut ⟨0, 50, planPayload 1 0 .any .any 0 none []⟩ [] .standby 1 ∧ s.ds.swap ≠ .pending
        ∧ s.ds.standby.length = 0)
      ∧ (∃ s : State, s.TakesPut ⟨0, 50, planPayload 0 65535 .any .any 65535 (some 1) []⟩ [] .standby 1 ∧ s.ds.swap ≠ .pending
        ∧ s.ds.standby.length = 1 ∧ (s.veh 1).tag ≠ 0)
      ∧ (∃ s : State, s.TakesPut ⟨0, 50, planPayload 1 0 .any .any 0 none (List.replicate 5 0)⟩ [] .standby 0
        ∧ s.ds.swap ≠ .pending ∧ s.ds.standby.length = 1)
      ∧ (∃ s : State, s.TakesPut ⟨0, 50, planPayload 1 300 .any .any 9999 (some 1) []⟩ [] .active 1 ∧ (s.veh 1).tag ≠ 0
        ∧ (s.veh 1).held = false ∧ s.ds.active = [boundRow 300 0] ∧ s.row 1 = none)
      ∧ ∃ s : State, s.TakesPut ⟨0, 50, planPayload 65535 350 .any .any 0 none []⟩ [] .active 1
        ∧ s.ds.active = [planned 350, boundRow 400 1, planned 350] := by
  let s := fun swap active standby => { yard with ds := { yard.ds with swap := swap, active := active, standby := standby } }
  refine ⟨⟨(s .pending [] []).putting .standby 0 (planPayload 0 65535 .any .any 65535 none []), ?_⟩,
    ⟨(s .none [] []).putting .standby 1 (planPayload 1 0 .any .any 0 none []), ?_⟩,
    ⟨(s .armed [] [planned 5]).putting .standby 1 (planPayload 0 65535 .any .any 65535 (some 1) []), ?_⟩,
    ⟨(s .none [] [planned 5]).putting .standby 0 (planPayload 1 0 .any .any 0 none (List.replicate 5 0)), ?_⟩,
    ⟨(s .none [boundRow 300 0] []).putting .active 1 (planPayload 1 300 .any .any 9999 (some 1) []), ?_⟩,
    (s .none [planned 350, boundRow 400 1, planned 350] []).putting .active 1 (planPayload 65535 350 .any .any 0 none []), ?_⟩
  all_goals unfold State.TakesPut State.Takes; decide +kernel

theorem witness_PutPlanRows_refused :
    let asks (s : State) (i : Nat) (payload : List Byte) : Prop := s.TakesPut ⟨0, 50, payload⟩ [] .active i
    (∃ s : State, asks s 1 (planPayload 1 300 .any .any 0 none []) ∧ s.ds.active.length < 1)
      ∧ (∃ s : State, asks s 0 (planPayload 1 300 .any .any 0 none []) ∧ s.ds.active = [calledRow])
      ∧ (∃ s : State, asks s 1 (planPayload 1 299 .any .any 0 none []) ∧ s.ds.active = [planned 300])
      ∧ (∃ s : State, asks s 1 (planPayload 1 300 .any .any 0 (some 0) []) ∧ s.ds.active = [boundRow 300 0])
      ∧ (∃ s : State, asks s 0 (planPayload 1 300 .any .any 0 (some 0) []) ∧ s.ds.active = [] ∧ (s.veh 0).held = true)
      ∧ (∃ s : State, asks s 0 [0, 1, 0, 0, 3, 0, 0, 0, 255, 255])
      ∧ (∃ s : State, asks s 0 [0, 1, 0, 0, 0, 0, 0, 0, 1, 0])
      ∧ ∃ s : State, s.TakesPut ⟨0, 50, [0, 1, 0, 0, 0, 0, 0, 0, 0, 255]⟩ [] .standby 0 ∧ (s.veh 255).tag = 0 := by
  intro asks
  let s := fun active => { yard with ds := { yard.ds with active := active } }
  refine ⟨⟨(s []).putting .active 1 (planPayload 1 300 .any .any 0 none []), ?_⟩,
    ⟨(s [calledRow]).putting .active 0 (planPayload 1 300 .any .any 0 none []), ?_⟩,
    ⟨(s [planned 300]).putting .active 1 (planPayload 1 299 .any .any 0 none []), ?_⟩,
    ⟨(s [boundRow 300 0]).putting .active 1 (planPayload 1 300 .any .any 0 (some 0) []), ?_⟩,
    ⟨(yard.modVeh 0 fun r => { r with held := true }).putting .active 0 (planPayload 1 300 .any .any 0 (some 0) []), ?_⟩,
    ⟨yard.putting .active 0 [0, 1, 0, 0, 3, 0, 0, 0, 255, 255], ?_⟩, ⟨yard.putting .active 0 [0, 1, 0, 0, 0, 0, 0, 0, 1, 0], ?_⟩,
    yard.putting .standby 0 [0, 1, 0, 0, 0, 0, 0, 0, 0, 255], ?_⟩
  all_goals simp only [asks, State.TakesPut, State.Takes]; decide +kernel

theorem witness_SwapOrders :
    (∃ s : State, s.TakesOrder ⟨0, 53, [0]⟩ [] 0 [] ∧ s.ds.swap = .none ∧ validBank s.ds.standby = false)
      ∧ (∃ s : State, s.TakesOrder ⟨0, 53, [0]⟩ [] 0 [] ∧ s.ds.swap = .none ∧ validBank s.ds.standby = true
        ∧ s.anyCalled = true)
      ∧ (∃ s : State, s.TakesOrder ⟨0, 53, [0]⟩ [] 0 [] ∧ s.ds.swap = .none ∧ validBank s.ds.standby = true
        ∧ s.anyCalled = false ∧ s.ds.standby ≠ [])
      ∧ (∃ s : State, s.TakesOrder ⟨0, 53, [1]⟩ [] 1 [] ∧ s.ds.swap = .none ∧ validBank s.ds.standby = true)
      ∧ (∃ s : State, s.TakesOrder ⟨0, 53, [1]⟩ [] 1 [] ∧ s.ds.swap = .none ∧ validBank s.ds.standby = false)
      ∧ ∃ s : State, s.TakesOrder ⟨0, 53, [2]⟩ [] 2 [] ∧ s.ds.swap = .pending := by
  let s := fun swap active standby => { yard with ds := { yard.ds with swap := swap, active := active, standby := standby } }
  let twice := [boundRow 300 1, boundRow 310 1]
  refine ⟨⟨(s .none [] twice).served 53 [0], ?_⟩,
    ⟨(s .none [{ boundRow 300 0 with state := .called }] [boundRow 300 1]).served 53 [0], ?_⟩,
    ⟨(s .none [] [boundRow 300 1, planned 300]).served 53 [0], ?_⟩,
    ⟨(s .none [] [planned 300]).served 53 [1], ?_⟩, ⟨(s .none [] [planned 300, planned 299]).served 53 [1], ?_⟩,
    (s .pending [] []).served 53 [2], ?_⟩
  all_goals unfold State.TakesOrder State.Takes; decide +kernel

theorem witness_CancelRowByState :
    (∃ s : State, s.Takes ⟨2, 53, 3 :: toBytes 2 0⟩ [] ∧ 0 < s.requesterClass 2)
      ∧ (∃ s : State, s.TakesOrder ⟨0, 53, 3 :: toBytes 2 1⟩ [] 3 (toBytes 2 1) ∧ s.row 1 = none)
      ∧ (∃ s : State, s.TakesOrder ⟨0, 53, 3 :: toBytes 2 0⟩ [] 3 (toBytes 2 0)
        ∧ s.row 0 = some { boundRow 300 1 with state := .called })
      ∧ (∃ s : State, s.TakesOrder ⟨0, 53, 3 :: toBytes 2 0⟩ [] 3 (toBytes 2 0)
        ∧ s.row 0 = some { planned 300 with state := .cancelled })
      ∧ (∃ s : State, s.TakesOrder ⟨0, 53, 3 :: toBytes 2 0⟩ [] 3 (toBytes 2 0) ∧ s.row 0 = some (planned 300))
      ∧ ∃ s : State, s.TakesOrder ⟨0, 53, 3 :: toBytes 2 0⟩ [] 3 (toBytes 2 0) ∧ s.row 0 = some (boundRow 300 1) := by
  let s := fun row n => State.served { yard with ds := { yard.ds with active := [row] } } 53 (3 :: toBytes 2 n)
  refine ⟨⟨byTerminal 53 (3 :: toBytes 2 0), ?_⟩, ⟨s (planned 300) 1, ?_⟩, ⟨s { boundRow 300 1 with state := .called } 0, ?_⟩,
    ⟨s { planned 300 with state := .cancelled } 0, ?_⟩, ⟨s (planned 300) 0, ?_⟩, s (boundRow 300 1) 0, ?_⟩
  · unfold State.Takes; decide +kernel
  all_goals unfold State.TakesOrder State.Takes; decide +kernel

theorem witness_HoldAndUnhold :
    (∃ s : State, s.TakesOrder ⟨0, 53, 4 :: toBytes 2 255⟩ [] 4 (toBytes 2 255) ∧ (s.veh 255).tag = 0)
      ∧ (∃ s : State, s.TakesOrder ⟨0, 53, 4 :: toBytes 2 0⟩ [] 4 (toBytes 2 0) ∧ (s.veh 0).tag ≠ 0 ∧ (s.veh 0).held = true
        ∧ s.AtRest)
      ∧ (∃ s : State, s.TakesOrder ⟨0, 53, 4 :: toBytes 2 0⟩ [] 4 (toBytes 2 0) ∧ (s.veh 0).tag ≠ 0 ∧ (s.veh 0).held = false
        ∧ (s.veh 0).state = .out ∧ s.AtRest ∧ (s.veh 0).boundRow = none)
      ∧ (∃ s : State, s.TakesOrder ⟨0, 53, 4 :: toBytes 2 0⟩ [] 4 (toBytes 2 0) ∧ (s.veh 0).tag ≠ 0 ∧ (s.veh 0).held = false
        ∧ (s.veh 0).state = .out ∧ s.AtRest ∧ (s.veh 0).boundRow = some 0 ∧ s.row 0 = some (boundRow 300 0))
      ∧ (∃ s : State, s.TakesOrder ⟨0, 53, 5 :: toBytes 2 255⟩ [] 5 (toBytes 2 255) ∧ (s.veh 255).tag = 0)
      ∧ (∃ s : State, s.TakesOrder ⟨0, 53, 5 :: toBytes 2 0⟩ [] 5 (toBytes 2 0) ∧ (s.veh 0).tag ≠ 0)
      ∧ (∃ s : State, s.TakesOrder ⟨0, 53, 4 :: toBytes 2 256⟩ [] 4 (toBytes 2 256))
      ∧ (∃ s : State, s.TakesOrder ⟨0, 53, 5 :: toBytes 2 65535⟩ [] 5 (toBytes 2 65535))
      ∧ (∃ s : State, s.TakesOrder ⟨0, 53, 4 :: toBytes 2 0⟩ [] 4 (toBytes 2 0) ∧ (s.veh 0).tag ≠ 0 ∧ (s.veh 0).held = false
        ∧ (s.veh 0).state = .departing ∧ (s.veh 0).boundRow = some 0
        ∧ s.row 0 = some { boundRow 300 0 with state := .called } ∧ s.AtRest ∧ s.ds.swap ≠ .pending ∧ s.inSomeLane 0 = false)
      ∧ ∃ s : State, s.TakesOrder ⟨0, 53, 4 :: toBytes 2 0⟩ [] 4 (toBytes 2 0) ∧ (s.veh 0).tag ≠ 0 ∧ (s.veh 0).held = false
        ∧ (s.veh 0).state = .called ∧ (s.veh 0).boundRow = some 0
        ∧ s.row 0 = some { boundRow 300 0 with state := .called } ∧ s.AtRest ∧ s.ds.swap ≠ .pending := by
  let order := fun (s : State) code n => s.served 53 (code :: toBytes 2 n)
  let bus := fun state row held => { yard.modVeh 0 fun r => { r with state := state, boundRow := some 0, held := held } with
    ds := { yard.ds with active := [row] } }
  refine ⟨⟨order yard 4 255, ?_⟩, ⟨order (yard.modVeh 0 fun r => { r with held := true }) 4 0, ?_⟩, ⟨order yard 4 0, ?_⟩,
    ⟨order (bus .out (boundRow 300 0) false) 4 0, ?_⟩, ⟨order yard 5 255, ?_⟩, ⟨order yard 5 0, ?_⟩, ⟨order yard 4 256, ?_⟩,
    ⟨order yard 5 65535, ?_⟩, ⟨order (bus .departing { boundRow 300 0 with state := .called } false) 4 0, ?_⟩,
    order ((bus .called { boundRow 300 0 with state := .called } false).modLane 0 fun r => { r with entries := [⟨0, .present, none⟩] }) 4 0, ?_⟩
  all_goals unfold State.TakesOrder State.Takes; try unfold State.AtRest
  all_goals decide +kernel

theorem witness_YardSet :
    (∃ s : State, s.TakesOrder ⟨0, 53, 6 :: (toBytes 2 0 ++ toBytes 1 32)⟩ [] 6 (toBytes 2 0 ++ toBytes 1 32))
      ∧ (∃ s : State, s.TakesOrder ⟨0, 53, 6 :: (toBytes 2 0 ++ toBytes 1 254)⟩ [] 6 (toBytes 2 0 ++ toBytes 1 254))
      ∧ (∃ s : State, s.TakesOrder ⟨0, 53, 6 :: (toBytes 2 0 ++ toBytes 1 31)⟩ [] 6 (toBytes 2 0 ++ toBytes 1 31)
        ∧ s.room 31 < s.units 0)
      ∧ (∃ s : State, s.TakesOrder ⟨0, 53, 6 :: (toBytes 2 0 ++ toBytes 1 0)⟩ [] 6 (toBytes 2 0 ++ toBytes 1 0)
        ∧ (s.veh 0).tag ≠ 0 ∧ (s.veh 0).state = .out ∧ s.entry 0 0 = none ∧ s.units 0 ≤ s.room 0 ∧ s.AtRest ∧ s.NoneBlocked
        ∧ s.waitList = [])
      ∧ (∃ s : State, s.TakesOrder ⟨0, 53, 6 :: (toBytes 2 256 ++ toBytes 1 0)⟩ [] 6 (toBytes 2 256 ++ toBytes 1 0))
      ∧ (∃ s : State, s.TakesOrder ⟨0, 53, 6 :: (toBytes 2 65535 ++ [255])⟩ [] 6 (toBytes 2 65535 ++ [255]))
      ∧ (∃ s : State, s.TakesOrder ⟨0, 53, 6 :: (toBytes 2 255 ++ [255])⟩ [] 6 (toBytes 2 255 ++ [255]) ∧ (s.veh 255).tag = 0)
      ∧ (∃ s : State, s.TakesOrder ⟨0, 53, 6 :: (toBytes 2 0 ++ [255])⟩ [] 6 (toBytes 2 0 ++ [255]) ∧ (s.veh 0).tag ≠ 0
        ∧ (s.veh 0).state = .out ∧ s.AtRest)
      ∧ ∃ s : State, s.TakesOrder ⟨0, 53, 6 :: (toBytes 2 0 ++ [255])⟩ [] 6 (toBytes 2 0 ++ [255]) ∧ (s.veh 0).tag ≠ 0
        ∧ (s.veh 0).state = .parked ∧ s.AtRest ∧ (s.veh 0).boundRow = some 0 ∧ s.row 0 = some (boundRow 300 0)
        ∧ s.ds.swap ≠ .pending ∧ s.flag .unscheduledExit = false := by
  let order := fun (s : State) (v n : Nat) => s.served 53 (6 :: (toBytes 2 v ++ toBytes 1 n))
  let parked := { yard.modVeh 0 fun r => { r with state := .parked, location := .lane 0 .present none, boundRow := some 0 } with
    ds := { yard.ds with active := [boundRow 300 0] } }
  refine ⟨⟨order yard 0 32, ?_⟩, ⟨order yard 0 254, ?_⟩, ⟨order yard 0 31, ?_⟩, ⟨order yard 0 0, ?_⟩, ⟨order yard 256 0, ?_⟩,
    ⟨order yard 65535 255, ?_⟩, ⟨order yard 255 255, ?_⟩,
    ⟨order yard 0 255, ?_⟩, order (parked.modLane 0 fun r => { r with entries := [⟨0, .present, none⟩] }) 0 255, ?_⟩
  all_goals unfold State.TakesOrder State.Takes; try unfold State.AtRest
  all_goals try unfold State.NoneBlocked
  all_goals decide +kernel

theorem witness_LaneOrders :
    (∃ s : State, s.Takes ⟨3, 53, [7, 0]⟩ [] ∧ 1 < s.requesterClass 3) ∧ (∃ s : State, s.Takes ⟨3, 53, [8, 0]⟩ [] ∧ 1 < s.requesterClass 3)
      ∧ (∃ s : State, s.Takes ⟨2, 53, 7 :: toBytes 1 32⟩ [] ∧ s.requesterClass 2 ≤ 1)
      ∧ (∃ s : State, s.Takes ⟨2, 53, 7 :: toBytes 1 31⟩ [] ∧ s.requesterClass 2 ≤ 1 ∧ (s.lane 31).cfg.capacity = 0)
      ∧ (∃ s : State, s.Takes ⟨2, 53, 7 :: toBytes 1 0⟩ [] ∧ s.requesterClass 2 ≤ 1 ∧ (s.lane 0).cfg.capacity ≠ 0 ∧ s.AtRest
        ∧ s.waitList = [])
      ∧ (∃ s : State, s.Takes ⟨2, 53, 8 :: toBytes 1 255⟩ [] ∧ s.requesterClass 2 ≤ 1)
      ∧ ∃ s : State, s.Takes ⟨2, 53, 8 :: toBytes 1 31⟩ [] ∧ s.requesterClass 2 ≤ 1 := by
  refine ⟨⟨byReader 53 [7, 0], ?_⟩, ⟨byReader 53 [8, 0], ?_⟩, ⟨byTerminal 53 (7 :: toBytes 1 32), ?_⟩,
    ⟨byTerminal 53 (7 :: toBytes 1 31), ?_⟩, ⟨byTerminal 53 (7 :: toBytes 1 0), ?_⟩, ⟨byTerminal 53 (8 :: toBytes 1 255), ?_⟩,
    byTerminal 53 (8 :: toBytes 1 31), ?_⟩
  all_goals unfold State.Takes; try unfold State.AtRest
  all_goals decide +kernel

theorem witness_BayOrders :
    let order (code : Byte) (bay : BayNo) (r : Bay → Bay) (queue : List Ticket) (s : State) : Prop :=
      s = State.served (State.setQueue (yard.modBay bay r) .wash queue) 53 (code :: toBytes 1 bay.val)
        ∧ s.Takes ⟨0, 53, code :: toBytes 1 bay.val⟩ [] ∧ s.requesterClass 0 ≤ 1
    let k := ticket 0 .wash 5
    (∀ code ∈ ([9, 10, 11] : List Byte), (yard.served 53 (code :: toBytes 1 6)).Takes ⟨0, 53, code :: toBytes 1 6⟩ [])
      ∧ (∃ s : State, order 9 5 (fun r => { r with state := .out }) [] s)
      ∧ (∃ s : State, order 9 5 id [] s ∧ (s.bay 5).state = .free)
      ∧ (∃ s : State, order 9 1 (fun r => { r with state := .closed }) [] s ∧ s.queue (s.bay 1).cfg.kind = [])
      ∧ (∃ s : State, order 9 1 (fun r => { r with state := .closed }) [k] s ∧ s.queue (s.bay 1).cfg.kind ≠ []
        ∧ s.heard (s.bay 1).cfg.unit = true)
      ∧ (∃ s : State, order 10 1 (fun r => { r with state := .busy }) [] s)
      ∧ (∃ s : State, order 10 1 (fun r => { r with state := .closed }) [] s)
      ∧ (∃ s : State, order 10 1 (fun r => { r with state := .out }) [] s)
      ∧ (∃ s : State, order 10 1 (fun r => { r with state := .calling, ticket := some { k with state := .calledToBay } }) [] s
        ∧ (∀ q ∈ s.queue .wash, q.slot ≠ 0) ∧ k.kind = (s.bay 1).cfg.kind ∧ s.QueuesOfTheirKind)
      ∧ (∃ s : State, order 11 5 id [] s)
      ∧ (∃ s : State, order 11 5 (fun r => { r with state := .closed }) [] s)
      ∧ (∃ s : State, order 11 5 (fun r => { r with state := .faultWait }) [] s)
      ∧ (∃ s : State, order 11 5 (fun r => { r with state := .out }) [k] s ∧ s.heard (s.bay 5).cfg.unit = false)
      ∧ ∃ s : State, order 11 1 (fun r => { r with state := .out }) [k] s ∧ s.queue (s.bay 1).cfg.kind ≠ []
        ∧ s.heard (s.bay 1).cfg.unit = true := by
  intro order k
  refine ⟨?_, ⟨_, rfl, ?_⟩, ⟨_, ⟨rfl, ?_⟩, ?_⟩, ⟨_, ⟨rfl, ?_⟩, ?_⟩, ⟨_, ⟨rfl, ?_⟩, ?_⟩, ⟨_, rfl, ?_⟩, ⟨_, rfl, ?_⟩, ⟨_, rfl, ?_⟩,
    ⟨_, ⟨rfl, ?_⟩, ?_, ?_, emptyQueues rfl rfl⟩, ⟨_, rfl, ?_⟩, ⟨_, rfl, ?_⟩, ⟨_, rfl, ?_⟩, ⟨_, ⟨rfl, ?_⟩, ?_⟩, _, ⟨rfl, ?_⟩, ?_⟩
  all_goals try unfold State.Takes
  all_goals decide +kernel

theorem witness_ClearFeederEmptiesTheAccumulator :
    (∃ s : State, s.Takes ⟨2, 53, 12 :: toBytes 1 0⟩ [] ∧ 0 < s.requesterClass 2)
      ∧ (∃ s : State, s.Takes ⟨0, 53, 12 :: toBytes 1 4⟩ [] ∧ s.requesterClass 0 = 0)
      ∧ ∃ s : State, s.Takes ⟨0, 53, 12 :: toBytes 1 3⟩ [] ∧ s.requesterClass 0 = 0 := by
  refine ⟨⟨byTerminal 53 (12 :: toBytes 1 0), ?_⟩, ⟨yard.served 53 (12 :: toBytes 1 4), ?_⟩, yard.served 53 (12 :: toBytes 1 3), ?_⟩
  all_goals unfold State.Takes; decide +kernel

theorem witness_ClockSetWritesTheMinute :
    (∃ s : State, s.TakesOrder ⟨0, 53, 13 :: toBytes 2 1439⟩ [] 13 (toBytes 2 1439))
      ∧ ∃ s : State, s.TakesOrder ⟨0, 53, 13 :: toBytes 2 1440⟩ [] 13 (toBytes 2 1440) ∧ s.ds.active = [] ∧ s.AtRest
        ∧ ∀ l, s.shiftRecord l = .idle := by
  refine ⟨⟨yard.served 53 (13 :: toBytes 2 1439), ?_⟩, yard.served 53 (13 :: toBytes 2 1440), ?_⟩
  · unfold State.TakesOrder State.Takes; decide +kernel
  · unfold State.TakesOrder State.Takes State.AtRest; decide +kernel

theorem witness_ClockSetWritesTheMinute_call :
    ∃ s : State, s.TakesOrder ⟨0, 53, 13 :: toBytes 2 290⟩ [] 13 (toBytes 2 290) ∧ s.AtRest ∧ s.ds.swap ≠ .pending
      ∧ s.row 0 = some (boundRow 300 0) ∧ (s.veh 0).state = .parked ∧ s.presentLane 0 = some 1 ∧ s.entryIndex 1 0 = 0
      ∧ 300 ≤ min 1439 290 + s.ss.params.callLead ∧ min 1439 290 ≤ 300 + s.ss.params.departureGrace
      ∧ s.ds.active.length = 1 ∧ ∀ m, s.shiftRecord m = .idle := by
  refine ⟨State.served (withList (placed .parked (.lane 1 .present none) (boundRow 300 0)) 1 [⟨0, .present, none⟩]) 53
    (13 :: toBytes 2 290), ?_⟩
  unfold State.TakesOrder State.Takes State.AtRest; decide +kernel

/-- A lifetime of a ticket: the ticket that joined 1440 minutes before goes behind the one that has waited a minute (R60). -/
theorem test_minuteAdvance_wraps :
    let t := after (exec (.minuteAdvance AdvanceTaker.all) (State.setQueue { State.reset with
      ycs := { State.reset.ycs with minute := 99 } } .wash [ticket 7 .wash 100, ticket 3 .wash 99]))
    t.stc.washQueue.map Ticket.slot = [3, 7] := by decide +kernel

/-- Note 1 of R176: between the answer to RESET and the reset the depot link sends nothing. -/
theorem test_transmitNotice_due :
    let s := { State.reset with dlp := { State.reset.dlp with reset := .due, notices := [.noBerth 1000 0 .gate 1] } }
    (after (exec .transmitNotice s)).dlp = s.dlp := by decide +kernel

theorem witness_MinuteAdvanceMovesTheClock :
    (∃ s : State, s.ycs.minute = 1439 ∧ (∀ q ∈ s.queue .wash, q.join < 1440) ∧ s.queue .wash = [ticket 7 .wash 0, ticket 3 .wash 4]
        ∧ (s.queue .wash).Pairwise (fun a b => s.waiting b < s.waiting a ∨ s.waiting a = s.waiting b ∧ a.slot < b.slot))
      ∧ (∃ s : State, s.ycs.clockSet = true ∧ s.stc.washQueue = [ticket 0 .wash 5] ∧ s.boundPlan 0 = some (boundRow 300 0)
        ∧ 300 < s.ycs.minute + s.ss.params.washSkipMargin ∧ (s.veh 0).state = .service ∧ s.inSomeLane 0 = false
        ∧ ∀ w ∈ s.waitList, w.slot ≠ 0)
      ∧ (∃ s : State, s.ycs.clockSet = true ∧ s.ycs.minute = 1439 ∧ s.ds.swap = .none
        ∧ s.ds.active = [boundRow 300 0, { calledRow with bound := some 1 }, planned 700, { planned 800 with state := .cancelled }])
      ∧ (∃ s : State, s.ycs.clockSet = true ∧ s.ycs.minute = 1439 ∧ s.ds.swap = .armed ∧ validBank s.ds.standby = true
        ∧ s.anyCalled = false ∧ s.ds.standby ≠ [])
      ∧ (∃ s : State, s.ycs.clockSet = true ∧ s.ycs.minute = 1439 ∧ s.ds.swap = .armed ∧ validBank s.ds.standby = true
        ∧ s.anyCalled = true)
      ∧ (∃ s : State, s.ycs.clockSet = true ∧ s.ycs.minute = 1439 ∧ s.ds.swap = .armed ∧ validBank s.ds.standby = false
        ∧ s.er.deferred = none)
      ∧ (∃ s : State, s.ycs.clockSet = true ∧ s.ycs.minute = 305 ∧ s.ds.swap ≠ .pending ∧ s.row 0 = some calledRow
        ∧ s.row 1 = some { planned 300 with state := .short } ∧ 300 + s.ss.params.departureGrace < 306)
      ∧ ∃ s : State, s.ycs.clockSet = true ∧ s.ycs.minute = 304 ∧ s.ds.swap ≠ .pending ∧ s.row 0 = some calledRow
        ∧ 305 ≤ 300 + s.ss.params.departureGrace := by
  let s := fun minute swap active standby => { yard with
    ycs := { yard.ycs with minute := minute, clockSet := true }
    ds := { yard.ds with active := active, standby := standby, swap := swap } }
  refine ⟨⟨State.setQueue (s 1439 .none [] []) .wash [ticket 7 .wash 0, ticket 3 .wash 4], ?_⟩,
    ⟨State.setQueue { placed .service (.queue .wash) (boundRow 300 0) with ycs := { yard.ycs with minute := 271, clockSet := true } }
      .wash [ticket 0 .wash 5], ?_⟩,
    ⟨s 1439 .none [boundRow 300 0, { calledRow with bound := some 1 }, planned 700, { planned 800 with state := .cancelled }] [], ?_⟩,
    ⟨s 1439 .armed [] [boundRow 300 0, planned 700], ?_⟩, ⟨s 1439 .armed [calledRow] [boundRow 300 0, planned 700], ?_⟩,
    ⟨s 1439 .armed [] [planned 700, planned 300], ?_⟩,
    ⟨s 305 .none [calledRow, { planned 300 with state := .short }] [], ?_⟩, s 304 .none [calledRow] [], ?_⟩ <;> decide +kernel

theorem witness_StoreLoadReset :
    (∃ s : State, s.TakesOrder ⟨0, 53, [14]⟩ [] 14 [] ∧ s.ss.storing = false ∧ s.ss.loading = true)
      ∧ (∃ s : State, s.TakesOrder ⟨0, 53, [14]⟩ [] 14 [] ∧ s.ss.storing = false ∧ s.ss.loading = false)
      ∧ (∃ s : State, s.TakesOrder ⟨0, 53, [15]⟩ [] 15 [] ∧ s.ss.loading = false ∧ s.ss.storing = true)
      ∧ (∃ s : State, s.TakesOrder ⟨0, 53, [15]⟩ [] 15 [] ∧ s.ss.loading = false ∧ s.ss.storing = false
        ∧ ∃ b, inUse (s.bay b).state = true)
      ∧ (∃ s : State, s.TakesOrder ⟨0, 53, [15]⟩ [] 15 [] ∧ s.ss.loading = false ∧ s.ss.storing = false
        ∧ (∀ l, (s.lane l).entries = []) ∧ ∀ b, inUse (s.bay b).state = false)
      ∧ ∃ s : State, s.TakesOrder ⟨0, 53, [16]⟩ [] 16 [] := by
  let s := fun storing loading code => State.served { yard with ss := { yard.ss with storing := storing, loading := loading } } 53 [code]
  refine ⟨⟨s false true 14, ?_⟩, ⟨s false false 14, ?_⟩, ⟨s true false 15, ?_⟩,
    ⟨(s false false 15).inBay 5 .busy (ticket 0 .wash 5 0 .inBay), ?_⟩, ⟨s false false 15, ?_⟩, s false false 16, ?_⟩
  all_goals unfold State.TakesOrder State.Takes; decide +kernel

theorem witness_FeedersAfterAMinuteAdvance :
    (∃ s : State, (s.feeder 0).cfg.meter = some 60 ∧ (s.station 60).silent = false ∧ (s.feeder 0).reading = some 250
        ∧ (s.feeder 0).state = .normal)
      ∧ (∃ s : State, (s.feeder 0).cfg.meter = some 60 ∧ (s.station 60).silent = false ∧ (s.feeder 0).reading = none
        ∧ (s.feeder 0).state = .shed)
      ∧ ∃ s : State, (s.feeder 3).cfg.meter = none ∧ (s.feeder 3).state = .tripped
        ∧ ∀ c, (s.charger c).cfg.feeder = 3 → (s.charger c).grant = 0 := by
  refine ⟨⟨yard.modFeeder 0 fun r => { r with reading := some 250 }, ?_⟩, ⟨yard.modFeeder 0 fun r => { r with state := .shed }, ?_⟩,
    yard.modFeeder 3 fun r => { r with state := .tripped }, ?_⟩ <;> decide +kernel

/-- Charger 0 with bus 1 connected and one more charger of feeder 0 with a bus that has no deficit. -/
def charging : State :=
  let s := (yard.modVeh 1 fun r => { r with state := .parked, location := .lane 0 .present none, lastSoc := some 100 }).setVeh 2
    { tag := 1002, propulsion := .electric, battery := some 3000, standby := some 300, lastSoc := some 1000, state := .parked
      location := .lane 0 .present none }
  let s := withList s 0 [⟨1, .present, none⟩, ⟨2, .present, none⟩]
  let s := (s.modCharger 0 fun r => { r with state := .connected, connected := some 1 }).setCharger 1
    { cfg := { station := some 10, position := 1, pMax := 100 }, state := .charging, connected := some 2, grant := 50, resend := false }
  (s.withStation 10 .charger 1).modFeeder 0 fun r => { r with budget := 150 }

theorem witness_FeedersAfterAMinuteAdvance_grants :
    (∃ s : State, (s.charger 0).connected = some 1 ∧ s.isCandidate 0 = true ∧ 0 < s.deficit 1 ∧ s.ycs.clockSet = false)
      ∧ (∃ candidates : List Candidate, (candidates.map Candidate.charger).Nodup ∧ candidates.length = 3)
      ∧ (∃ s : State, (s.charger 1).cfg.feeder = 0 ∧ s.candidateOf 1 = none ∧ s.isCandidate 1 = true)
      ∧ (∃ s : State, (s.charger 2).cfg.feeder = 0 ∧ s.candidateOf 2 = none ∧ s.isCandidate 2 = false)
      ∧ (∃ s : State, (orderCandidates ((upTo 64).filterMap fun c => if (s.charger c).cfg.feeder = 0 then s.candidateOf c else none)).map
        Candidate.charger = [0])
      ∧ ∃ s : State, s.blc.originFifo = [] ∧ (s.charger 0).cfg.feeder = 0 ∧ (s.charger 0).resend = true
        ∧ s.heard (s.charger 0).cfg.station = true ∧ (s.roundGrants 0).blc.originFifo.length = 1 := by
  refine ⟨⟨charging, ?_⟩, ⟨[⟨0, 1, 3, 4, 0⟩, ⟨1, 1, -3, 1, 0⟩, ⟨2, 1, 9, 3, 60⟩], ?_⟩, ⟨charging, ?_⟩, ⟨charging, ?_⟩, ⟨charging, ?_⟩,
    charging, ?_⟩ <;> decide +kernel

theorem witness_FeedersAfterAMinuteAdvance_step2 :
    (∃ s : State, (s.feeder 0).state = .normal ∧ (s.feeder 0).accumulator = 99 ∧ (s.feeder 0).cfg.limit = 100)
      ∧ (∃ s : State, (s.feeder 0).state = .normal ∧ (s.feeder 0).accumulator = 100 ∧ (s.feeder 0).cfg.limit = 100
        ∧ s.ycs.mode = .normal)
      ∧ (∃ s : State, (s.feeder 0).state = .shed ∧ (s.feeder 0).accumulator = 0)
      ∧ ∃ s : State, (s.feeder 0).state = .shed ∧ (s.feeder 0).accumulator = 200 ∧ (s.feeder 0).cfg.limit = 100
        ∧ (s.charger 1).cfg.feeder = 0 ∧ 0 < (s.charger 1).grant ∧ s.heard (s.charger 1).cfg.station = true
        ∧ s.blc.originFifo = [] := by
  let s := fun state n => charging.modFeeder 0 fun r => { r with state := state, accumulator := n }
  refine ⟨⟨s .normal 99, ?_⟩, ⟨{ s .normal 100 with ycs := { yard.ycs with mode := .normal, supervision := some 10 } }, ?_⟩,
    ⟨s .shed 0, ?_⟩, s .shed 200, ?_⟩ <;> decide +kernel

/-- R104 compares with the grants as step 6 begins: the charger that step 4 made FULL has its grant at 0 then, and no
SETPOINT is placed for it (log 16). -/
theorem test_round_full :
    let t := charging.roundGrants 0
    (t.charger 1).state = .full ∧ (t.charger 1).grant = 0 ∧ t.blc.originFifo = [⟨9, .setpoint, [0, 100]⟩] := by decide +kernel

theorem witness_TimersThatOnlyMark :
    (∃ s : State, s.ycs.supervision = some 10)
      ∧ (∃ s : State, (s.bay 1).state = .faultWait ∧ (s.bay 1).retryTimer = some 2 ∧ (s.bay 1).ticket = some (ticket 0 .wash 5 0 .inBay)
        ∧ (s.bay 1).cfg.unit = some 31 ∧ s.blc.originFifo.length = 16)
      ∧ (∃ s : State, (s.bay 1).overstayTimer = some 10 ∧ (s.bay 1).overstay = false)
      ∧ ∃ s : State, s.ycs.supervision = none ∧ (s.bay 5).retryTimer = none ∧ (s.bay 5).overstayTimer = none := by
  let waits := (yard.inBay 1 .faultWait (ticket 0 .wash 5 0 .inBay)).modBay 1 fun r =>
    { r with retryTimer := some 2, overstayTimer := some 10 }
  refine ⟨⟨{ yard with ycs := { yard.ycs with mode := .normal, supervision := some 10 } }, rfl⟩,
    ⟨{ waits with blc := { waits.blc with originFifo := List.replicate 16 ⟨12, .sign, []⟩ } }, ?_⟩, ⟨waits, ?_⟩, yard, ?_⟩ <;>
    decide +kernel

theorem witness_ReservationAndNoShowLapse :
    (∃ s : State, s.entry 31 255 = some ⟨255, .expected, some 10⟩ ∧ s.AtRest ∧ (∀ m, m ≠ 31 → s.entry m 255 = none)
        ∧ ∀ w ∈ s.waitList, w.slot ≠ 255)
      ∧ ∀ kind, ∃ s : State, ∃ b, (s.bay b).state = .calling ∧ (s.bay b).noShowTimer = some 5
        ∧ (s.bay b).ticket = some (ticket 0 kind 5 0 .calledToBay) ∧ s.AtRest ∧ kind = (s.bay b).cfg.kind
        ∧ (∀ q ∈ s.queue kind, q.slot ≠ 0) ∧ s.QueuesOfTheirKind := by
  let called := fun b kind => (yard.inBay b .calling (ticket 0 kind 5 0 .calledToBay)).modBay b fun r => { r with noShowTimer := some 5 }
  refine ⟨⟨(yard.modVeh 255 fun r => { r with tag := 7, state := .toBerth }).modLane 31 fun r =>
    { r with entries := [⟨255, .expected, some 10⟩] }, ?_⟩, fun kind => ?_⟩
  · unfold State.AtRest; decide +kernel
  · cases kind
    · refine ⟨called 0 .fuel, 0, ?_, ?_, ?_, ?_, ?_, ?_, emptyQueues rfl rfl⟩ <;> try unfold State.AtRest
      all_goals decide +kernel
    · refine ⟨called 1 .wash, 1, ?_, ?_, ?_, ?_, ?_, ?_, emptyQueues rfl rfl⟩ <;> try unfold State.AtRest
      all_goals decide +kernel

/-- Bus 0 called a second time: bay `b` CALLING with its ticket of no-show count 1. -/
def calledAgain (b : BayNo) (kind : QueueKind) (washes : Nat) (s : State := yard) : State :=
  ((s.modVeh 0 fun r => { r with state := .service, location := .bay b, washCounter := washes }).inBay b .calling
    (ticket 0 kind 5 1 .calledToBay)).modBay b fun r => { r with noShowTimer := some 5 }

theorem witness_ReservationAndNoShowLapse_second :
    let dropped (s : State) (b : BayNo) (kind : QueueKind) (n : Nat) : Prop :=
      (s.bay b).state = .calling ∧ (s.bay b).noShowTimer = some 5 ∧ (s.bay b).ticket = some (ticket 0 kind 5 1 .calledToBay)
        ∧ s.AtRest ∧ kind = (s.bay b).cfg.kind ∧ (s.veh 0).washCounter = n ∧ s.ss.params.washInterval = 2
        ∧ s.waitingTicket .fuel 0 = none ∧ s.waitingTicket .wash 0 = none ∧ (∀ d, d ≠ b → s.bayHolds d 0 = false)
        ∧ (s.veh 0).state = .service ∧ s.inSomeLane 0 = false ∧ ∀ w ∈ s.waitList, w.slot ≠ 0
    (∃ s : State, dropped s 1 .wash 7 ∧ s.candidate .park 0 0 = true ∧ s.ycs.mode = .normal ∧ s.dlp.notices.length = 15
        ∧ s.QueuesOfTheirKind)
      ∧ (∃ s : State, dropped s 1 .wash 0 ∧ (∀ l, s.candidate .park 0 l = false) ∧ s.QueuesOfTheirKind)
      ∧ (∃ s : State, dropped s 0 .fuel 1 ∧ s.candidate .park 0 0 = true ∧ s.QueuesOfTheirKind)
      ∧ (∃ s : State, dropped s 0 .fuel 2 ∧ s.liveTickets .wash = 64 ∧ s.QueuesOfTheirKind)
      ∧ ∃ s : State, dropped s 0 .fuel 2 ∧ s.liveTickets .wash = 0 ∧ s.QueuesOfTheirKind := by
  intro dropped
  let closed := (yard.modLane 0 fun r => { r with setState := .closed }).modLane 1 fun r => { r with setState := .closed }
  refine ⟨⟨{ calledAgain 1 .wash 7 with
      ycs := { yard.ycs with mode := .normal, supervision := some 10 }
      dlp := { yard.dlp with notices := List.replicate 15 (.noBerth 1000 0 .gate 1) } }, ?_, ?_, ?_, ?_, emptyQueues rfl rfl⟩,
    ⟨calledAgain 1 .wash 0 closed, ?_, ?_, emptyQueues rfl rfl⟩, ⟨calledAgain 0 .fuel 1, ?_, ?_, emptyQueues rfl rfl⟩,
    ⟨filled (calledAgain 0 .fuel 2) .wash, ?_, ?_, queuesOfTheirKind ?_ ?_⟩, calledAgain 0 .fuel 2, ?_, ?_, emptyQueues rfl rfl⟩
  all_goals try simp only [dropped, State.AtRest]
  all_goals decide +kernel

/-- A FUEL bay above and below the one eligible WASH bay, with one FUEL ticket waiting. -/
theorem witness_ReservationAndNoShowLapse_order :
    let offers (s : State) (b d : BayNo) : Prop :=
      (s.bay b).state = .calling ∧ (s.bay b).noShowTimer = some 5 ∧ (s.bay b).ticket = some (ticket 0 .fuel 5 1 .calledToBay)
        ∧ s.AtRest ∧ (s.bay b).cfg = ⟨.fuel, some 30, some 12⟩ ∧ s.ss.params.washInterval ≤ (s.veh 0).washCounter
        ∧ s.liveTickets .wash = 0 ∧ s.ycs.clockSet = false ∧ s.stc.fuelQueue = [ticket 1 .fuel 9] ∧ s.stc.washQueue = []
        ∧ (∀ e, e ≠ b → s.bayHolds e 0 = false) ∧ (s.station 30).silent = false
        ∧ (s.bay d).cfg = ⟨.wash, some 31, some 12⟩ ∧ s.eligible d = true
        ∧ (∀ e, e ≠ d → (s.bay e).cfg.kind = .wash → s.eligible e = false) ∧ s.blc.originFifo.length = 14
    (∃ s : State, offers s 0 1) ∧ ∃ s : State, offers s 1 0 := by
  intro offers
  let s := fun b d : BayNo =>
    let s := calledAgain b .fuel 2 ((yard.setBay b { cfg := ⟨.fuel, some 30, some 12⟩ }).setBay d { cfg := ⟨.wash, some 31, some 12⟩ })
    { s with
      stc := { s.stc with fuelQueue := [ticket 1 .fuel 9] }, blc := { s.blc with originFifo := List.replicate 14 ⟨12, .sign, []⟩ } }
  refine ⟨⟨s 0 1, ?_⟩, s 1 0, ?_⟩ <;>
  · simp only [offers, State.AtRest]; decide +kernel

theorem witness_EndsOfStoreAndLoad :
    (∃ s : State, s.ss.storing = true ∧ s.er.deferred = none) ∧ (∃ s : State, s.ss.storing = true ∧ s.er.deferred ≠ none)
      ∧ (∃ s : State, s.ss.loading = true ∧ s.ss.flash = none ∧ s.er.deferred = none)
      ∧ ∃ s : State, ∃ c, s.ss.loading = true ∧ s.ss.flash = some c ∧ (∀ l, (s.lane l).entries = [])
        ∧ ∀ b, inUse (s.bay b).state = false := by
  refine ⟨⟨{ yard with ss := { yard.ss with storing := true } }, ?_⟩,
    ⟨{ yard with ss := { yard.ss with storing := true }, er := { yard.er with deferred := some .loadInvalid } }, ?_⟩,
    ⟨{ yard with ss := { yard.ss with loading := true } }, ?_⟩,
    { yard with ss := { yard.ss with loading := true, flash := some State.reset.configuration } }, State.reset.configuration, ?_⟩ <;>
    decide +kernel

theorem witness_PlacementChoosesTheBest :
    (∃ s : State, ∀ l, s.candidate .park 1 l = false)
      ∧ (∃ s : State, (s.placement 1).isSome = true ∧ s.candidate .park 1 0 = true ∧ s.candidate .park 1 1 = true)
      ∧ (∃ s : State, (s.lane 0).cfg.kind = .through ∧ (s.lane 0).entries.getLast? = none)
      ∧ (∃ s : State, (s.lane 0).cfg.kind = .through ∧ (s.lane 0).entries.getLast? = some ⟨0, .present, none⟩)
      ∧ ∃ s : State, (s.lane 1).cfg.kind = .deadEnd ∧ (s.lane 1).entries.head? = some ⟨0, .present, none⟩ := by
  refine ⟨⟨State.reset, ?_⟩, ⟨yard, ?_⟩, ⟨yard, ?_⟩, ⟨withList yard 0 [⟨0, .present, none⟩], ?_⟩,
    withList yard 1 [⟨0, .present, none⟩], ?_⟩ <;> decide +kernel

theorem witness_PlacementChoosesTheBest_retry :
    (∃ s : State, (s.waitList.map WaitEntry.slot).Nodup ∧ (∀ w ∈ s.waitList, s.inSomeLane w.slot = false)
        ∧ s.waitList = [⟨0, .gate, 5⟩, ⟨1, .serviceExit, 6⟩] ∧ (s.placement 0).isSome = true)
      ∧ ∃ s : State, (s.waitList.map WaitEntry.slot).Nodup ∧ (∀ w ∈ s.waitList, s.inSomeLane w.slot = false)
        ∧ s.waitList = [⟨2, .gate, 5⟩, ⟨1, .serviceExit, 6⟩] ∧ s.placement 2 = none ∧ (s.placement 1).isSome = true := by
  let small := (yard.modLane 0 fun r => { r with cfg := { r.cfg with capacity := 1 } }).modLane 1 fun r => { r with cfg := { r.cfg with capacity := 0 } }
  let long := small.setVeh 2 { tag := 1002, length := .articulated, state := .inbound, location := .gate }
  refine ⟨⟨{ yard with waitList := [⟨0, .gate, 5⟩, ⟨1, .serviceExit, 6⟩] }, ?_⟩,
    { long with waitList := [⟨2, .gate, 5⟩, ⟨1, .serviceExit, 6⟩] }, ?_⟩ <;> decide +kernel

theorem witness_WindowPassTakesARow :
    (∃ s : State, s.row 0 = some (boundRow 300 0) ∧ (s.veh 0).state = .parked ∧ s.presentLane 0 = some 0 ∧ s.entryIndex 0 0 = 1)
      ∧ (∃ s : State, s.row 0 = some (boundRow 300 0) ∧ (s.veh 0).state = .out)
      ∧ (∃ s : State, s.row 0 = some (planned 300) ∧ ∀ l, s.mouthCandidate (planned 300) l = none)
      ∧ (∃ s : State, s.row 0 = some { planned 300 with state := .short }
        ∧ ∀ l, s.mouthCandidate { planned 300 with state := .short } l = none)
      ∧ ∃ s : State, s.row 0 = some (planned 300) ∧ s.mouthCandidate (planned 300) 1 = some 0
        ∧ ∀ m, m < 1 → s.mouthCandidate (planned 300) m = none := by
  let plan := fun row => { yard with ds := { yard.ds with active := [row] } }
  let parked := fun row l entries => ((plan row).modVeh 0 fun r =>
    { r with state := .parked, location := .lane l .present none }).modLane l fun r => { r with entries := entries }
  refine ⟨⟨parked (boundRow 300 0) 0 [⟨1, .expected, some 10⟩, ⟨0, .present, none⟩], ?_⟩, ⟨plan (boundRow 300 0), ?_⟩,
    ⟨plan (planned 300), ?_⟩, ⟨plan { planned 300 with state := .short }, ?_⟩, parked (planned 300) 1 [⟨0, .present, none⟩], ?_⟩ <;>
    decide +kernel

/-- Lane 0 with bus 1 at its mouth and bus 0 behind it, CALLED and BLOCKED; lane 1 is a shunt lane. -/
def blocked (front : VehicleState) (record : ShiftRecord) (shunt : Nat) : State :=
  let s := (placed .called (.lane 0 .present none) (some { calledRow with blocked := true })).modVeh 1 fun r =>
    { r with state := front, location := .lane 0 .present none }
  let s := (withList s 0 [⟨1, .present, none⟩, ⟨0, .present, none⟩]).modLane 1 fun r =>
    { r with cfg := { r.cfg with role := .shunt, capacity := shunt } }
  s.setShiftRecord 0 record

theorem witness_WindowPassTakesARow_shift :
    let step (s : State) : Prop :=
      (s.lane 0).entries = [⟨1, .present, none⟩, ⟨0, .present, none⟩] ∧ s.blockedRowOf 1 = none ∧ s.blockedRowsIn 0 = [0]
    (∃ s : State, step s ∧ s.shiftRecord 0 = .shifting 1 ∧ s.presentIn 0 1 = true)
      ∧ (∃ s : State, (s.lane 0).entries = [] ∧ s.shiftRecord 0 = .shifting 1 ∧ s.presentIn 0 1 = false ∧ s.blockedRowsIn 0 = [])
      ∧ (∃ s : State, step s ∧ s.shiftRecord 0 = .idle ∧ (s.veh 1).state = .called)
      ∧ (∃ s : State, step s ∧ s.shiftRecord 0 = .idle ∧ (s.veh 1).state = .parked ∧ (s.shuntPlacement 1 0).map Choice.lane = some 1
        ∧ s.entry 1 1 = none)
      ∧ (∃ s : State, step s ∧ s.shiftRecord 0 = .noRoom 1 ∧ (s.veh 1).state = .parked ∧ s.shuntPlacement 1 0 = none)
      ∧ (∃ s : State, step s ∧ s.shiftRecord 0 = .idle ∧ (s.veh 1).state = .parked ∧ s.shuntPlacement 1 0 = none)
      ∧ ∃ s : State, (s.lane 0).entries = [⟨0, .present, none⟩] ∧ s.blockedRowOf 0 = some 0
        ∧ s.row 0 = some { calledRow with blocked := true } ∧ (s.lane 0).cfg.mouth = some 12 ∧ s.blc.originFifo.length < 16 := by
  intro step
  let mouth := (withList (blocked .out .idle 0) 0 [⟨0, .present, none⟩]).modLane 0 fun r => { r with cfg := { r.cfg with mouth := some 12 } }
  refine ⟨⟨blocked .toBerth (.shifting 1) 4, ?_⟩, ⟨yard.setShiftRecord 0 (.shifting 1), ?_⟩, ⟨blocked .called .idle 4, ?_⟩,
    ⟨blocked .parked .idle 4, ?_⟩, ⟨blocked .parked (.noRoom 1) 0, ?_⟩, ⟨blocked .parked .idle 0, ?_⟩, mouth, ?_⟩ <;>
    decide +kernel

end Sys2Proof.Tests
end

section
/-! The state after reset, record by record, and the laws it meets. -/

namespace Sys2Proof.Machine

/-! ### The records of the state after reset -/

@[simp] theorem State.reset_veh (v : Slot) : State.reset.veh v = {} := by
  simp [State.reset, State.veh, Vector.get_eq_getElem]

@[simp] theorem State.reset_lane (l : LaneNo) : State.reset.lane l = {} := by
  simp [State.reset, State.lane, Vector.get_eq_getElem]

@[simp] theorem State.reset_bay (b : BayNo) : State.reset.bay b = {} := by
  simp [State.reset, State.bay, Vector.get_eq_getElem]

@[simp] theorem State.reset_charger (c : ChargerNo) : State.reset.charger c = {} := by
  simp [State.reset, State.charger, Vector.get_eq_getElem]

@[simp] theorem State.reset_feeder (f : FeederNo) : State.reset.feeder f = {} := by
  simp [State.reset, State.feeder, Vector.get_eq_getElem]

@[simp] theorem State.reset_station (a : Addr) : State.reset.station a = {} := by
  simp [State.reset, State.station, Vector.get_eq_getElem]

@[simp] theorem State.reset_shiftRecord (l : LaneNo) : State.reset.shiftRecord l = .idle := by
  simp [State.reset, State.shiftRecord, Vector.get_eq_getElem]

@[simp] theorem State.reset_queue (k : QueueKind) : State.reset.queue k = [] := by cases k <;> rfl

@[simp] theorem State.reset_waitList : State.reset.waitList = [] := rfl

@[simp] theorem State.reset_active : State.reset.ds.active = [] := rfl

@[simp] theorem State.reset_standby : State.reset.ds.standby = [] := rfl

@[simp] theorem State.reset_swap : State.reset.ds.swap = .none := rfl

@[simp] theorem State.reset_blc : State.reset.blc = {} := rfl

@[simp] theorem State.reset_row (i : Nat) : State.reset.row i = none := rfl

/-- Right after reset no vehicle stands anywhere. -/
@[simp] theorem State.reset_placesOf (v : Slot) : State.reset.placesOf v = {} := by
  simp [State.placesOf, State.bayHolds]

@[simp] theorem State.reset_inSomeLane (v : Slot) : State.reset.inSomeLane v = false := by
  simp [State.inSomeLane, State.entry]

/-! ### The laws at reset -/

theorem Configuration.default_inRange : Configuration.InRange {} := by
  refine ⟨fun a => ?_, fun l => ?_, fun c => ?_, fun f => ?_, rfl⟩
  · simp [Vector.get_eq_getElem, StationCfg.indexInRange]
  all_goals simp [Vector.get_eq_getElem]

/-- The factory configuration is the working one right after reset (R184). -/
theorem State.reset_configuration : State.reset.configuration = {} := by
  simp [State.reset, State.configuration]

theorem State.reset_rangeLaw : State.reset.RangeLaw :=
  ⟨State.reset_configuration ▸ Configuration.default_inRange, fun _ h => by simp [State.reset] at h⟩

theorem State.reset_grantLaw : State.reset.GrantLaw := by
  simp [State.GrantLaw, State.grantSum]

theorem State.reset_fleetLaw : State.reset.FleetLaw := by
  simp [State.FleetLaw]

theorem State.reset_placeLaw : State.reset.PlaceLaw := fun v => by
  simp [placesNamed]

theorem State.reset_laneLaw : State.reset.LaneLaw := fun l => by
  simp [State.unitsIn]

theorem State.reset_ticketLaw : State.reset.TicketLaw := by
  simp [State.TicketLaw, State.liveTickets]

theorem State.reset_bindingLaw : State.reset.BindingLaw := by
  simp [State.BindingLaw, State.boundPlan]

theorem State.reset_stationLaw : State.reset.StationLaw := by
  simp [State.StationLaw]

end Sys2Proof.Machine

namespace Sys2Proof.Proofs
open Sys2Proof.Machine

/-- Settles O3: law by law, every record of the reset state being its default. -/
theorem resetMeetsEveryLaw : Obligations.ResetMeetsEveryLaw := by
  unfold Obligations.ResetMeetsEveryLaw
  refine ⟨⟨?buffers, ?supervision, State.reset_stationLaw, ?settings, State.reset_grantLaw, ?bays, ?plan, ?rest⟩,
    State.reset_rangeLaw, State.reset_fleetLaw, State.reset_placeLaw, State.reset_laneLaw, ?shifts,
    State.reset_ticketLaw, State.reset_bindingLaw, ?feeders, ?connections⟩
  case buffers => simp [State.BuffersBounded, State.reset]
  case supervision => simp [State.SupervisionLaw, State.reset]
  case settings => simp [State.SettingsLaw, State.reset]
  case bays => simp [State.BayLaw]
  case plan => simp [State.PlanLaw, State.reset]
  case rest => simp [State.AtRest, State.reset]
  case shifts => simp [State.ShiftLaw]
  case feeders => simp [State.FeederLaw]
  case connections => simp [State.ConnectionLaw]

end Sys2Proof.Proofs
end

section
/-! A request at the front of the buffer: what taking it comes to (R163, R164), and the checks that every order and every PUT
goes through before its owner decides (R169, R174, R175). -/

namespace Sys2Proof.Machine

variable {s : State} {r : Request} {rest : List Request}

/-! ### Taking a request (R163) -/

theorem State.Takes.nextRequest (h : s.Takes r rest) : s.nextRequest = some (r, rest) := by
  obtain ⟨hanswer, hrequests, hreset⟩ := h
  simp [State.nextRequest, hanswer, hrequests, hreset]

/-- A request that is the command asked for is handled in the state without it, and answered. -/
theorem State.Takes.takeAndAnswer (h : s.Takes r rest) {asked : Asked} (ha : s.asked r = asked)
    (handle : Request → State → Reply × State) :
    s.takeAndAnswer asked handle
      = (handle r (s.takeRequest rest)).2.placeAnswer (s.answerTo r (handle r (s.takeRequest rest)).1) := by
  simp [State.takeAndAnswer, h.nextRequest, ha]

@[simp] theorem State.requesterClass_takeRequest (a : Addr) : (s.takeRequest rest).requesterClass a = s.requesterClass a := rfl

@[simp] theorem State.inFlight_takeRequest (k : OrderKind) : (s.takeRequest rest).inFlight k = s.inFlight k := by
  cases k <;> rfl

/-! ### Orders (R174, R175) -/

/-- Check 2: an order of a class that its requester does not have. -/
theorem State.answerOrder_class {k : OrderKind} {owner : Outcome × State} (hc : orderClass k < s.requesterClass r.src) :
    s.answerOrder r k owner = (reply .class, s) := if_pos hc

/-- Check 3: an operation of its kind is in flight. -/
theorem State.answerOrder_pending {k : OrderKind} {owner : Outcome × State} (hc : s.requesterClass r.src ≤ orderClass k)
    (hp : s.inFlight k = true) : s.answerOrder r k owner = (reply .pending, s) := by
  rw [State.answerOrder, if_neg (by omega), if_pos hp]

/-- An order that both checks let through is decided by its owner. -/
theorem State.answerOrder_owner {k : OrderKind} {owner : Outcome × State} (hc : s.requesterClass r.src ≤ orderClass k)
    (hp : s.inFlight k = false) : s.answerOrder r k owner = (reply owner.1, owner.2) := by
  rw [State.answerOrder, if_neg (by omega), if_neg (by simp [hp])]

/-- The command of an order kind takes the order with some owner. -/
theorem exec_orderCommand (k : OrderKind) :
    ∃ owner : Request → State → Outcome × State, ∀ s, exec (orderCommand k) s = .next (s.takeOrder k owner) := by
  cases k <;> exact ⟨_, fun _ => rfl⟩

theorem State.Takes.takeOrder_class (h : s.Takes r rest) {k : OrderKind} (ha : s.asked r = .order k)
    (hc : orderClass k < s.requesterClass r.src) (owner : Request → State → Outcome × State) :
    s.takeOrder k owner = s.answered r rest .class [] := by
  rw [State.takeOrder, h.takeAndAnswer ha, State.answerOrder_class (by simpa using hc)]
  rfl

theorem State.Takes.takeOrder_pending (h : s.Takes r rest) {k : OrderKind} (ha : s.asked r = .order k)
    (hc : s.requesterClass r.src ≤ orderClass k) (hp : s.inFlight k = true) (owner : Request → State → Outcome × State) :
    s.takeOrder k owner = s.answered r rest .pending [] := by
  rw [State.takeOrder, h.takeAndAnswer ha, State.answerOrder_pending (by simpa using hc) (by simpa using hp)]
  rfl

/-- Which operation in flight holds an order back (R175). -/
theorem State.inFlight_iff (k : OrderKind) : s.inFlight k = true ↔
    k = .store ∧ s.ss.storing = true ∨ k = .load ∧ s.ss.loading = true
      ∨ (k = .swapNow ∨ k = .swapAtRollover) ∧ s.ds.swap ≠ .none := by
  cases k <;> simp [State.inFlight]

/-! ### PUT (R169) -/

section Put
variable {t : Table} {row : Nat}

/-- A PUT of a length that its table takes reaches the rule of the table. -/
theorem State.TakesPut.asked (h : s.TakesPut r rest t row) (hl : r.payload.length ∈ putLengths t)
    (hp : putClass t = some 0) : s.asked r = .put t := by
  obtain ⟨-, hkind, hclass, rfl, rfl, hrow⟩ := h
  have hm : s.meetsPut r.src s.tau.table = true := by simp [State.meetsPut, hp, hclass]
  simp [State.asked, State.askedPut, hkind, kindSelect, kindPut, hl, hm, hrow]

/-- Taking a request changes no row of a table that a PUT writes. -/
theorem State.readRow_takeRequest (hp : putClass t = some 0) (i : Nat) :
    (s.takeRequest rest).readRow t i = s.readRow t i := by
  cases t <;> simp [putClass] at hp <;> rfl

theorem State.TakesPut.pointerRow_takeRequest (h : s.TakesPut r rest t row) (hp : putClass t = some 0) :
    (s.takeRequest rest).pointerRow = s.pointerRow := by
  obtain ⟨-, -, -, rfl, -, -⟩ := h
  exact congrArg (taggedRow s.tau.table s.tau.row) (State.readRow_takeRequest hp s.tau.row)

/-- A PUT that its table's rule refuses. -/
theorem State.TakesPut.refused (h : s.TakesPut r rest t row) (hl : r.payload.length ∈ putLengths t)
    (hp : putClass t = some 0) (rule : State → List Byte → Outcome × State) {o : Outcome}
    (ho : rule (s.takeRequest rest) r.payload = (o, s.takeRequest rest)) (hr : o.carriedOut = false) :
    s.takeAndAnswer (.put t) (fun r u => u.answerPut (rule u r.payload)) = s.putRefused r rest o := by
  rw [h.1.takeAndAnswer (h.asked hl hp), ho, State.answerPut, if_neg (by simp [hr]), h.pointerRow_takeRequest hp]
  rfl

/-- A PUT that its table's rule carries out. -/
theorem State.TakesPut.carriedOut (h : s.TakesPut r rest t row) (hl : r.payload.length ∈ putLengths t)
    (hp : putClass t = some 0) (rule : State → List Byte → Outcome × State) {o : Outcome} {u : State}
    (ho : rule (s.takeRequest rest) r.payload = (o, u)) (hr : o.carriedOut = true) :
    s.takeAndAnswer (.put t) (fun r u => u.answerPut (rule u r.payload))
      = u.advancePointer.placeAnswer (s.answerTo r ⟨o, s.pointerRow⟩) := by
  rw [h.1.takeAndAnswer (h.asked hl hp), ho, State.answerPut, if_pos hr, h.pointerRow_takeRequest hp]

end Put

end Sys2Proof.Machine

namespace Sys2Proof.Proofs
open Sys2Proof.Machine

/-- Settles O36: every order passes the same two checks, whatever its owner. -/
theorem ordersRefusedByClassOrPending : Obligations.OrdersRefusedByClassOrPending := by
  unfold Obligations.OrdersRefusedByClassOrPending
  refine ⟨fun s a => ?_, fun s r rest k htakes hasked => ?_, fun s r rest htakes hasked hclass => ?_⟩
  · cases hk : (s.station a).cfg.kind <;> simp [State.requesterClass, hk, berthKind]
  · obtain ⟨owner, howner⟩ := exec_orderCommand k
    rw [howner]
    exact ⟨fun hc => congrArg _ (htakes.takeOrder_class hasked hc owner),
      fun hc hp => congrArg _ (htakes.takeOrder_pending hasked hc (s.inFlight_iff k |>.mpr hp) owner)⟩
  · change Host.Outcome.next (s.takeAndAnswer _ _) = _
    rw [htakes.takeAndAnswer hasked, State.answerOrder_class (by simpa [orderClass] using hclass)]
    rfl

end Sys2Proof.Proofs
end

section
/-! PUT to a FLEET row (R3): what the payload decodes to, when the rule refuses it, and the record it leaves. -/

namespace Sys2Proof.Machine

/-! ### The payload (R190, R192) -/

/-- A field of one byte is that byte. -/
theorem field_one (payload : List Byte) (n : Nat) (h : n < payload.length) : field payload n 1 = byteOf payload n := by
  rw [field, List.drop_eq_getElem_cons h, List.take_succ_cons, List.take_zero]
  simp [byteOf, ofBytes, h]

theorem propulsions_codeIn (p : Propulsion) : propulsions[codeIn propulsions p]? = some p := by cases p <;> decide

theorem lengthClasses_codeIn (c : LengthClass) : lengthClasses[codeIn lengthClasses c]? = some c := by cases c <;> decide

theorem codeIn_propulsions_lt (p : Propulsion) : codeIn propulsions p < 256 ^ 1 := by cases p <;> decide

theorem codeIn_lengthClasses_lt (c : LengthClass) : codeIn lengthClasses c < 256 ^ 1 := by cases c <;> decide

/-- The writable part of a FLEET row as it is sent, with what may stand behind it (R192). -/
def fleetPayload (tag : Nat) (propulsion : Propulsion) (length : LengthClass) (battery standby programme counter : Nat)
    (tail : List Byte) : List Byte :=
  toBytes 3 tag ++ codeByte propulsions propulsion ++ codeByte lengthClasses length ++ toBytes 2 battery
    ++ toBytes 2 standby ++ toBytes 1 programme ++ toBytes 1 counter ++ tail

section Payload
variable {tag battery standby programme counter : Nat} {propulsion : Propulsion} {length : LengthClass} {tail : List Byte}

/-- Each number of a FLEET payload is read back from its place (R190, R192). -/
theorem fleetPayload_fields (ht : tag < 2 ^ 24) (hb : battery < 2 ^ 16) (hs : standby < 2 ^ 16) (hp : programme < 2 ^ 8)
    (hc : counter < 2 ^ 8) {p : List Byte} (h : p = fleetPayload tag propulsion length battery standby programme counter tail) :
    field p 0 3 = tag ∧ field p 3 1 = codeIn propulsions propulsion ∧ field p 4 1 = codeIn lengthClasses length
      ∧ field p 5 2 = battery ∧ field p 7 2 = standby ∧ field p 9 1 = programme ∧ field p 10 1 = counter := by
  have head {width n : Nat} (rest : List Byte) (h : n < 256 ^ width) : field (toBytes width n ++ rest) 0 width = n :=
    field_of_pieces [] rest width n 0 rfl h
  have hpr := codeIn_propulsions_lt propulsion
  have hln := codeIn_lengthClasses_lt length
  norm_num at ht hb hs hp hc hpr hln
  subst h
  simp [fleetPayload, codeByte, field_append_right, *]

/-- The static fields that a FLEET payload spells, clamped (R2, R3). -/
def fleetFields (tag : Nat) (propulsion : Propulsion) (length : LengthClass) (battery standby programme counter : Nat) :
    Vehicle :=
  { tag := tag, propulsion := propulsion, length := length
    battery := if propulsion = .electric then some (min 9999 battery) else none
    standby := if propulsion = .electric then some (min (min 9999 battery) standby) else none
    washProgramme := min 7 programme, washCounter := min 7 counter }

theorem decodeFleet_fleetPayload (ht : tag < 2 ^ 24) (hb : battery < 2 ^ 16) (hs : standby < 2 ^ 16) (hp : programme < 2 ^ 8)
    (hc : counter < 2 ^ 8) :
    decodeFleet (fleetPayload tag propulsion length battery standby programme counter tail)
      = some (fleetFields tag propulsion length battery standby programme counter) := by
  obtain ⟨f0, f3, f4, f5, f7, f9, f10⟩ := fleetPayload_fields (length := length) (tail := tail)
    (propulsion := propulsion) ht hb hs hp hc rfl
  have hmin : min (min 9999 battery) (min 9999 standby) = min (min 9999 battery) standby := by omega
  simp [decodeFleet, f0, f3, f4, f5, f7, f9, f10, propulsions_codeIn, lengthClasses_codeIn, fleetFields, hmin]

/-- When a FLEET PUT clamps a number (R3, R169). -/
theorem fleetClamped_fleetPayload (ht : tag < 2 ^ 24) (hb : battery < 2 ^ 16) (hs : standby < 2 ^ 16)
    (hp : programme < 2 ^ 8) (hc : counter < 2 ^ 8) :
    fleetClamped (fleetFields tag propulsion length battery standby programme counter)
        (fleetPayload tag propulsion length battery standby programme counter tail) = true
      ↔ propulsion = .electric ∧ (9999 < battery ∨ min 9999 battery < standby) ∨ 7 < programme ∨ 7 < counter := by
  obtain ⟨-, -, -, f5, f7, f9, f10⟩ := fleetPayload_fields (length := length) (tail := tail)
    (propulsion := propulsion) ht hb hs hp hc rfl
  have h1 : min 9999 battery ≠ battery ↔ 9999 < battery := by omega
  have h2 : min (min 9999 battery) standby ≠ standby ↔ min 9999 battery < standby := by omega
  have h3 : min 7 programme ≠ programme ↔ 7 < programme := by omega
  have h4 : min 7 counter ≠ counter ↔ 7 < counter := by omega
  rw [← h1, ← h2, ← h3, ← h4]
  cases propulsion <;> simp only [fleetClamped, fleetFields, f5, f7, f9, f10] <;> simp [or_assoc]

end Payload

/-! ### The checks (R3) -/

variable {s : State}

theorem State.tagTaken_iff (v : Slot) (tag : Nat) :
    s.tagTaken v tag = true ↔ tag ≠ 0 ∧ ∃ w, w ≠ v ∧ (s.veh w).tag = tag := by
  simp [State.tagTaken, mem_upTo]

theorem State.planned_iff (v : Slot) : s.planned v = true ↔
    ∃ x ∈ s.ds.active ++ s.ds.standby, (x.state = .bound ∨ x.state = .called) ∧ x.bound = some v := by
  simp [State.planned, PlanRow.binds, or_and_right, exists_or]

theorem identityChanged_iff (old new : Vehicle) : identityChanged old new = true ↔
    old.tag ≠ new.tag ∨ old.propulsion ≠ new.propulsion ∨ old.length ≠ new.length := by
  simp [identityChanged, or_assoc]

/-- A payload that does not decode is refused with FORMAT. -/
theorem State.putFleetRow_format {v : Slot} {p : List Byte} (h : decodeFleet p = none) : s.putFleetRow v p = (.format, s) := by
  simp [State.putFleetRow, h]

/-- The three checks of R3 that refuse a decoded FLEET PUT with CONFLICT. -/
def State.fleetConflict (s : State) (v : Slot) (new : Vehicle) : Prop :=
  s.tagTaken v new.tag = true
    ∨ ((s.veh v).tag ≠ 0 ∧ identityChanged (s.veh v) new = true ∧ (s.veh v).state ≠ .out)
    ∨ ((s.veh v).tag ≠ 0 ∧ (s.veh v).tag ≠ new.tag ∧ s.planned v = true)

theorem State.putFleetRow_conflict {v : Slot} {p : List Byte} {new : Vehicle} (h : decodeFleet p = some new)
    (hc : s.fleetConflict v new) : s.putFleetRow v p = (.conflict, s) := by
  unfold State.putFleetRow
  simp only [h]
  rcases hc with hc | hc | hc
  · rw [if_pos hc]
  · by_cases h1 : s.tagTaken v new.tag = true
    · rw [if_pos h1]
    · rw [if_neg h1, if_pos hc]
  · by_cases h1 : s.tagTaken v new.tag = true
    · rw [if_pos h1]
    · rw [if_neg h1, if_pos hc]
      split <;> rfl

theorem State.putFleetRow_stored {v : Slot} {p : List Byte} {new : Vehicle} (h : decodeFleet p = some new)
    (hc : ¬ s.fleetConflict v new) : s.putFleetRow v p =
      (clampedIf (new.tag ≠ 0 && fleetClamped new p), s.setVeh v (fleetAfter (s.veh v) new)) := by
  simp only [State.fleetConflict, not_or] at hc
  obtain ⟨h1, h2, h3⟩ := hc
  unfold State.putFleetRow
  simp only [h]
  rw [if_neg h1, if_neg h2, if_neg h3]

/-- The checks of R3 in the fields of a payload. -/
theorem State.fleetConflict_iff (s : State) (v : Slot) (tag : Nat) (propulsion : Propulsion) (length : LengthClass)
    (battery standby programme counter : Nat) :
    s.fleetConflict v (fleetFields tag propulsion length battery standby programme counter) ↔
      (tag ≠ 0 ∧ ∃ w, w ≠ v ∧ (s.veh w).tag = tag)
      ∨ ((s.veh v).tag ≠ 0 ∧ (s.veh v).state ≠ .out
        ∧ ((s.veh v).tag ≠ tag ∨ (s.veh v).propulsion ≠ propulsion ∨ (s.veh v).length ≠ length))
      ∨ (s.veh v).tag ≠ 0 ∧ (s.veh v).tag ≠ tag
        ∧ ∃ x ∈ s.ds.active ++ s.ds.standby, (x.state = .bound ∨ x.state = .called) ∧ x.bound = some v := by
  rw [State.fleetConflict, State.tagTaken_iff, State.planned_iff, identityChanged_iff, and_comm (b := _ ≠ VehicleState.out)]
  rfl

/-- A FLEET code out of its set does not decode (R190). -/
theorem decodeFleet_none {p : List Byte} (hl : 5 ≤ p.length) (h : 1 < byteOf p 3 ∨ 1 < byteOf p 4) : decodeFleet p = none := by
  have f3 := field_one p 3 (by omega)
  have f4 := field_one p 4 (by omega)
  rcases h with h | h
  · have : propulsions[field p 3 1]? = none := by rw [f3]; exact List.getElem?_eq_none h
    simp [decodeFleet, this]
  · have : lengthClasses[field p 4 1]? = none := by rw [f4]; exact List.getElem?_eq_none h
    simp [decodeFleet, this]

@[simp] theorem clampedIf_carriedOut (changed : Bool) : (clampedIf changed).carriedOut = true := by cases changed <;> rfl

section Put
variable {r : Request} {rest : List Request} {v : Slot} {o : Outcome} {u : State}

/-- The slot that a FLEET PUT writes is the pointer's row. -/
theorem State.TakesPut.takeFleet (h : s.TakesPut r rest .fleet v.val) :
    s.takeAndAnswer (.put .fleet) (fun r u => u.answerPut (u.putFleetRow (Fin.ofNat 256 u.tau.row) r.payload))
      = s.takeAndAnswer (.put .fleet) fun r u => u.answerPut (u.putFleetRow v r.payload) := by
  obtain ⟨htakes, -, -, -, hrow, -⟩ := h
  have hv : Fin.ofNat 256 (s.takeRequest rest).tau.row = v := by
    rw [show (s.takeRequest rest).tau.row = v.val from hrow, Fin.ofNat_val_eq_self]
  simp only [State.takeAndAnswer, htakes.nextRequest, hv]

theorem State.TakesPut.putFleet_refused (h : s.TakesPut r rest .fleet v.val) (hl : r.payload.length = 11 ∨ r.payload.length = 22)
    (ho : (s.takeRequest rest).putFleetRow v r.payload = (o, s.takeRequest rest)) (hr : o.carriedOut = false) :
    s.takeAndAnswer (.put .fleet) (fun r u => u.answerPut (u.putFleetRow (Fin.ofNat 256 u.tau.row) r.payload))
      = s.putRefused r rest o := by
  rw [h.takeFleet]
  exact h.refused (by simpa [putLengths] using hl) rfl (fun u p => u.putFleetRow v p) ho hr

theorem State.TakesPut.putFleet_carriedOut (h : s.TakesPut r rest .fleet v.val)
    (hl : r.payload.length = 11 ∨ r.payload.length = 22)
    (ho : (s.takeRequest rest).putFleetRow v r.payload = (o, u)) (hr : o.carriedOut = true) :
    s.takeAndAnswer (.put .fleet) (fun r u => u.answerPut (u.putFleetRow (Fin.ofNat 256 u.tau.row) r.payload))
      = u.advancePointer.placeAnswer (s.answerTo r ⟨o, s.pointerRow⟩) := by
  rw [h.takeFleet]
  exact h.carriedOut (by simpa [putLengths] using hl) rfl (fun u p => u.putFleetRow v p) ho hr

end Put

/-- The record that an accepted FLEET PUT leaves (R3). -/
theorem fleetAfter_fleetFields (old : Vehicle) (tag : Nat) (propulsion : Propulsion) (length : LengthClass)
    (battery standby programme counter : Nat) :
    fleetAfter old (fleetFields tag propulsion length battery standby programme counter)
      = if tag = 0 then ({} : Vehicle) else
        { (if old.tag = 0 then ({} : Vehicle) else old) with
          tag := tag, propulsion := propulsion, length := length
          battery := if propulsion = .electric then some (min 9999 battery) else none
          standby := if propulsion = .electric then some (min (min 9999 battery) standby) else none
          washProgramme := min 7 programme, washCounter := min 7 counter } := by
  by_cases ht : tag = 0
  · simp [fleetAfter, fleetFields, ht]
  · by_cases ho : old.tag = 0 <;> simp [fleetAfter, fleetFields, withStatic, ht, ho]

end Sys2Proof.Machine

namespace Sys2Proof.Proofs
open Sys2Proof.Machine

/-- Settles O43: the payload decodes to its clamped fields, and the checks of R3 decide between CONFLICT and the new record. -/
theorem putFleetStoresTheRow : Obligations.PutFleetStoresTheRow := by
  unfold Obligations.PutFleetStoresTheRow
  refine ⟨?_, fun s r rest v hput hlen hcode => ?_⟩
  · rintro s r rest v tag propulsion length battery standby programme counter tail taken moved planned new hput ht hb hs hp hc
      htail hpay rfl rfl rfl rfl
    have hlen : r.payload.length = 11 ∨ r.payload.length = 22 := by rw [hpay]; simp; omega
    have hpay : r.payload = fleetPayload tag propulsion length battery standby programme counter tail := hpay
    have hdecode := decodeFleet_fleetPayload (propulsion := propulsion) (length := length) (tail := tail) ht hb hs hp hc
    rw [← hpay] at hdecode
    have hconflict := s.fleetConflict_iff v tag propulsion length battery standby programme counter
    refine ⟨fun h => ?_, fun h1 h2 h3 => ?_⟩
    · exact congrArg _ (hput.putFleet_refused hlen (State.putFleetRow_conflict hdecode (hconflict.mpr h)) rfl)
    · have hno : ¬ s.fleetConflict v _ := fun h => (hconflict.mp h).elim h1 fun h => h.elim h2 h3
      rw [← fleetAfter_fleetFields]
      refine congrArg _ ((hput.putFleet_carriedOut hlen (State.putFleetRow_stored hdecode hno) (clampedIf_carriedOut _)).trans ?_)
      have houtcome : clampedIf (decide (tag ≠ 0) && fleetClamped (fleetFields tag propulsion length battery standby programme counter) r.payload) = if tag ≠ 0 ∧
          (propulsion = .electric ∧ (9999 < battery ∨ min 9999 battery < standby) ∨ 7 < programme ∨ 7 < counter)
          then .clamped else .ok := by
        rw [hpay, clampedIf]
        exact if_congr (by rw [Bool.and_eq_true, decide_eq_true_eq, fleetClamped_fleetPayload ht hb hs hp hc]) rfl rfl
      rw [← houtcome]
      rfl
  · exact congrArg _ (hput.putFleet_refused hlen (State.putFleetRow_format (decodeFleet_none (by omega) hcode)) rfl)

end Sys2Proof.Proofs
end

section
/-! An accepted reply to a poll (R150, R153, R156): what its command comes to before its owner acts, and how its report is
routed (R157). -/

namespace Sys2Proof.Machine

variable {s : State} {src : Addr} {kind : Byte} {payload : List Byte}

/-! ### A state at rest -/

/-- A state at rest owes no shift step and no exchange, so nothing follows its event (R140, R119). -/
theorem State.AtRest.settle (h : s.AtRest) : s.settle = s := by
  obtain ⟨hdue, hswap⟩ := h
  have hnext : s.nextStep = none := by simp [State.nextStep, hdue]
  have hsteps : s.shiftSteps stepFuel = s := by simp [stepFuel, State.shiftSteps, hnext]
  rw [State.settle, hsteps, State.exchangeIfDue, if_neg]
  simpa using hswap

/-- Being at rest is a matter of the departures alone. -/
theorem State.AtRest.of_ds {t : State} (h : s.AtRest) (hd : t.ds = s.ds) : t.AtRest := by
  unfold State.AtRest State.anyCalled
  rw [hd]
  exact h

/-! ### The state in which the reply has ended its transaction -/

@[simp] theorem State.replied_fleet : (s.replied src).fleet = s.fleet := rfl
@[simp] theorem State.replied_lanes : (s.replied src).lanes = s.lanes := rfl
@[simp] theorem State.replied_waitList : (s.replied src).waitList = s.waitList := rfl
@[simp] theorem State.replied_stc : (s.replied src).stc = s.stc := rfl
@[simp] theorem State.replied_ca : (s.replied src).ca = s.ca := rfl
@[simp] theorem State.replied_ds : (s.replied src).ds = s.ds := rfl
@[simp] theorem State.replied_dlp : (s.replied src).dlp = s.dlp := rfl
@[simp] theorem State.replied_tau : (s.replied src).tau = s.tau := rfl
@[simp] theorem State.replied_er : (s.replied src).er = s.er := rfl
@[simp] theorem State.replied_ycs : (s.replied src).ycs = s.ycs := rfl
@[simp] theorem State.replied_ss : (s.replied src).ss = s.ss := rfl
@[simp] theorem State.replied_ownAddr : (s.replied src).ownAddr = s.ownAddr := rfl
@[simp] theorem State.replied_veh (v : Slot) : (s.replied src).veh v = s.veh v := rfl
@[simp] theorem State.replied_lane (l : LaneNo) : (s.replied src).lane l = s.lane l := rfl
@[simp] theorem State.replied_bay (b : BayNo) : (s.replied src).bay b = s.bay b := rfl
@[simp] theorem State.replied_charger (c : ChargerNo) : (s.replied src).charger c = s.charger c := rfl
@[simp] theorem State.replied_feeder (f : FeederNo) : (s.replied src).feeder f = s.feeder f := rfl
@[simp] theorem State.replied_row (i : Nat) : (s.replied src).row i = s.row i := rfl
@[simp] theorem State.replied_queue (k : QueueKind) : (s.replied src).queue k = s.queue k := by cases k <;> rfl
@[simp] theorem State.replied_slotOf (tag : Nat) : (s.replied src).slotOf tag = s.slotOf tag := rfl
@[simp] theorem State.replied_flag (f : EventFlag) : (s.replied src).flag f = s.flag f := rfl

theorem State.replied_station (a : Addr) :
    (s.replied src).station a = if src = a then { s.station src with misses := 0 } else s.station a :=
  State.setStation_station s src a _

@[simp] theorem State.replied_station_cfg (a : Addr) : ((s.replied src).station a).cfg = (s.station a).cfg := by
  rw [State.replied_station]
  split
  · next h => rw [h]
  · rfl

@[simp] theorem State.replied_silent (a : Addr) : (s.replied src).silent a = s.silent a := by
  rw [State.silent, State.replied_station]
  split
  · next h => rw [h]; rfl
  · rfl

@[simp] theorem State.replied_laneOf (a : Addr) : (s.replied src).laneOf a = s.laneOf a := by simp [State.laneOf]

/-! ### The frame of a report -/

/-- The payload of a report has the length of its kind (R189). -/
theorem reportLength_of_reportOf {c : Instr} (h : reportOf c = some (src, kind, payload)) :
    reportLength kind = some payload.length := by
  cases c
  case nothing a => exact Laws.ReportSized.nothing a _ _ _ h
  case gateIn a tag => exact Laws.ReportSized.gateIn a tag _ _ _ h
  case gateOut a tag => exact Laws.ReportSized.gateOut a tag _ _ _ h
  case laneEntry a tag => exact Laws.ReportSized.laneEntry a tag _ _ _ h
  case laneExit a tag => exact Laws.ReportSized.laneExit a tag _ _ _ h
  case bayArrive a tag => exact Laws.ReportSized.bayArrive a tag _ _ _ h
  case bayDone a => exact Laws.ReportSized.bayDone a _ _ _ h
  case bayFault a => exact Laws.ReportSized.bayFault a _ _ _ h
  case chargerReport a tag soc power marks => exact Laws.ReportSized.chargerReport a tag soc power marks _ _ _ h
  case meterReport a draw => exact Laws.ReportSized.meterReport a draw _ _ _ h
  all_goals cases h

/-- The command of a report is the frame of its station (R189). -/
theorem exec_reportOf {c : Instr} (h : reportOf c = some (src, kind, payload)) (s : State) :
    exec c s = .next (s.receiveFrame (some (s.reportFrame src kind payload))) := by
  cases c
  case nothing | gateIn | gateOut | laneEntry | laneExit | bayArrive | bayDone | bayFault | chargerReport | meterReport =>
    cases h
    rfl
  all_goals cases h

/-- A report that answers the poll in progress passes the checks of R156. -/
theorem State.Answers.verdict (h : s.Answers src kind) (hl : reportLength kind = some payload.length) :
    s.verdict (some (s.reportFrame src kind payload)) = .accepted := by
  obtain ⟨hturn, hknown, hsends⟩ := h
  have hfits : s.reportFits (s.reportFrame src kind payload) = true := by
    simp [State.reportFits, State.reportFrame, hsends, hl]
  have habandoned : s.forAbandoned (some (s.reportFrame src kind payload)) = false := by
    simp [State.forAbandoned, State.turnStation, hturn, State.reportFrame]
  rw [State.verdict, habandoned, if_neg (by simp)]
  simp [State.checked, hturn, hknown, hfits]
  simp [State.reportFrame]

/-- A reply from a station that is not SILENT, in a state at rest, ends its transaction and nothing more (R153). -/
theorem State.Answers.heard (h : s.Answers src kind) (hs : (s.station src).silent = false) (hr : s.AtRest) :
    s.heardInTurn.endTransaction = s.replied src := by
  obtain ⟨hturn, -, -⟩ := h
  have hquiet : (s.modStation src fun r => { r with misses := 0 }).recover src
      = s.modStation src fun r => { r with misses := 0 } := by
    rw [State.recover, if_neg]
    simp [State.silent, hs]
  have hrest : (s.modStation src fun r => { r with misses := 0 }).AtRest := hr.of_ds rfl
  have hheard : s.heardInTurn = s.modStation src fun r => { r with misses := 0 } := by
    rw [State.heardInTurn, State.turnStation, hturn]
    show ((s.modStation src fun r => { r with misses := 0 }).recover src).settle = _
    rw [hquiet, hrest.settle]
  have hturn' : s.heardInTurn.blc.turn = .polling src := by rw [hheard]; exact hturn
  rw [State.endTransaction, hturn', hheard]
  rfl

/-- The command of an accepted report routes it in the state that its reply leaves (R153, R157). -/
theorem State.Answers.exec_eq (h : s.Answers src kind) (hs : (s.station src).silent = false) (hr : s.AtRest) {c : Instr}
    (hc : reportOf c = some (src, kind, payload)) :
    exec c s = .next ((s.replied src).route (s.reportFrame src kind payload)) := by
  rw [exec_reportOf hc, ← h.heard hs hr]
  simp only [State.receiveFrame, h.verdict (reportLength_of_reportOf hc)]

/-- The command of a report that its owner alone acts on (R157). -/
theorem State.Delivers.exec_eq (h : s.Delivers src kind) {c : Instr} (hc : reportOf c = some (src, kind, payload))
    (hk : kind ≠ 10) :
    exec c s = .next (((s.replied src).lookUp (s.reportFrame src kind payload)).own
      (s.reportFrame src kind payload)).settle := by
  obtain ⟨hanswers, hsilent, haction, hrest⟩ := h
  rw [hanswers.exec_eq hsilent hrest hc, State.route, if_neg (show (s.reportFrame src kind payload).kind ≠ kindNothing from hk)]
  simp [State.reportFrame, haction, handsOn, forwards]

/-! ### Reports that name a vehicle (R7) -/

/-- The tag that a tagged report carries. -/
theorem field_tag (tag : Nat) : field (toBytes 3 tag) 0 3 = tag % 2 ^ 24 := by
  rw [field, List.drop_zero, List.take_of_length_le (by simp), ofBytes_toBytes_mod]
  rfl

/-- A report whose tag some slot holds raises nothing by being looked up (R7). -/
theorem State.lookUp_known {t : Telegram} {v : Slot} (h : s.slotOf (field t.payload 0 3) = some v) : s.lookUp t = s := by
  rw [State.lookUp, if_neg]
  simp [h]

/-- The reports of a vehicle, each with what its owner does with the vehicle (R7 to R14, R28 to R33, R70). -/
theorem State.Delivers.exec_tagged (h : s.Delivers src kind) {c : Instr} {tag : Nat} {v : Slot}
    (hc : reportOf c = some (src, kind, toBytes 3 tag)) (hk : kind ≠ 10) (ht : tag < 2 ^ 24) (hv : s.slotOf tag = some v) :
    exec c s = .next ((s.replied src).own (s.reportFrame src kind (toBytes 3 tag))).settle := by
  have hfield : field (toBytes 3 tag) 0 3 = tag := by rw [field_tag, Nat.mod_eq_of_lt ht]
  rw [h.exec_eq hc hk, State.lookUp_known (v := v)]
  rw [show (s.reportFrame src kind (toBytes 3 tag)).payload = toBytes 3 tag from rfl, hfield]
  exact hv

section Tagged
variable {tag : Nat} {v : Slot}

/-- A vehicle report reaches the act of its owner with the slot of its tag. -/
theorem State.resolved_toBytes {act : Slot → State} (ht : tag < 2 ^ 24) (hv : s.slotOf tag = some v) :
    s.resolved (field (toBytes 3 tag) 0 3) act = act v := by
  rw [State.resolved, field_tag, Nat.mod_eq_of_lt ht, hv]

theorem State.Delivers.gateIn (h : s.Delivers src 1) (ht : tag < 2 ^ 24) (hv : s.slotOf tag = some v) :
    exec (.gateIn src tag) s = .next ((s.replied src).gateIn v).settle := by
  rw [h.exec_tagged rfl (by decide) ht hv]
  exact congrArg (fun u : State => Host.Outcome.next u.settle) (State.resolved_toBytes (s := s.replied src) ht hv)

theorem State.Delivers.gateOut (h : s.Delivers src 2) (ht : tag < 2 ^ 24) (hv : s.slotOf tag = some v) :
    exec (.gateOut src tag) s = .next ((s.replied src).gateOut v).settle := by
  rw [h.exec_tagged rfl (by decide) ht hv]
  exact congrArg (fun u : State => Host.Outcome.next u.settle) (State.resolved_toBytes (s := s.replied src) ht hv)

theorem State.Delivers.laneEntry (h : s.Delivers src 3) (ht : tag < 2 ^ 24) (hv : s.slotOf tag = some v) :
    exec (.laneEntry src tag) s = .next ((s.replied src).laneEntry v (s.laneOf src)).settle := by
  rw [h.exec_tagged rfl (by decide) ht hv, ← State.replied_laneOf (src := src)]
  exact congrArg (fun u : State => Host.Outcome.next u.settle) (State.resolved_toBytes (s := s.replied src) ht hv)

theorem State.Delivers.laneExit (h : s.Delivers src 4) (ht : tag < 2 ^ 24) (hv : s.slotOf tag = some v) :
    exec (.laneExit src tag) s = .next ((s.replied src).laneExit v (s.laneOf src)).settle := by
  rw [h.exec_tagged rfl (by decide) ht hv, ← State.replied_laneOf (src := src)]
  exact congrArg (fun u : State => Host.Outcome.next u.settle) (State.resolved_toBytes (s := s.replied src) ht hv)

end Tagged

/-! ### Tags that no slot holds (R7) -/

/-- The kinds of the five vehicle reports. -/
def vehicleKinds : List Byte := [1, 2, 3, 4, 5]

/-- A vehicle report with a tag that no slot holds raises UNKNOWN_VEHICLE when it is looked up. -/
theorem State.lookUp_unknown {t : Telegram} (hk : t.kind ∈ vehicleKinds) (h : s.slotOf (field t.payload 0 3) = none) :
    s.lookUp t = s.raise .unknownVehicle := by
  have hc : carriesTag t = true := by
    simp only [vehicleKinds, List.mem_cons, List.not_mem_nil, or_false] at hk
    rcases hk with hk | hk | hk | hk | hk <;> rw [carriesTag, hk] <;> rfl
  rw [State.lookUp, if_pos ⟨hc, h⟩]

/-- No owner acts on a vehicle report with a tag that no slot holds. -/
theorem State.own_unknown {t : Telegram} (hk : t.kind ∈ vehicleKinds) (h : s.slotOf (field t.payload 0 3) = none) :
    s.own t = s := by
  simp only [vehicleKinds, List.mem_cons, List.not_mem_nil, or_false] at hk
  have hres (act : Slot → State) : s.resolved (field t.payload 0 3) act = s := by rw [State.resolved, h]
  rcases hk with hk | hk | hk | hk | hk <;> rw [State.own, hk] <;> exact hres _

theorem State.Delivers.unknown (h : s.Delivers src kind) {c : Instr} {tag : Nat}
    (hc : reportOf c = some (src, kind, toBytes 3 tag)) (hk : kind ∈ vehicleKinds) (hv : s.slotOf (tag % 2 ^ 24) = none) :
    exec c s = .next ((s.replied src).raise .unknownVehicle) := by
  have hne : kind ≠ 10 := by rintro rfl; revert hk; decide
  have hslot : (s.replied src).slotOf (field (s.reportFrame src kind (toBytes 3 tag)).payload 0 3) = none := by
    rw [show (s.reportFrame src kind (toBytes 3 tag)).payload = toBytes 3 tag from rfl, field_tag]
    exact hv
  have hslot' : ((s.replied src).raise .unknownVehicle).slotOf
      (field (s.reportFrame src kind (toBytes 3 tag)).payload 0 3) = none := hslot
  have hrest : ((s.replied src).raise .unknownVehicle).AtRest := h.2.2.2.of_ds rfl
  rw [h.exec_eq hc hne, State.lookUp_unknown hk hslot, State.own_unknown hk hslot', hrest.settle]

/-! ### Reports that are only forwarded (R157) -/

/-- Whether the tag of a report, if it carries one, is held by some slot (R7). -/
theorem carriesTag_false_iff {t : Telegram} {c : Instr} (hc : reportOf c = some (t.src, t.kind, t.payload)) (hn : t.kind ≠ 10) :
    carriesTag t = false ↔ t.kind = 6 ∨ t.kind = 7 ∨ t.kind = 9 ∨ t.kind = 8 ∧ field t.payload 0 3 = 0 := by
  obtain ⟨src, dest, kind, payload⟩ := t
  simp only at hc hn ⊢
  cases c <;> cases hc <;> simp [carriesTag, kindGateIn, kindGateOut, kindLaneEntry, kindLaneExit, kindBayArrive,
    kindChargerReport] at hn ⊢

/-- When the look-up of a report's tag raises UNKNOWN_VEHICLE (R7). -/
theorem State.looksUp_iff (s : State) {t : Telegram} {c : Instr} (hc : reportOf c = some (t.src, t.kind, t.payload))
    (hn : t.kind ≠ 10) :
    (carriesTag t ∧ s.slotOf (field t.payload 0 3) = none) ↔
      ¬ (t.kind = 6 ∨ t.kind = 7 ∨ t.kind = 9 ∨ t.kind = 8 ∧ field t.payload 0 3 = 0
        ∨ ∃ v, s.slotOf (field t.payload 0 3) = some v) := by
  have hcarries := carriesTag_false_iff hc hn
  rw [← Bool.not_eq_false, hcarries, ← Option.isSome_iff_exists, ← Option.not_isSome_iff_eq_none]
  tauto

/-- A report under action PASS is looked up and forwarded, and no more (R7, R157). -/
theorem State.route_pass {t : Telegram} (hn : t.kind ≠ 10) (ha : (s.station t.src).cfg.action = .pass) :
    s.route t = (s.lookUp t).forward ⟨t.src, t.kind, t.payload⟩ := by
  rw [State.route, if_neg (show t.kind ≠ kindNothing from hn)]
  simp [ha, handsOn, forwards]

theorem State.forward_room {r : Forwarded} (h : s.dlp.forwards.length < 32) :
    s.forward r = { s with dlp := { s.dlp with forwards := s.dlp.forwards ++ [r] } } := by
  rcases s.forward_cases r with ⟨hfull, -⟩ | ⟨-, e⟩
  · omega
  · exact e

end Sys2Proof.Machine

namespace Sys2Proof.Proofs
open Sys2Proof.Machine

/-- Settles O23: a NOTHING is not routed, a PASS report is looked up and forwarded, and no owner acts on an unknown tag. -/
theorem repliesThatDoNothingElse : Obligations.RepliesThatDoNothingElse := by
  unfold Obligations.RepliesThatDoNothingElse
  refine ⟨⟨fun s src hanswers hsilent hrest => ?_, ?_⟩, fun s src tag hslot => ⟨?_, ?_, ?_, ?_, ?_⟩⟩
  · rw [hanswers.exec_eq hsilent hrest rfl, State.route, if_pos (show (s.reportFrame src 10 []).kind = kindNothing from rfl)]
  · rintro c src kind payload s tag known passed hc hn hanswers hsilent hrest hpass hroom rfl rfl rfl
    have hraises := (s.replied src).looksUp_iff (t := s.reportFrame src kind payload) hc hn
    rw [hanswers.exec_eq hsilent hrest hc, State.route_pass hn (by simpa [State.reportFrame] using hpass)]
    refine ⟨fun hknown => ?_, fun hunknown => ?_⟩
    · rw [State.lookUp, if_neg fun h => hraises.mp h hknown]
      exact congrArg _ (State.forward_room hroom)
    · rw [State.lookUp, if_pos (hraises.mpr hunknown)]
      exact congrArg _ (State.forward_room hroom)
  all_goals exact fun h => h.unknown rfl (by decide) hslot

end Sys2Proof.Proofs
end

section
/-! What the signals of a block (flags, notices, directives) and the withdrawals of the allocator leave of the yard: its
vehicles, lanes, wait list, tickets and plan, and the clock and the parameters. -/

namespace Sys2Proof.Machine

/-- `t` has the vehicles, lanes, wait list, tickets, plan, clock and settings of `s`. -/
structure State.SameYard (s t : State) : Prop where
  fleet : t.fleet = s.fleet
  lanes : t.lanes = s.lanes
  waitList : t.waitList = s.waitList
  stc : t.stc = s.stc
  ds : t.ds = s.ds
  ycs : t.ycs = s.ycs
  ss : t.ss = s.ss

section
variable {s t u : State}

theorem State.SameYard.refl (s : State) : s.SameYard s := ⟨rfl, rfl, rfl, rfl, rfl, rfl, rfl⟩

theorem State.SameYard.trans (h : s.SameYard t) (k : t.SameYard u) : s.SameYard u :=
  ⟨k.fleet.trans h.fleet, k.lanes.trans h.lanes, k.waitList.trans h.waitList, k.stc.trans h.stc, k.ds.trans h.ds,
    k.ycs.trans h.ycs, k.ss.trans h.ss⟩

theorem State.SameYard.veh (h : s.SameYard t) (v : Slot) : t.veh v = s.veh v := by simp [State.veh, h.fleet]
theorem State.SameYard.lane (h : s.SameYard t) (l : LaneNo) : t.lane l = s.lane l := by simp [State.lane, h.lanes]
theorem State.SameYard.bay (h : s.SameYard t) (b : BayNo) : t.bay b = s.bay b := by simp [State.bay, h.stc]
theorem State.SameYard.row (h : s.SameYard t) (i : Nat) : t.row i = s.row i := by simp [State.row, h.ds]
theorem State.SameYard.queue (h : s.SameYard t) (k : QueueKind) : t.queue k = s.queue k := by
  cases k <;> simp [State.queue, h.stc]
theorem State.SameYard.shiftRecord (h : s.SameYard t) (l : LaneNo) : t.shiftRecord l = s.shiftRecord l := by
  simp [State.shiftRecord, h.ds]

end

section
variable (s : State)

/-! ### That they leave it -/

theorem State.raise_sameYard (f : EventFlag) : s.SameYard (s.raise f) := ⟨rfl, rfl, rfl, rfl, rfl, rfl, rfl⟩

theorem State.notify_sameYard (n : Notice) : s.SameYard (s.notify n) := by
  rcases s.notify_cases n with ⟨-, e⟩ | ⟨-, -, e⟩ | ⟨-, -, e⟩ <;> rw [e] <;> exact ⟨rfl, rfl, rfl, rfl, rfl, rfl, rfl⟩

theorem State.placeDirective_sameYard (d : Directive) : s.SameYard (s.placeDirective d) := by
  rcases s.placeDirective_cases d with ⟨-, e⟩ | ⟨-, e⟩ <;> rw [e] <;> exact ⟨rfl, rfl, rfl, rfl, rfl, rfl, rfl⟩

theorem State.direct_sameYard (dest : Option Addr) (k : DirectiveKind) (p : List Byte) : s.SameYard (s.direct dest k p) := by
  rcases s.direct_cases dest k p with ⟨-, e⟩ | ⟨a, -, e⟩ <;> rw [e]
  · exact .refl s
  · exact s.placeDirective_sameYard _

theorem State.yardConflict_sameYard (v : Slot) (before : VehicleState) (cause : Nat) :
    s.SameYard (s.yardConflict v before cause) := (s.raise_sameYard _).trans (State.notify_sameYard _ _)

theorem State.modCharger_sameYard (c : ChargerNo) (f : Charger → Charger) : s.SameYard (s.modCharger c f) :=
  ⟨rfl, rfl, rfl, rfl, rfl, rfl, rfl⟩

theorem State.setpoint_sameYard (c : ChargerNo) (kw : Nat) (placed : Bool) : s.SameYard (s.setpoint c kw placed) := by
  unfold State.setpoint
  split
  · split
    · exact s.modCharger_sameYard _ _
    · split
      · exact (s.raise_sameYard _).trans (State.modCharger_sameYard _ _ _)
      · exact (s.placeDirective_sameYard _).trans (State.modCharger_sameYard _ _ _)
  · exact s.modCharger_sameYard _ _

theorem State.withdrawGrant_sameYard (c : ChargerNo) : s.SameYard (s.withdrawGrant c) := by
  unfold State.withdrawGrant
  split
  · exact (s.setpoint_sameYard _ _ _).trans (State.modCharger_sameYard _ _ _)
  · exact s.modCharger_sameYard _ _

theorem State.disconnect_sameYard (c : ChargerNo) : s.SameYard (s.disconnect c) :=
  ((s.modCharger_sameYard _ _).trans (State.withdrawGrant_sameYard _ _)).trans (State.modCharger_sameYard _ _ _)

theorem State.recheckCharger_sameYard (c : ChargerNo) : s.SameYard (s.recheckCharger c) := by
  unfold State.recheckCharger
  split
  · exact .refl s
  · split
    · exact .refl s
    · exact s.disconnect_sameYard c

theorem State.recheckChargers_sameYard : s.SameYard s.recheckChargers :=
  forEach_keeps s.SameYard _ _ s (.refl s) fun c _ _ h => h.trans (State.recheckCharger_sameYard _ c)

/-! ### Field by field and record by record -/

@[simp] theorem State.notify_fleet (n : Notice) : (s.notify n).fleet = s.fleet := (s.notify_sameYard n).fleet
@[simp] theorem State.notify_lanes (n : Notice) : (s.notify n).lanes = s.lanes := (s.notify_sameYard n).lanes
@[simp] theorem State.notify_waitList (n : Notice) : (s.notify n).waitList = s.waitList := (s.notify_sameYard n).waitList
@[simp] theorem State.notify_stc (n : Notice) : (s.notify n).stc = s.stc := (s.notify_sameYard n).stc
@[simp] theorem State.notify_ds (n : Notice) : (s.notify n).ds = s.ds := (s.notify_sameYard n).ds
@[simp] theorem State.notify_ycs (n : Notice) : (s.notify n).ycs = s.ycs := (s.notify_sameYard n).ycs
@[simp] theorem State.notify_ss (n : Notice) : (s.notify n).ss = s.ss := (s.notify_sameYard n).ss
@[simp] theorem State.notify_veh (n : Notice) (x : Slot) : (s.notify n).veh x = s.veh x := (s.notify_sameYard n).veh x
@[simp] theorem State.notify_lane (n : Notice) (x : LaneNo) : (s.notify n).lane x = s.lane x := (s.notify_sameYard n).lane x
@[simp] theorem State.notify_bay (n : Notice) (x : BayNo) : (s.notify n).bay x = s.bay x := (s.notify_sameYard n).bay x
@[simp] theorem State.notify_row (n : Notice) (x : Nat) : (s.notify n).row x = s.row x := (s.notify_sameYard n).row x
@[simp] theorem State.notify_queue (n : Notice) (x : QueueKind) : (s.notify n).queue x = s.queue x := (s.notify_sameYard n).queue x
@[simp] theorem State.notify_shiftRecord (n : Notice) (x : LaneNo) : (s.notify n).shiftRecord x = s.shiftRecord x := (s.notify_sameYard n).shiftRecord x

@[simp] theorem State.placeDirective_fleet (d : Directive) : (s.placeDirective d).fleet = s.fleet := (s.placeDirective_sameYard d).fleet
@[simp] theorem State.placeDirective_lanes (d : Directive) : (s.placeDirective d).lanes = s.lanes := (s.placeDirective_sameYard d).lanes
@[simp] theorem State.placeDirective_waitList (d : Directive) : (s.placeDirective d).waitList = s.waitList := (s.placeDirective_sameYard d).waitList
@[simp] theorem State.placeDirective_stc (d : Directive) : (s.placeDirective d).stc = s.stc := (s.placeDirective_sameYard d).stc
@[simp] theorem State.placeDirective_ds (d : Directive) : (s.placeDirective d).ds = s.ds := (s.placeDirective_sameYard d).ds
@[simp] theorem State.placeDirective_ycs (d : Directive) : (s.placeDirective d).ycs = s.ycs := (s.placeDirective_sameYard d).ycs
@[simp] theorem State.placeDirective_ss (d : Directive) : (s.placeDirective d).ss = s.ss := (s.placeDirective_sameYard d).ss
@[simp] theorem State.placeDirective_veh (d : Directive) (x : Slot) : (s.placeDirective d).veh x = s.veh x := (s.placeDirective_sameYard d).veh x
@[simp] theorem State.placeDirective_lane (d : Directive) (x : LaneNo) : (s.placeDirective d).lane x = s.lane x := (s.placeDirective_sameYard d).lane x
@[simp] theorem State.placeDirective_bay (d : Directive) (x : BayNo) : (s.placeDirective d).bay x = s.bay x := (s.placeDirective_sameYard d).bay x
@[simp] theorem State.placeDirective_row (d : Directive) (x : Nat) : (s.placeDirective d).row x = s.row x := (s.placeDirective_sameYard d).row x
@[simp] theorem State.placeDirective_queue (d : Directive) (x : QueueKind) : (s.placeDirective d).queue x = s.queue x := (s.placeDirective_sameYard d).queue x
@[simp] theorem State.placeDirective_shiftRecord (d : Directive) (x : LaneNo) : (s.placeDirective d).shiftRecord x = s.shiftRecord x := (s.placeDirective_sameYard d).shiftRecord x

@[simp] theorem State.direct_fleet (a : Option Addr) (k : DirectiveKind) (p : List Byte) : (s.direct a k p).fleet = s.fleet := (s.direct_sameYard a k p).fleet
@[simp] theorem State.direct_lanes (a : Option Addr) (k : DirectiveKind) (p : List Byte) : (s.direct a k p).lanes = s.lanes := (s.direct_sameYard a k p).lanes
@[simp] theorem State.direct_waitList (a : Option Addr) (k : DirectiveKind) (p : List Byte) : (s.direct a k p).waitList = s.waitList := (s.direct_sameYard a k p).waitList
@[simp] theorem State.direct_stc (a : Option Addr) (k : DirectiveKind) (p : List Byte) : (s.direct a k p).stc = s.stc := (s.direct_sameYard a k p).stc
@[simp] theorem State.direct_ds (a : Option Addr) (k : DirectiveKind) (p : List Byte) : (s.direct a k p).ds = s.ds := (s.direct_sameYard a k p).ds
@[simp] theorem State.direct_ycs (a : Option Addr) (k : DirectiveKind) (p : List Byte) : (s.direct a k p).ycs = s.ycs := (s.direct_sameYard a k p).ycs
@[simp] theorem State.direct_ss (a : Option Addr) (k : DirectiveKind) (p : List Byte) : (s.direct a k p).ss = s.ss := (s.direct_sameYard a k p).ss
@[simp] theorem State.direct_veh (a : Option Addr) (k : DirectiveKind) (p : List Byte) (x : Slot) : (s.direct a k p).veh x = s.veh x := (s.direct_sameYard a k p).veh x
@[simp] theorem State.direct_lane (a : Option Addr) (k : DirectiveKind) (p : List Byte) (x : LaneNo) : (s.direct a k p).lane x = s.lane x := (s.direct_sameYard a k p).lane x
@[simp] theorem State.direct_bay (a : Option Addr) (k : DirectiveKind) (p : List Byte) (x : BayNo) : (s.direct a k p).bay x = s.bay x := (s.direct_sameYard a k p).bay x
@[simp] theorem State.direct_row (a : Option Addr) (k : DirectiveKind) (p : List Byte) (x : Nat) : (s.direct a k p).row x = s.row x := (s.direct_sameYard a k p).row x
@[simp] theorem State.direct_queue (a : Option Addr) (k : DirectiveKind) (p : List Byte) (x : QueueKind) : (s.direct a k p).queue x = s.queue x := (s.direct_sameYard a k p).queue x
@[simp] theorem State.direct_shiftRecord (a : Option Addr) (k : DirectiveKind) (p : List Byte) (x : LaneNo) : (s.direct a k p).shiftRecord x = s.shiftRecord x := (s.direct_sameYard a k p).shiftRecord x

@[simp] theorem State.yardConflict_fleet (v : Slot) (b : VehicleState) (n : Nat) : (s.yardConflict v b n).fleet = s.fleet := (s.yardConflict_sameYard v b n).fleet
@[simp] theorem State.yardConflict_lanes (v : Slot) (b : VehicleState) (n : Nat) : (s.yardConflict v b n).lanes = s.lanes := (s.yardConflict_sameYard v b n).lanes
@[simp] theorem State.yardConflict_waitList (v : Slot) (b : VehicleState) (n : Nat) : (s.yardConflict v b n).waitList = s.waitList := (s.yardConflict_sameYard v b n).waitList
@[simp] theorem State.yardConflict_stc (v : Slot) (b : VehicleState) (n : Nat) : (s.yardConflict v b n).stc = s.stc := (s.yardConflict_sameYard v b n).stc
@[simp] theorem State.yardConflict_ds (v : Slot) (b : VehicleState) (n : Nat) : (s.yardConflict v b n).ds = s.ds := (s.yardConflict_sameYard v b n).ds
@[simp] theorem State.yardConflict_ycs (v : Slot) (b : VehicleState) (n : Nat) : (s.yardConflict v b n).ycs = s.ycs := (s.yardConflict_sameYard v b n).ycs
@[simp] theorem State.yardConflict_ss (v : Slot) (b : VehicleState) (n : Nat) : (s.yardConflict v b n).ss = s.ss := (s.yardConflict_sameYard v b n).ss
@[simp] theorem State.yardConflict_veh (v : Slot) (b : VehicleState) (n : Nat) (x : Slot) : (s.yardConflict v b n).veh x = s.veh x := (s.yardConflict_sameYard v b n).veh x
@[simp] theorem State.yardConflict_lane (v : Slot) (b : VehicleState) (n : Nat) (x : LaneNo) : (s.yardConflict v b n).lane x = s.lane x := (s.yardConflict_sameYard v b n).lane x
@[simp] theorem State.yardConflict_bay (v : Slot) (b : VehicleState) (n : Nat) (x : BayNo) : (s.yardConflict v b n).bay x = s.bay x := (s.yardConflict_sameYard v b n).bay x
@[simp] theorem State.yardConflict_row (v : Slot) (b : VehicleState) (n : Nat) (x : Nat) : (s.yardConflict v b n).row x = s.row x := (s.yardConflict_sameYard v b n).row x
@[simp] theorem State.yardConflict_queue (v : Slot) (b : VehicleState) (n : Nat) (x : QueueKind) : (s.yardConflict v b n).queue x = s.queue x := (s.yardConflict_sameYard v b n).queue x
@[simp] theorem State.yardConflict_shiftRecord (v : Slot) (b : VehicleState) (n : Nat) (x : LaneNo) : (s.yardConflict v b n).shiftRecord x = s.shiftRecord x := (s.yardConflict_sameYard v b n).shiftRecord x

@[simp] theorem State.withdrawGrant_fleet (c : ChargerNo) : (s.withdrawGrant c).fleet = s.fleet := (s.withdrawGrant_sameYard c).fleet
@[simp] theorem State.withdrawGrant_lanes (c : ChargerNo) : (s.withdrawGrant c).lanes = s.lanes := (s.withdrawGrant_sameYard c).lanes
@[simp] theorem State.withdrawGrant_waitList (c : ChargerNo) : (s.withdrawGrant c).waitList = s.waitList := (s.withdrawGrant_sameYard c).waitList
@[simp] theorem State.withdrawGrant_stc (c : ChargerNo) : (s.withdrawGrant c).stc = s.stc := (s.withdrawGrant_sameYard c).stc
@[simp] theorem State.withdrawGrant_ds (c : ChargerNo) : (s.withdrawGrant c).ds = s.ds := (s.withdrawGrant_sameYard c).ds
@[simp] theorem State.withdrawGrant_ycs (c : ChargerNo) : (s.withdrawGrant c).ycs = s.ycs := (s.withdrawGrant_sameYard c).ycs
@[simp] theorem State.withdrawGrant_ss (c : ChargerNo) : (s.withdrawGrant c).ss = s.ss := (s.withdrawGrant_sameYard c).ss
@[simp] theorem State.withdrawGrant_veh (c : ChargerNo) (x : Slot) : (s.withdrawGrant c).veh x = s.veh x := (s.withdrawGrant_sameYard c).veh x
@[simp] theorem State.withdrawGrant_lane (c : ChargerNo) (x : LaneNo) : (s.withdrawGrant c).lane x = s.lane x := (s.withdrawGrant_sameYard c).lane x
@[simp] theorem State.withdrawGrant_bay (c : ChargerNo) (x : BayNo) : (s.withdrawGrant c).bay x = s.bay x := (s.withdrawGrant_sameYard c).bay x
@[simp] theorem State.withdrawGrant_row (c : ChargerNo) (x : Nat) : (s.withdrawGrant c).row x = s.row x := (s.withdrawGrant_sameYard c).row x
@[simp] theorem State.withdrawGrant_queue (c : ChargerNo) (x : QueueKind) : (s.withdrawGrant c).queue x = s.queue x := (s.withdrawGrant_sameYard c).queue x
@[simp] theorem State.withdrawGrant_shiftRecord (c : ChargerNo) (x : LaneNo) : (s.withdrawGrant c).shiftRecord x = s.shiftRecord x := (s.withdrawGrant_sameYard c).shiftRecord x

@[simp] theorem State.disconnect_fleet (c : ChargerNo) : (s.disconnect c).fleet = s.fleet := (s.disconnect_sameYard c).fleet
@[simp] theorem State.disconnect_lanes (c : ChargerNo) : (s.disconnect c).lanes = s.lanes := (s.disconnect_sameYard c).lanes
@[simp] theorem State.disconnect_waitList (c : ChargerNo) : (s.disconnect c).waitList = s.waitList := (s.disconnect_sameYard c).waitList
@[simp] theorem State.disconnect_stc (c : ChargerNo) : (s.disconnect c).stc = s.stc := (s.disconnect_sameYard c).stc
@[simp] theorem State.disconnect_ds (c : ChargerNo) : (s.disconnect c).ds = s.ds := (s.disconnect_sameYard c).ds
@[simp] theorem State.disconnect_ycs (c : ChargerNo) : (s.disconnect c).ycs = s.ycs := (s.disconnect_sameYard c).ycs
@[simp] theorem State.disconnect_ss (c : ChargerNo) : (s.disconnect c).ss = s.ss := (s.disconnect_sameYard c).ss
@[simp] theorem State.disconnect_veh (c : ChargerNo) (x : Slot) : (s.disconnect c).veh x = s.veh x := (s.disconnect_sameYard c).veh x
@[simp] theorem State.disconnect_lane (c : ChargerNo) (x : LaneNo) : (s.disconnect c).lane x = s.lane x := (s.disconnect_sameYard c).lane x
@[simp] theorem State.disconnect_bay (c : ChargerNo) (x : BayNo) : (s.disconnect c).bay x = s.bay x := (s.disconnect_sameYard c).bay x
@[simp] theorem State.disconnect_row (c : ChargerNo) (x : Nat) : (s.disconnect c).row x = s.row x := (s.disconnect_sameYard c).row x
@[simp] theorem State.disconnect_queue (c : ChargerNo) (x : QueueKind) : (s.disconnect c).queue x = s.queue x := (s.disconnect_sameYard c).queue x
@[simp] theorem State.disconnect_shiftRecord (c : ChargerNo) (x : LaneNo) : (s.disconnect c).shiftRecord x = s.shiftRecord x := (s.disconnect_sameYard c).shiftRecord x

@[simp] theorem State.recheckChargers_fleet : s.recheckChargers.fleet = s.fleet := s.recheckChargers_sameYard.fleet
@[simp] theorem State.recheckChargers_lanes : s.recheckChargers.lanes = s.lanes := s.recheckChargers_sameYard.lanes
@[simp] theorem State.recheckChargers_waitList : s.recheckChargers.waitList = s.waitList := s.recheckChargers_sameYard.waitList
@[simp] theorem State.recheckChargers_stc : s.recheckChargers.stc = s.stc := s.recheckChargers_sameYard.stc
@[simp] theorem State.recheckChargers_ds : s.recheckChargers.ds = s.ds := s.recheckChargers_sameYard.ds
@[simp] theorem State.recheckChargers_ycs : s.recheckChargers.ycs = s.ycs := s.recheckChargers_sameYard.ycs
@[simp] theorem State.recheckChargers_ss : s.recheckChargers.ss = s.ss := s.recheckChargers_sameYard.ss
@[simp] theorem State.recheckChargers_veh (x : Slot) : s.recheckChargers.veh x = s.veh x := s.recheckChargers_sameYard.veh x
@[simp] theorem State.recheckChargers_lane (x : LaneNo) : s.recheckChargers.lane x = s.lane x := s.recheckChargers_sameYard.lane x
@[simp] theorem State.recheckChargers_bay (x : BayNo) : s.recheckChargers.bay x = s.bay x := s.recheckChargers_sameYard.bay x
@[simp] theorem State.recheckChargers_row (x : Nat) : s.recheckChargers.row x = s.row x := s.recheckChargers_sameYard.row x
@[simp] theorem State.recheckChargers_queue (x : QueueKind) : s.recheckChargers.queue x = s.queue x := s.recheckChargers_sameYard.queue x
@[simp] theorem State.recheckChargers_shiftRecord (x : LaneNo) : s.recheckChargers.shiftRecord x = s.shiftRecord x := s.recheckChargers_sameYard.shiftRecord x

end

end Sys2Proof.Machine
end

section
/-! What the yard, the service and the departures do to charging: they withdraw a grant by letting its vehicle go, and leave
chargers, feeders and the station table otherwise as they were (R23, R90). What names a vehicle and its length stay too. -/

namespace Sys2Proof.Machine

/-! ### The withdrawal of a grant (R89, R90) -/

section
variable (s : State)

@[simp] theorem State.modCharger_stations (c : ChargerNo) (f : Charger → Charger) :
    (s.modCharger c f).blc = s.blc := rfl

@[simp] theorem State.modCharger_feeders (c : ChargerNo) (f : Charger → Charger) :
    (s.modCharger c f).ca.feeders = s.ca.feeders := rfl

@[simp] theorem State.placeDirective_ca (d : Directive) : (s.placeDirective d).ca = s.ca := by
  rcases s.placeDirective_cases d with ⟨-, e⟩ | ⟨-, e⟩ <;> simp [e]

@[simp] theorem State.placeDirective_stations (d : Directive) : (s.placeDirective d).blc.stations = s.blc.stations := by
  rcases s.placeDirective_cases d with ⟨-, e⟩ | ⟨-, e⟩ <;> simp [e]

@[simp] theorem State.placeDirective_charger (d : Directive) (c : ChargerNo) :
    (s.placeDirective d).charger c = s.charger c := by simp [State.charger]

@[simp] theorem State.notify_ca (n : Notice) : (s.notify n).ca = s.ca := by
  rcases s.notify_cases n with ⟨-, e⟩ | ⟨-, -, e⟩ | ⟨-, -, e⟩ <;> simp [e]

@[simp] theorem State.notify_blc (n : Notice) : (s.notify n).blc = s.blc := by
  rcases s.notify_cases n with ⟨-, e⟩ | ⟨-, -, e⟩ | ⟨-, -, e⟩ <;> simp [e]

/-- A SETPOINT touches the resend mark of its charger and nothing else of the allocator. -/
theorem State.setpoint_charger (c : ChargerNo) (kw : Nat) (placed : Bool) :
    ∃ mark, ∀ d, (s.setpoint c kw placed).charger d = if c = d then { s.charger d with resend := mark } else s.charger d := by
  unfold State.setpoint
  repeat' split
  · exact ⟨true, fun d => State.modCharger_charger _ _ _ _⟩
  · exact ⟨true, fun d => State.modCharger_charger _ _ _ _⟩
  · exact ⟨placed, fun d => by rw [State.modCharger_charger, State.placeDirective_charger]⟩
  · exact ⟨true, fun d => State.modCharger_charger _ _ _ _⟩

theorem State.setpoint_feeders (c : ChargerNo) (kw : Nat) (placed : Bool) :
    (s.setpoint c kw placed).ca.feeders = s.ca.feeders := by
  unfold State.setpoint
  repeat' split
  all_goals simp

theorem State.setpoint_stations (c : ChargerNo) (kw : Nat) (placed : Bool) :
    (s.setpoint c kw placed).blc.stations = s.blc.stations := by
  unfold State.setpoint
  repeat' split
  all_goals simp

/-- Withdrawing a grant at once leaves its charger without grant and hold (R89). -/
theorem State.withdrawGrant_charger (c : ChargerNo) :
    ∃ mark, ∀ d, (s.withdrawGrant c).charger d = if c = d then
      { s.charger d with grant := 0, hold := 0, state := unchargedState (s.charger d), resend := mark } else s.charger d := by
  unfold State.withdrawGrant
  split
  · obtain ⟨mark, hmark⟩ := s.setpoint_charger c 0 (s.charger c).resend
    refine ⟨mark, fun d => ?_⟩
    rw [State.modCharger_charger, hmark]
    split <;> rfl
  · refine ⟨(s.charger c).resend, fun d => ?_⟩
    rw [State.modCharger_charger]
    split
    · next h => rw [h]
    · rfl

@[simp] theorem State.withdrawGrant_feeders (c : ChargerNo) : (s.withdrawGrant c).ca.feeders = s.ca.feeders := by
  unfold State.withdrawGrant
  split
  · rw [State.modCharger_feeders, State.setpoint_feeders]
  · rfl

@[simp] theorem State.withdrawGrant_stations (c : ChargerNo) : (s.withdrawGrant c).blc.stations = s.blc.stations := by
  unfold State.withdrawGrant
  split
  · rw [State.modCharger_stations, State.setpoint_stations]
  · rfl

/-- A charger that lets its vehicle go has no grant, and no other charger changes (R90). -/
theorem State.disconnect_charger (c : ChargerNo) : ∃ mark, ∀ d, (s.disconnect c).charger d = if c = d then
    { s.charger d with connected := none, grant := 0, hold := 0, turnAge := 0, resend := mark
                       state := unchargedState { s.charger d with connected := none } } else s.charger d := by
  obtain ⟨mark, hmark⟩ := (s.modCharger c fun r => { r with connected := none }).withdrawGrant_charger c
  refine ⟨mark, fun d => ?_⟩
  rw [State.disconnect, State.modCharger_charger, hmark, State.modCharger_charger]
  split <;> rfl

end

/-! ### The relation -/

/-- What a vehicle keeps while it moves about the yard. -/
def Vehicle.badge (r : Vehicle) : Nat × Propulsion × LengthClass × Bool := (r.tag, r.propulsion, r.length, r.held)

/-- `t` follows from `s` by work in the yard, the bays and the plan: the station table, the feeders and what a vehicle is stay,
and a charger stays as it is or lets its vehicle go. -/
structure State.Works (s t : State) : Prop where
  stations : t.blc.stations = s.blc.stations
  feeders : t.ca.feeders = s.ca.feeders
  charger : ∀ c, t.charger c = s.charger c
    ∨ (t.charger c).cfg = (s.charger c).cfg ∧ (t.charger c).grant = 0 ∧ (t.charger c).connected = none
  badge : ∀ v, (t.veh v).badge = (s.veh v).badge

section
variable {s t u : State}

theorem State.Works.refl (s : State) : s.Works s := ⟨rfl, rfl, fun _ => .inl rfl, fun _ => rfl⟩

theorem State.Works.trans (h : s.Works t) (k : t.Works u) : s.Works u where
  stations := k.stations.trans h.stations
  feeders := k.feeders.trans h.feeders
  charger := fun c => by
    rcases k.charger c with e | ⟨hcfg, hgrant, hconn⟩
    · rw [e]; exact h.charger c
    · refine .inr ⟨hcfg.trans ?_, hgrant, hconn⟩
      rcases h.charger c with e | ⟨hcfg', -, -⟩
      · rw [e]
      · exact hcfg'
  badge := fun v => (k.badge v).trans (h.badge v)

/-- Work that touches neither the allocator nor the station table nor the fleet. -/
theorem State.Works.of_eq (hc : t.ca = s.ca) (hb : t.blc.stations = s.blc.stations) (hf : t.fleet = s.fleet) : s.Works t :=
  ⟨hb, by rw [hc], fun c => .inl (by simp [State.charger, hc]), fun v => by simp [State.veh, hf]⟩

/-! ### Updates -/

theorem State.Works.modVeh (h : s.Works t) {v : Slot} {f : Vehicle → Vehicle} (hf : ∀ r, (f r).badge = r.badge) :
    s.Works (t.modVeh v f) :=
  h.trans ⟨rfl, rfl, fun _ => .inl rfl, fun w => by
    rw [State.modVeh_veh]
    split
    · exact hf _
    · rfl⟩

theorem State.Works.waitList (h : s.Works t) {w : List WaitEntry} : s.Works { t with waitList := w } :=
  h.trans (.of_eq rfl rfl rfl)

theorem State.Works.ds (h : s.Works t) {d : Ds} : s.Works { t with ds := d } := h.trans (.of_eq rfl rfl rfl)

theorem State.Works.setQueue (h : s.Works t) {k : QueueKind} {q : List Ticket} : s.Works (t.setQueue k q) :=
  h.trans (.of_eq (by simp) (by simp) (by simp))

theorem State.Works.modRow (h : s.Works t) {i : Nat} {f : PlanRow → PlanRow} : s.Works (t.modRow i f) := h.ds

theorem State.Works.setShiftRecord (h : s.Works t) {l : LaneNo} {r : ShiftRecord} : s.Works (t.setShiftRecord l r) := h.ds

theorem State.Works.oweStep (h : s.Works t) {l : LaneNo} : s.Works (t.oweStep l) :=
  h.trans (.of_eq (by simp) (by simp) (by simp))

theorem State.Works.modLane (h : s.Works t) {l : LaneNo} {f : Lane → Lane} : s.Works (t.modLane l f) :=
  h.trans (.of_eq rfl rfl rfl)

theorem State.Works.modBay (h : s.Works t) {b : BayNo} {f : Bay → Bay} : s.Works (t.modBay b f) :=
  h.trans (.of_eq rfl rfl rfl)

theorem State.Works.raise (h : s.Works t) {f : EventFlag} : s.Works (t.raise f) := h.trans (.of_eq rfl rfl rfl)

theorem State.Works.notify (h : s.Works t) {n : Notice} : s.Works (t.notify n) :=
  h.trans (.of_eq (by simp) (by simp) (by simp))

theorem State.Works.direct (h : s.Works t) {dest : Option Addr} {k : DirectiveKind} {p : List Byte} :
    s.Works (t.direct dest k p) := by
  rcases t.direct_cases dest k p with ⟨-, e⟩ | ⟨a, -, e⟩ <;> rw [e]
  · exact h
  · exact h.trans (.of_eq (by simp) (by simp) (by simp))

theorem State.Works.disconnect (h : s.Works t) {c : ChargerNo} : s.Works (t.disconnect c) := by
  obtain ⟨mark, hmark⟩ := t.disconnect_charger c
  refine h.trans ⟨by simp [State.disconnect], by simp [State.disconnect], fun d => ?_, fun v => by simp⟩
  rw [hmark]
  split
  · exact .inr ⟨rfl, rfl, rfl⟩
  · exact .inl rfl

theorem endedCall_badge (r : Vehicle) : (endedCall r).badge = r.badge := by
  unfold endedCall
  split <;> rfl

theorem afterMouthExit_badge (r : Vehicle) : (afterMouthExit r).badge = r.badge := by
  unfold afterMouthExit
  split <;> rfl

/-! ### Shared operations -/

theorem State.Works.yardConflict (h : s.Works t) {v : Slot} {before : VehicleState} {cause : Nat} :
    s.Works (t.yardConflict v before cause) := by
  unfold State.yardConflict
  exact .notify (.raise h)

theorem State.Works.forEach {α : Type} (h : s.Works t) {list : List α} {f : α → State → State}
    (hf : ∀ x ∈ list, ∀ u, s.Works u → s.Works (f x u)) : s.Works (Machine.forEach list f t) :=
  forEach_keeps s.Works list f t h hf

/-! ### Yard Map -/

theorem State.Works.recheckCharger (h : s.Works t) {c : ChargerNo} : s.Works (t.recheckCharger c) := by
  unfold State.recheckCharger
  repeat' split
  · exact h
  · exact h
  · exact .disconnect h

theorem State.Works.recheckChargers (h : s.Works t) : s.Works (t.recheckChargers) := by
  unfold State.recheckChargers
  exact .forEach h fun c _ _ hu => .recheckCharger hu

theorem State.Works.testEntry (h : s.Works t) {l : LaneNo} {i : Nat} : s.Works (t.testEntry l i) := by
  unfold State.testEntry
  repeat' split
  · exact h
  · exact h
  · exact .modVeh h (by exact fun _ => rfl)

theorem State.Works.testLane (h : s.Works t) {l : LaneNo} : s.Works (t.testLane l) := by
  unfold State.testLane
  exact .forEach h fun i _ _ hu => .testEntry hu

theorem State.Works.testAllLanes (h : s.Works t) : s.Works (t.testAllLanes) := by
  unfold State.testAllLanes
  exact .forEach h fun l _ _ hu => .testLane hu

theorem State.Works.writeEntries (h : s.Works t) {l : LaneNo} {e : List Entry} : s.Works (t.writeEntries l e) := by
  unfold State.writeEntries
  exact .recheckChargers (.oweStep (.modLane h))

theorem State.Works.addAtTail (h : s.Works t) {l : LaneNo} {e : Entry} : s.Works (t.addAtTail l e) := by
  unfold State.addAtTail
  exact .writeEntries h

theorem State.Works.addAtJoinEnd (h : s.Works t) {l : LaneNo} {e : Entry} : s.Works (t.addAtJoinEnd l e) := by
  unfold State.addAtJoinEnd
  split
  · exact .addAtTail h
  · exact .writeEntries h

theorem State.Works.clearMarksAfter (h : s.Works t) {v : Slot} {x : Standing} : s.Works (t.clearMarksAfter v x) := by
  have h1 : s.Works (if x = .expected then t.modVeh v fun r => { r with shift := false } else t) := by
    split
    · exact .modVeh h (by exact fun _ => rfl)
    · exact h
  unfold State.clearMarksAfter
  extract_lets a
  split
  · exact h1
  · exact .modVeh h1 (by exact fun _ => rfl)

theorem State.Works.removeEntry (h : s.Works t) {l : LaneNo} {v : Slot} : s.Works (t.removeEntry l v) := by
  unfold State.removeEntry
  split
  · exact h
  · exact .clearMarksAfter (.writeEntries (.modLane h))

theorem State.Works.removeEntries (h : s.Works t) {v : Slot} {keep : Option LaneNo} : s.Works (t.removeEntries v keep) := by
  unfold State.removeEntries
  refine .forEach h fun l _ _ hu => ?_
  split
  · exact hu
  · exact .removeEntry hu

/-! ### Placement Engine -/

theorem State.Works.leaveWaitList (h : s.Works t) {v : Slot} : s.Works (t.leaveWaitList v) := by
  unfold State.leaveWaitList
  exact .waitList h

theorem State.Works.reserve (h : s.Works t) {v : Slot} {c : Choice} {o : Origin} : s.Works (t.reserve v c o) := by
  unfold State.reserve
  extract_lets p a b d e f
  have hd : s.Works d := .modVeh (.leaveWaitList (.addAtJoinEnd h)) (by exact fun _ => rfl)
  have he : s.Works e := by
    unfold e
    split
    · exact .raise hd
    · exact hd
  exact .notify (.direct he)

theorem State.Works.joinWaitList (h : s.Works t) {v : Slot} {o : Origin} : s.Works (t.joinWaitList v o) := by
  unfold State.joinWaitList
  exact .notify (.raise (.modVeh (.waitList h) (by exact fun _ => rfl)))

theorem State.Works.tryWaiting (h : s.Works t) {w : WaitEntry} : s.Works (t.tryWaiting w) := by
  unfold State.tryWaiting
  split
  · exact .reserve h
  · exact h

theorem State.Works.retry (h : s.Works t) : s.Works (t.retry) := by
  unfold State.retry
  exact .forEach h fun w _ _ hu => .tryWaiting hu

theorem State.Works.requestPlacement (h : s.Works t) {v : Slot} {o : Origin} : s.Works (t.requestPlacement v o) := by
  unfold State.requestPlacement
  repeat' split
  · exact .tryWaiting h
  · exact .reserve h
  · exact .joinWaitList h
  · exact .yardConflict h

theorem State.Works.reserveShunt (h : s.Works t) {b : Slot} {o : LaneNo} {c : Choice} : s.Works (t.reserveShunt b o c) := by
  unfold State.reserveShunt
  exact .notify (.direct (.recheckChargers (.modVeh (.addAtJoinEnd h) (by exact fun _ => rfl))))

/-! ### Service Turn Controller -/

theorem State.Works.enqueue (h : s.Works t) {k : Ticket} : s.Works (t.enqueue k) := by
  unfold State.enqueue
  exact .modVeh (.setQueue h) (by exact fun _ => rfl)

theorem State.Works.dequeue (h : s.Works t) {k : QueueKind} {v : Slot} : s.Works (t.dequeue k v) := by
  unfold State.dequeue
  exact .setQueue h

theorem State.Works.requeueWrapped (h : s.Works t) {k : QueueKind} : s.Works (t.requeueWrapped k) := by
  unfold State.requeueWrapped
  exact .setQueue h

theorem State.Works.callToBay (h : s.Works t) {b : BayNo} {k : Ticket} : s.Works (t.callToBay b k) := by
  unfold State.callToBay
  exact .direct (.modVeh (.modBay (.dequeue h)) (by exact fun _ => rfl))

theorem State.Works.choose (h : s.Works t) {b : BayNo} : s.Works (t.choose b) := by
  unfold State.choose
  repeat' split
  · exact .callToBay h
  · exact h
  · exact h

theorem State.Works.chooseKind (h : s.Works t) {k : QueueKind} : s.Works (t.chooseKind k) := by
  unfold State.chooseKind
  refine .forEach h fun b _ _ hu => ?_
  split
  · exact .choose hu
  · exact hu

theorem State.Works.chooseAll (h : s.Works t) : s.Works (t.chooseAll) := by
  unfold State.chooseAll
  exact .forEach h fun b _ _ hu => .choose hu

theorem State.Works.chooseDue (h : s.Works t) {before : State} {freed : Option BayNo} :
    s.Works (t.chooseDue before freed) := by
  unfold State.chooseDue
  refine .forEach h fun b _ _ hu => ?_
  split
  · exact .choose hu
  · exact hu

theorem State.Works.requestTicket (h : s.Works t) {v : Slot} {k : QueueKind} {skipped : State → State}
    (hs : ∀ u, s.Works u → s.Works (skipped u)) : s.Works (t.requestTicket v k skipped) := by
  unfold State.requestTicket
  repeat' split
  · exact .yardConflict h
  · exact hs _ (State.Works.raise h)
  · exact .enqueue h

theorem State.Works.requestWash (h : s.Works t) {v : Slot} {o : Origin} : s.Works (t.requestWash v o) := by
  unfold State.requestWash
  exact .requestTicket h fun _ hu => .requestPlacement hu

theorem State.Works.afterFuel (h : s.Works t) {v : Slot} {o : Origin} : s.Works (t.afterFuel v o) := by
  unfold State.afterFuel
  split
  · exact .requestWash h
  · exact .requestPlacement h

theorem State.Works.requestFuel (h : s.Works t) {v : Slot} {o : Origin} : s.Works (t.requestFuel v o) := by
  unfold State.requestFuel
  exact .requestTicket h fun _ hu => .afterFuel hu

theorem State.Works.stageEnded (h : s.Works t) {v : Slot} {k : QueueKind} : s.Works (t.stageEnded v k) := by
  cases k
  · exact .afterFuel h
  · exact .requestPlacement h

theorem State.Works.releaseBay (h : s.Works t) {b : BayNo} {x : BayState} : s.Works (t.releaseBay b x) := by
  unfold State.releaseBay
  exact .modBay h

theorem State.Works.startBay (h : s.Works t) {b : BayNo} {v : Slot} : s.Works (t.startBay b v) := by
  unfold State.startBay
  exact .direct h

theorem State.Works.serve (h : s.Works t) {b : BayNo} {k : Ticket} : s.Works (t.serve b k) := by
  unfold State.serve
  exact .startBay (.modVeh (.modBay h) (by exact fun _ => rfl))

theorem State.Works.serveWaiting (h : s.Works t) {b : BayNo} {k : Ticket} : s.Works (t.serveWaiting b k) := by
  unfold State.serveWaiting
  exact .serve (.modBay (.dequeue h))

theorem State.Works.returnTicket (h : s.Works t) {b : BayNo} : s.Works (t.returnTicket b) := by
  unfold State.returnTicket
  split
  · exact .enqueue h
  · exact h

theorem State.Works.bayArrive (h : s.Works t) {b : BayNo} {v : Slot} : s.Works (t.bayArrive b v) := by
  unfold State.bayArrive
  dsimp only
  repeat' split
  all_goals first
    | with_reducible exact h
    | with_reducible exact .raise h
    | with_reducible exact .serve h
    | with_reducible exact .serveWaiting h
    | with_reducible exact .chooseKind (.serveWaiting (.returnTicket h))

theorem State.Works.washDone (h : s.Works t) {b : BayNo} {v : Slot} : s.Works (t.washDone b v) := by
  unfold State.washDone
  split
  · exact h
  · exact .modVeh h (by exact fun _ => rfl)

theorem State.Works.bayDone (h : s.Works t) {b : BayNo} : s.Works (t.bayDone b) := by
  unfold State.bayDone
  split
  · exact .chooseDue (.releaseBay (.stageEnded (.washDone (.modBay h))))
  · exact .chooseDue (.releaseBay (.stageEnded (.washDone (.modBay h))))
  · exact h

theorem State.Works.latchOut (h : s.Works t) {b : BayNo} {x : BayOutCause} {tag : Nat} : s.Works (t.latchOut b x tag) := by
  unfold State.latchOut
  exact .notify (.raise (.releaseBay h))

theorem State.Works.secondFault (h : s.Works t) {b : BayNo} {k : Ticket} : s.Works (t.secondFault b k) := by
  unfold State.secondFault
  exact .chooseDue (.latchOut (.stageEnded (.modBay h)))

theorem State.Works.bayFault (h : s.Works t) {b : BayNo} : s.Works (t.bayFault b) := by
  unfold State.bayFault
  split
  · split
    · exact .modBay h
    · exact .secondFault h
  · exact .secondFault h
  · exact .chooseKind (.latchOut (.returnTicket h))
  · exact h

theorem State.Works.noShow (h : s.Works t) {b : BayNo} : s.Works (t.noShow b) := by
  unfold State.noShow
  split
  · split
    · exact .chooseDue (.releaseBay (.enqueue h))
    · exact .chooseDue (.releaseBay (.stageEnded (.notify (.raise (.modBay h)))))
  · exact h

theorem State.Works.retryBay (h : s.Works t) {b : BayNo} : s.Works (t.retryBay b) := by
  unfold State.retryBay
  split
  · exact .startBay (.modBay h)
  · exact h

theorem State.Works.overstayed (h : s.Works t) {b : BayNo} : s.Works (t.overstayed b) := by
  unfold State.overstayed
  split
  · exact h
  · extract_lets m a
    have ha : s.Works a := .modBay h
    split
    · exact ha
    · exact .raise ha

theorem State.Works.skipWashes (h : s.Works t) : s.Works (t.skipWashes) := by
  unfold State.skipWashes
  split
  · exact .forEach h fun k _ _ hu => .stageEnded (.raise (.dequeue hu))
  · exact h

theorem State.Works.serviceAdvance (h : s.Works t) : s.Works (t.serviceAdvance) := by
  unfold State.serviceAdvance
  exact .chooseAll (.skipWashes h)

theorem State.Works.withdrawFromBay (h : s.Works t) {b : BayNo} {v : Slot} : s.Works (t.withdrawFromBay b v) := by
  unfold State.withdrawFromBay
  split
  · exact .choose (.releaseBay h)
  · exact h

theorem State.Works.withdrawTicket (h : s.Works t) {v : Slot} : s.Works (t.withdrawTicket v) := by
  unfold State.withdrawTicket
  exact .forEach (.dequeue (.dequeue h)) fun b _ _ hu => .withdrawFromBay hu

/-! ### Departure Sequencer -/

theorem State.Works.clearBinding (h : s.Works t) {v : Slot} : s.Works (t.clearBinding v) := by
  unfold State.clearBinding
  exact .modVeh h (by exact fun _ => rfl)

theorem State.Works.oweStepAt (h : s.Works t) {l : Option LaneNo} : s.Works (t.oweStepAt l) := by
  cases l
  · exact h
  · exact .oweStep h

theorem State.Works.unbindBound (h : s.Works t) {v : Slot} : s.Works (t.unbindBound v) := by
  unfold State.unbindBound
  repeat' split
  all_goals first
    | with_reducible exact h
    | with_reducible exact .clearBinding (.modRow h)

theorem State.Works.undoCall (h : s.Works t) {v : Slot} : s.Works (t.undoCall v) := by
  unfold State.undoCall
  repeat' split
  all_goals first
    | with_reducible exact h
    | with_reducible exact .oweStepAt (.clearBinding (.modRow h))

theorem State.Works.exchange (h : s.Works t) : s.Works (t.exchange) := by
  unfold State.exchange State.rebuildBindings
  exact .ds (.testAllLanes (.forEach (.ds h) fun v _ _ hu => .modVeh hu (by exact fun _ => rfl)))

theorem State.Works.exchangeIfDue (h : s.Works t) : s.Works (t.exchangeIfDue) := by
  unfold State.exchangeIfDue
  split
  · exact .exchange h
  · exact h

theorem State.Works.sendCall (h : s.Works t) {l : LaneNo} {block : Nat} {v : Slot} : s.Works (t.sendCall l block v) := by
  unfold State.sendCall
  exact .direct h

theorem State.Works.callAtMouth (h : s.Works t) {l : LaneNo} : s.Works (t.callAtMouth l) := by
  unfold State.callAtMouth
  repeat' split
  all_goals first
    | with_reducible exact h
    | with_reducible exact .sendCall (.modRow h)

theorem State.Works.shuntFull (h : s.Works t) {l : LaneNo} {c : Slot} {row : Nat} : s.Works (t.shuntFull l c row) := by
  unfold State.shuntFull
  extract_lets known a
  have ha : s.Works a := .setShiftRecord h
  split
  · exact ha
  · exact .notify (.raise ha)

theorem State.Works.shiftEntry0 (h : s.Works t) {l : LaneNo} : s.Works (t.shiftEntry0 l) := by
  unfold State.shiftEntry0
  repeat' split
  all_goals first
    | with_reducible exact .setShiftRecord h
    | with_reducible exact .setShiftRecord (.reserveShunt h)
    | with_reducible exact .shuntFull h

theorem State.Works.shiftStep (h : s.Works t) {l : LaneNo} : s.Works (t.shiftStep l) := by
  unfold State.shiftStep
  extract_lets a
  have ha : s.Works a := .callAtMouth h
  split
  · exact ha
  · exact .shiftEntry0 ha

theorem State.Works.shiftSteps (h : s.Works t) {fuel : Nat} : s.Works (t.shiftSteps fuel) := by
  induction fuel generalizing t with
  | zero => exact h
  | succ n ih =>
    unfold State.shiftSteps
    split
    · exact ih (.shiftStep (.ds h))
    · exact h

theorem State.Works.settle (h : s.Works t) : s.Works (t.settle) := by
  unfold State.settle
  exact .exchangeIfDue (.shiftSteps h)

theorem State.Works.callRow (h : s.Works t) {i : Nat} {r : PlanRow} {v : Slot} {l : LaneNo} {x : Bool} : s.Works (t.callRow i r v l x) := by
  unfold State.callRow
  extract_lets k low a b c d e f
  have hc : s.Works c := .recheckChargers (.modVeh (.modRow h) (by exact fun _ => rfl))
  have hd : s.Works d := by
    unfold d
    split
    · exact .raise hc
    · exact hc
  have he : s.Works e := by
    unfold e
    split
    · exact .sendCall hd
    · exact .raise hd
  have hf : s.Works f := .notify he
  split
  · exact hf
  · exact .oweStep (.notify hf)

theorem State.Works.makeShort (h : s.Works t) {i : Nat} {r : PlanRow} {x : Option (Nat × VehicleState)} : s.Works (t.makeShort i r x) := by
  unfold State.makeShort
  exact .notify (.raise (.modRow h))

theorem State.Works.takeRow (h : s.Works t) {i : Nat} {r : PlanRow} : s.Works (t.takeRow i r) := by
  unfold State.takeRow
  repeat' split
  all_goals first
    | with_reducible exact h
    | with_reducible exact .callRow h
    | with_reducible exact .makeShort h
    | with_reducible exact .makeShort (.clearBinding h)

theorem State.Works.reportMissed (h : s.Works t) {i : Nat} {r : PlanRow} {x : MissCause} : s.Works (t.reportMissed i r x) := by
  unfold State.reportMissed
  exact .notify (.raise h)

theorem State.Works.missCalled (h : s.Works t) {i : Nat} {r : PlanRow} : s.Works (t.missCalled i r) := by
  unfold State.missCalled
  extract_lets a b
  have ha : s.Works a := .modRow h
  have hb : s.Works b := by
    unfold b
    split
    · exact .modVeh (.clearBinding ha) endedCall_badge
    · exact ha
  exact .oweStepAt (.reportMissed hb)

theorem State.Works.graceTest (h : s.Works t) {i : Nat} : s.Works (t.graceTest i) := by
  unfold State.graceTest
  repeat' split
  all_goals first
    | with_reducible exact h
    | with_reducible exact .settle (.missCalled h)
    | with_reducible exact .reportMissed (.modRow h)

theorem State.Works.windowRow (h : s.Works t) {i : Nat} : s.Works (t.windowRow i) := by
  unfold State.windowRow
  repeat' split
  all_goals first
    | with_reducible exact h
    | with_reducible exact .settle (.takeRow h)

theorem State.Works.shiftRetries (h : s.Works t) : s.Works (t.shiftRetries) := by
  unfold State.shiftRetries
  refine .settle (.forEach h fun l _ u hu => ?_)
  split
  · exact .oweStep hu
  · exact hu

theorem State.Works.windowPass (h : s.Works t) : s.Works (t.windowPass) := by
  unfold State.windowPass
  split
  · exact h
  · exact .forEach h fun i _ _ hu => .windowRow hu

theorem State.Works.callScan (h : s.Works t) : s.Works (t.callScan) := by
  unfold State.callScan State.graceTests
  exact .shiftRetries (.windowPass (.forEach h fun i _ _ hu => .graceTest hu))

theorem State.Works.rollRow (h : s.Works t) {i : Nat} : s.Works (t.rollRow i) := by
  unfold State.rollRow
  split
  · exact h
  · split
    · exact .reportMissed (.modRow h)
    · exact .reportMissed (.modRow h)
    · extract_lets a b
      have ha : s.Works a := .modRow h
      have hb : s.Works b := by
        unfold b
        split
        · exact .clearBinding ha
        · exact ha
      exact .reportMissed hb
    · exact .modRow h
    · exact h

theorem State.Works.rollRows (h : s.Works t) : s.Works (t.rollRows) := by
  unfold State.rollRows
  exact .forEach h fun i _ _ hu => .rollRow hu

/-! ### Reports of the yard -/

theorem State.Works.withdraw (h : s.Works t) {v : Slot} {keep : Option LaneNo} : s.Works (t.withdraw v keep) := by
  unfold State.withdraw
  extract_lets held a
  have ha : s.Works a := .modVeh (.leaveWaitList (.withdrawTicket (.removeEntries h))) (by exact fun _ => rfl)
  split
  · exact .retry ha
  · exact ha

theorem State.Works.enter (h : s.Works t) {v : Slot} : s.Works (t.enter v) := by
  have h1 : s.Works (t.enterYard v) := by
    unfold State.enterYard
    exact .modVeh h (by exact fun _ => rfl)
  unfold State.enter
  refine .chooseDue ?_
  unfold State.firstStage
  repeat' split
  · exact .requestFuel h1
  · exact .requestWash h1
  · exact .requestPlacement h1

theorem State.Works.gateIn (h : s.Works t) {v : Slot} : s.Works (t.gateIn v) := by
  unfold State.gateIn
  split
  · exact .enter h
  · extract_lets call a b
    have hb : s.Works b := .withdraw (.yardConflict h)
    refine .enter ?_
    split
    · exact .undoCall hb
    · exact hb

theorem State.Works.setOut (h : s.Works t) {v : Slot} : s.Works (t.setOut v) := by
  unfold State.setOut
  exact .modVeh h (by exact fun _ => rfl)

theorem State.Works.completeCall (h : s.Works t) {v : Slot} : s.Works (t.completeCall v) := by
  unfold State.completeCall
  extract_lets a
  have ha : s.Works a := .withdraw h
  split
  · exact .setOut ha
  · split
    · exact .clearBinding (.setOut ha)
    · exact .oweStepAt (.notify (.clearBinding (.setOut (.modRow ha))))

theorem State.Works.gateOut (h : s.Works t) {v : Slot} : s.Works (t.gateOut v) := by
  unfold State.gateOut
  repeat' split
  · exact .yardConflict h
  · exact .completeCall h
  · exact .setOut (.unbindBound (.withdraw (.raise h)))

theorem State.Works.parkIn (h : s.Works t) {v : Slot} {l : LaneNo} : s.Works (t.parkIn v l) := by
  unfold State.parkIn
  exact .testLane (.modVeh h (by exact fun _ => rfl))

theorem State.Works.takeReservation (h : s.Works t) {v : Slot} {l : LaneNo} : s.Works (t.takeReservation v l) := by
  unfold State.takeReservation
  exact .parkIn (.writeEntries h)

theorem State.Works.joinFlags (h : s.Works t) {v : Slot} {l : LaneNo} {r : Vehicle} {before : VehicleState} : s.Works (t.joinFlags v l r before) := by
  unfold State.joinFlags
  repeat' split
  all_goals first
    | with_reducible exact h
    | with_reducible exact .raise h
    | with_reducible exact .yardConflict (.raise h)
    | with_reducible exact .yardConflict h

theorem State.Works.entryJoins (h : s.Works t) {v : Slot} {l : LaneNo} {before : VehicleState} : s.Works (t.entryJoins v l before) := by
  unfold State.entryJoins
  extract_lets r a b c d
  have ha : s.Works a := by
    unfold a
    split
    · exact .addAtTail h
    · exact .writeEntries h
  have hc : s.Works c := .joinFlags (.withdraw ha)
  have hd : s.Works d := by
    unfold d
    split
    · exact .undoCall hc
    · exact hc
  exact .parkIn hd

theorem State.Works.entryLost (h : s.Works t) {v : Slot} {before : VehicleState} : s.Works (t.entryLost v before) := by
  unfold State.entryLost
  extract_lets call a b c
  have ha : s.Works a := .withdraw h
  have hb : s.Works b := by
    unfold b
    split
    · exact .undoCall ha
    · exact ha
  exact .yardConflict (.modVeh hb (by exact fun _ => rfl))

theorem State.Works.entryKnown (h : s.Works t) {v : Slot} {l : LaneNo} {e : Entry} {before : VehicleState} : s.Works (t.entryKnown v l e before) := by
  unfold State.entryKnown
  split
  · exact h
  · split
    · exact .retry (.takeReservation (.removeEntry (.yardConflict h)))
    · exact .takeReservation h

theorem State.Works.laneEntered (h : s.Works t) {v : Slot} {l : LaneNo} {before : VehicleState} : s.Works (t.laneEntered v l before) := by
  unfold State.laneEntered
  split
  · exact .entryKnown h
  · split
    · exact .entryJoins h
    · exact .entryLost h

theorem State.Works.bringIn (h : s.Works t) {v : Slot} {cause : Nat} : s.Works (t.bringIn v cause) := by
  unfold State.bringIn
  exact .yardConflict (.modVeh h (by exact fun _ => rfl))

theorem State.Works.laneEntry (h : s.Works t) {v : Slot} {l : LaneNo} : s.Works (t.laneEntry v l) := by
  unfold State.laneEntry
  split
  · exact .yardConflict h
  · exact .laneEntered (.bringIn h)
  · exact .laneEntered h

theorem State.Works.startShuntTimer (h : s.Works t) {v : Slot} : s.Works (t.startShuntTimer v) := by
  unfold State.startShuntTimer
  split
  · exact .modLane h
  · exact h

theorem State.Works.setMoving (h : s.Works t) {v : Slot} {l : Option LaneNo} : s.Works (t.setMoving v l) := by
  unfold State.setMoving
  exact .modVeh h (by exact fun _ => rfl)

theorem State.Works.exitAtMouth (h : s.Works t) {v : Slot} {l : LaneNo} : s.Works (t.exitAtMouth v l) := by
  unfold State.exitAtMouth
  exact .retry (.recheckChargers (.startShuntTimer (.modVeh (.removeEntry h) afterMouthExit_badge)))

theorem State.Works.exitFromInside (h : s.Works t) {v : Slot} {l : LaneNo} : s.Works (t.exitFromInside v l) := by
  unfold State.exitFromInside
  extract_lets target call a b c
  have ha : s.Works a := .removeEntry h
  have hb : s.Works b := by
    unfold b
    rcases target with _ | sh
    · exact ha
    · exact .removeEntry ha
  have hc : s.Works c := by
    unfold c
    split
    · exact .undoCall hb
    · exact hb
  exact .retry (.recheckChargers (.setMoving hc))

theorem State.Works.laneExited (h : s.Works t) {v : Slot} {l : LaneNo} {before : VehicleState} : s.Works (t.laneExited v l before) := by
  unfold State.laneExited
  split
  · exact .yardConflict h
  · split
    · split
      · exact .exitAtMouth h
      · exact .exitFromInside (.yardConflict h)
    · exact .setMoving (.withdraw (.yardConflict h))

theorem State.Works.laneExit (h : s.Works t) {v : Slot} {l : LaneNo} : s.Works (t.laneExit v l) := by
  unfold State.laneExit
  split
  · exact .laneExited (.bringIn h)
  · exact .laneExited h

theorem State.Works.arrivalLapse (h : s.Works t) {v : Slot} {l : LaneNo} : s.Works (t.arrivalLapse v l) := by
  unfold State.arrivalLapse
  split
  · exact .retry (.raise (.setMoving (.removeEntry h)))
  · exact h

theorem State.Works.resolved (h : s.Works t) {tag : Nat} {act : Slot → State} (ha : ∀ v, s.Works (act v)) :
    s.Works (t.resolved tag act) := by
  unfold State.resolved
  split
  · exact ha _
  · exact h

theorem State.Works.lookUp (h : s.Works t) {x : Telegram} : s.Works (t.lookUp x) := by
  unfold State.lookUp
  split
  · exact .raise h
  · exact h


end

end Sys2Proof.Machine
end

section
/-! The footing of a vehicle: what the lane lists, the queues, the bays and the wait list hold of it (R6). The operations on
other vehicles leave it, and with it everything that is read off it. -/

namespace Sys2Proof.Machine

/-- What the lanes, the queues, the bays and the wait list hold of one vehicle. -/
@[ext] structure Footing where
  entries : LaneNo → List Entry
  tickets : QueueKind → List Ticket
  bays : BayNo → Option Ticket
  waits : List WaitEntry

/-- The footing of a vehicle. -/
def State.footing (s : State) (v : Slot) : Footing where
  entries l := (s.lane l).entries.filter fun e => e.slot = v
  tickets k := (s.queue k).filter fun t => t.slot = v
  bays b := (s.bay b).ticket.filter fun t => t.slot = v
  waits := s.waitList.filter fun w => w.slot = v

/-- The footing of a vehicle that stands nowhere. -/
def Footing.none : Footing where
  entries _ := []
  tickets _ := []
  bays _ := .none
  waits := []

section
variable {s t u : State} {v w : Slot}

/-! ### What is read off the footing -/

theorem State.entry_eq_footing (l : LaneNo) : s.entry l v = ((s.footing v).entries l).head? := by
  simp [State.entry, State.footing, List.head?_filter]

theorem State.presentIn_eq_footing (l : LaneNo) :
    s.presentIn l v = ((s.footing v).entries l).any fun e => e.standing = .present := by
  simp [State.presentIn, State.footing, List.any_filter]

theorem State.bayHolds_eq_footing (b : BayNo) : s.bayHolds b v = ((s.footing v).bays b).isSome := by
  cases h : (s.bay b).ticket with
  | none => simp [State.bayHolds, State.footing, h]
  | some x => by_cases hx : x.slot = v <;> simp [State.bayHolds, State.footing, h, hx, Option.filter]

theorem State.entry_congr (h : t.footing v = s.footing v) (l : LaneNo) : t.entry l v = s.entry l v := by
  simp [State.entry_eq_footing, h]

theorem State.presentIn_congr (h : t.footing v = s.footing v) (l : LaneNo) : t.presentIn l v = s.presentIn l v := by
  simp [State.presentIn_eq_footing, h]

theorem State.inSomeLane_congr (h : t.footing v = s.footing v) : t.inSomeLane v = s.inSomeLane v := by
  simp [State.inSomeLane, State.entry_congr h]

theorem State.bayHolds_congr (h : t.footing v = s.footing v) (b : BayNo) : t.bayHolds b v = s.bayHolds b v := by
  simp [State.bayHolds_eq_footing, h]

theorem State.hasTicket_congr (h : t.footing v = s.footing v) : t.hasTicket v = s.hasTicket v := by
  have hq (k : QueueKind) : t.waitingTicket k v = s.waitingTicket k v := by
    have := congrFun (congrArg Footing.tickets h) k
    simp only [State.footing] at this
    simp only [State.waitingTicket, ← List.head?_filter, this]
  simp [State.hasTicket, hq, State.bayHolds_congr h]

theorem State.waits_eq_nil_iff : (s.footing v).waits = [] ↔ ∀ w ∈ s.waitList, w.slot ≠ v := by
  simp [State.footing]

theorem State.inSomeLane_false_iff : s.inSomeLane v = false ↔ ∀ l, (s.footing v).entries l = [] := by
  simp [State.inSomeLane, State.entry_eq_footing, mem_upTo]

theorem State.entries_eq_nil_iff (l : LaneNo) : (s.footing v).entries l = [] ↔ s.entry l v = none := by
  simp [State.entry_eq_footing]

theorem State.hasTicket_false_iff :
    s.hasTicket v = false ↔ (∀ k, (s.footing v).tickets k = []) ∧ ∀ b, (s.footing v).bays b = none := by
  have hq (k : QueueKind) : (s.waitingTicket k v).isSome = false ↔ (s.footing v).tickets k = [] := by
    simp [State.waitingTicket, State.footing]
  have hk : (∀ k, (s.footing v).tickets k = []) ↔ (s.footing v).tickets .fuel = [] ∧ (s.footing v).tickets .wash = [] :=
    ⟨fun h => ⟨h _, h _⟩, fun h k => by cases k; exacts [h.1, h.2]⟩
  simp [State.hasTicket, hq, hk, State.bayHolds_eq_footing, mem_upTo, and_assoc]

/-- A vehicle stands nowhere exactly when its footing is the empty one. -/
theorem State.standsNowhere_iff : s.StandsNowhere v ↔ s.footing v = .none := by
  rw [State.StandsNowhere, State.inSomeLane_false_iff, State.hasTicket_false_iff, ← State.waits_eq_nil_iff, Footing.ext_iff]
  simp only [Footing.none, funext_iff]
  tauto

/-! ### What leaves the footing -/

/-- The footing is a matter of the lanes, the tickets and the wait list. -/
theorem State.footing_of_eq (hl : t.lanes = s.lanes) (hs : t.stc = s.stc) (hw : t.waitList = s.waitList) (v : Slot) :
    t.footing v = s.footing v := by
  have hq (k : QueueKind) : t.queue k = s.queue k := by cases k <;> simp [State.queue, hs]
  simp [State.footing, State.lane, State.bay, hl, hs, hw, hq]

/-- `t` has the record and the footing that the vehicle has in `s`. -/
structure State.Spares (s : State) (v : Slot) (t : State) : Prop where
  veh : t.veh v = s.veh v
  footing : t.footing v = s.footing v

theorem State.Spares.refl (s : State) (v : Slot) : s.Spares v s := ⟨rfl, rfl⟩

theorem State.Spares.trans (h : s.Spares v t) (k : t.Spares v u) : s.Spares v u :=
  ⟨k.veh.trans h.veh, k.footing.trans h.footing⟩

theorem State.SameYard.footing (h : s.SameYard t) (v : Slot) : t.footing v = s.footing v :=
  State.footing_of_eq h.lanes h.stc h.waitList v

theorem State.SameYard.spares (h : s.SameYard t) (v : Slot) : s.Spares v t := ⟨h.veh v, h.footing v⟩

variable (s)

@[simp] theorem State.raise_footing (f : EventFlag) : (s.raise f).footing v = s.footing v := rfl
@[simp] theorem State.notify_footing (n : Notice) : (s.notify n).footing v = s.footing v := (s.notify_sameYard n).footing v
@[simp] theorem State.direct_footing (a : Option Addr) (k : DirectiveKind) (p : List Byte) :
    (s.direct a k p).footing v = s.footing v := (s.direct_sameYard a k p).footing v
@[simp] theorem State.yardConflict_footing (x : Slot) (b : VehicleState) (n : Nat) :
    (s.yardConflict x b n).footing v = s.footing v := (s.yardConflict_sameYard x b n).footing v
@[simp] theorem State.recheckChargers_footing : s.recheckChargers.footing v = s.footing v :=
  s.recheckChargers_sameYard.footing v
@[simp] theorem State.setVeh_footing (x : Slot) (r : Vehicle) : (s.setVeh x r).footing v = s.footing v := by
  simp [State.footing]
@[simp] theorem State.modVeh_footing (x : Slot) (f : Vehicle → Vehicle) : (s.modVeh x f).footing v = s.footing v :=
  s.setVeh_footing x _
@[simp] theorem State.modRow_footing (i : Nat) (f : PlanRow → PlanRow) : (s.modRow i f).footing v = s.footing v :=
  State.footing_of_eq rfl rfl rfl v
@[simp] theorem State.setShiftRecord_footing (l : LaneNo) (r : ShiftRecord) :
    (s.setShiftRecord l r).footing v = s.footing v := State.footing_of_eq rfl rfl rfl v
@[simp] theorem State.oweStep_footing (l : LaneNo) : (s.oweStep l).footing v = s.footing v :=
  State.footing_of_eq (by simp) (by simp) (by simp) v
@[simp] theorem State.oweStepAt_footing (l : Option LaneNo) : (s.oweStepAt l).footing v = s.footing v := by
  cases l <;> simp [State.oweStepAt]
@[simp] theorem State.clearBinding_footing (x : Slot) : (s.clearBinding x).footing v = s.footing v := s.modVeh_footing x _
@[simp] theorem State.dropStep_footing (l : LaneNo) : (s.dropStep l).footing v = s.footing v :=
  State.footing_of_eq rfl rfl rfl v
@[simp] theorem State.sendCall_footing (l : LaneNo) (n : Nat) (x : Slot) : (s.sendCall l n x).footing v = s.footing v :=
  s.direct_footing _ _ _

/-! ### Lanes, wait list, queues and bays -/

theorem State.modLane_footing (l : LaneNo) (f : Lane → Lane) : (s.modLane l f).footing v =
    { s.footing v with
      entries := fun m => if l = m then (f (s.lane l)).entries.filter (fun e => e.slot = v) else (s.footing v).entries m } := by
  ext1
  · funext m
    by_cases h : l = m
    · subst h; simp [State.footing]
    · simp [State.footing, h]
  all_goals simp [State.footing, State.modLane_eq]

/-- A lane list is written: the footing of a vehicle changes by what the list holds of it. -/
theorem State.writeEntries_footing (l : LaneNo) (es : List Entry) : (s.writeEntries l es).footing v =
    { s.footing v with
      entries := fun m => if l = m then es.filter (fun e => e.slot = v) else (s.footing v).entries m } := by
  simp [State.writeEntries, State.modLane_footing]

theorem State.writeEntries_spares {l : LaneNo} {es : List Entry}
    (h : es.filter (fun e => e.slot = v) = (s.lane l).entries.filter fun e => e.slot = v) :
    s.Spares v (s.writeEntries l es) := by
  refine ⟨by simp [State.writeEntries, State.modLane_eq], ?_⟩
  rw [State.writeEntries_footing, h]
  ext1 <;> try rfl
  funext m
  show (if l = m then _ else _) = _
  split
  · next e => subst e; rfl
  · rfl

theorem State.addAtJoinEnd_eq (l : LaneNo) (e : Entry) : s.addAtJoinEnd l e = s.writeEntries l
    (match (s.lane l).cfg.kind with
      | .through => (s.lane l).entries ++ [e]
      | .deadEnd => e :: (s.lane l).entries) := by
  unfold State.addAtJoinEnd State.addAtTail
  cases (s.lane l).cfg.kind <;> rfl

theorem State.addAtJoinEnd_spares {l : LaneNo} {e : Entry} (h : e.slot ≠ v) : s.Spares v (s.addAtJoinEnd l e) := by
  rw [State.addAtJoinEnd_eq]
  apply State.writeEntries_spares
  cases (s.lane l).cfg.kind <;> simp [h]

theorem State.leaveWaitList_footing : (s.leaveWaitList v).footing v = { s.footing v with waits := [] } := by
  ext1 <;> simp [State.footing, State.leaveWaitList] <;> rfl

theorem State.leaveWaitList_spares (h : w ≠ v) : s.Spares v (s.leaveWaitList w) := by
  refine ⟨rfl, ?_⟩
  ext1
  case waits =>
    simp only [State.footing, State.leaveWaitList, List.filter_filter]
    congr 1
    funext x
    by_cases hx : x.slot = v <;> simp [hx, Ne.symm h]
  all_goals rfl

end

end Sys2Proof.Machine
end

section
/-! What reservations do to the yard: the wait-list retry (R53) and the shift steps (R139) add EXPECTED entries at join ends,
take vehicles from the wait list, clear BLOCKED marks, and leave the rest; a vehicle that they do not place keeps its record
and its footing. -/

namespace Sys2Proof.Machine

section
variable {s t u : State} {v w : Slot}

/-! ### Flags and the depot link -/

section
variable (s)

theorem State.notify_flag (n : Notice) {f : EventFlag} (h : f ≠ .noticeDrop) : (s.notify n).flag f = s.flag f := by
  rcases s.notify_cases n with ⟨-, e⟩ | ⟨-, -, e⟩ | ⟨-, -, e⟩ <;> rw [e]
  · simp [State.raise_flag, Ne.symm h]
  · rfl

theorem State.placeDirective_flag (d : Directive) {f : EventFlag} (h : f ≠ .directiveDrop) :
    (s.placeDirective d).flag f = s.flag f := by
  rcases s.placeDirective_cases d with ⟨-, e⟩ | ⟨-, e⟩ <;> rw [e]
  · simp [State.raise_flag, Ne.symm h]
  · rfl

theorem State.direct_flag (a : Option Addr) (k : DirectiveKind) (p : List Byte) {f : EventFlag} (h : f ≠ .directiveDrop) :
    (s.direct a k p).flag f = s.flag f := by
  rcases s.direct_cases a k p with ⟨-, e⟩ | ⟨b, -, e⟩ <;> rw [e]
  exact s.placeDirective_flag _ h

@[simp] theorem State.placeDirective_dlp (d : Directive) : (s.placeDirective d).dlp = s.dlp := by
  rcases s.placeDirective_cases d with ⟨-, e⟩ | ⟨-, e⟩ <;> simp [e]

@[simp] theorem State.direct_dlp (a : Option Addr) (k : DirectiveKind) (p : List Byte) : (s.direct a k p).dlp = s.dlp := by
  rcases s.direct_cases a k p with ⟨-, e⟩ | ⟨b, -, e⟩ <;> simp [e]

theorem State.setpoint_flag (c : ChargerNo) (n : Nat) (p : Bool) {f : EventFlag} (h : f ≠ .directiveDrop) :
    (s.setpoint c n p).flag f = s.flag f := by
  unfold State.setpoint
  repeat' split
  · rfl
  · exact (show (s.raise .directiveDrop).flag f = _ by simp [State.raise_flag, Ne.symm h])
  · exact s.placeDirective_flag _ h
  · rfl

theorem State.setpoint_dlp (c : ChargerNo) (n : Nat) (p : Bool) : (s.setpoint c n p).dlp = s.dlp := by
  unfold State.setpoint
  repeat' split
  · rfl
  · rfl
  · exact s.placeDirective_dlp _
  · rfl

theorem State.withdrawGrant_flag (c : ChargerNo) {f : EventFlag} (h : f ≠ .directiveDrop) :
    (s.withdrawGrant c).flag f = s.flag f := by
  unfold State.withdrawGrant
  split
  · exact s.setpoint_flag _ _ _ h
  · rfl

theorem State.withdrawGrant_dlp (c : ChargerNo) : (s.withdrawGrant c).dlp = s.dlp := by
  unfold State.withdrawGrant
  split
  · exact s.setpoint_dlp _ _ _
  · rfl

theorem State.recheckChargers_flag {f : EventFlag} (h : f ≠ .directiveDrop) : s.recheckChargers.flag f = s.flag f := by
  refine forEach_keeps (fun t => t.flag f = s.flag f) _ _ s rfl fun c _ t ht => ?_
  unfold State.recheckCharger
  repeat' split
  · exact ht
  · exact ht
  · exact (State.withdrawGrant_flag (t.modCharger c fun r => { r with connected := none }) c h).trans ht

@[simp] theorem State.recheckChargers_dlp : s.recheckChargers.dlp = s.dlp := by
  refine forEach_keeps (fun t => t.dlp = s.dlp) _ _ s rfl fun c _ t ht => ?_
  unfold State.recheckCharger
  repeat' split
  · exact ht
  · exact ht
  · exact (State.withdrawGrant_dlp (t.modCharger c fun r => { r with connected := none }) c).trans ht

@[simp] theorem State.oweStep_flag (l : LaneNo) (f : EventFlag) : (s.oweStep l).flag f = s.flag f := by
  simp [State.flag]

theorem State.writeEntries_flag (l : LaneNo) (es : List Entry) {f : EventFlag} (h : f ≠ .directiveDrop) :
    (s.writeEntries l es).flag f = s.flag f := by
  rw [State.writeEntries, State.recheckChargers_flag _ h, State.oweStep_flag]
  rfl

@[simp] theorem State.writeEntries_dlp (l : LaneNo) (es : List Entry) : (s.writeEntries l es).dlp = s.dlp := by
  simp [State.writeEntries, State.modLane_eq]

/-! ### Writing a lane list -/

@[simp] theorem State.writeEntries_lane (l m : LaneNo) (es : List Entry) :
    (s.writeEntries l es).lane m = if l = m then { s.lane l with entries := es } else s.lane m := by
  simp only [State.writeEntries, State.recheckChargers_lane, State.oweStep_lane, State.modLane_lane]
  split
  · next h => rw [h]
  · rfl

@[simp] theorem State.writeEntries_veh (l : LaneNo) (es : List Entry) (x : Slot) :
    (s.writeEntries l es).veh x = s.veh x := by simp [State.writeEntries, State.modLane_eq]

@[simp] theorem State.writeEntries_fleet (l : LaneNo) (es : List Entry) : (s.writeEntries l es).fleet = s.fleet := by
  simp [State.writeEntries, State.modLane_eq]

@[simp] theorem State.writeEntries_waitList (l : LaneNo) (es : List Entry) :
    (s.writeEntries l es).waitList = s.waitList := by simp [State.writeEntries, State.modLane_eq]

@[simp] theorem State.writeEntries_stc (l : LaneNo) (es : List Entry) : (s.writeEntries l es).stc = s.stc := by
  simp [State.writeEntries, State.modLane_eq]

@[simp] theorem State.writeEntries_ycs (l : LaneNo) (es : List Entry) : (s.writeEntries l es).ycs = s.ycs := by
  simp [State.writeEntries, State.modLane_eq]

@[simp] theorem State.writeEntries_ss (l : LaneNo) (es : List Entry) : (s.writeEntries l es).ss = s.ss := by
  simp [State.writeEntries, State.modLane_eq]

@[simp] theorem State.oweStep_active (l : LaneNo) : (s.oweStep l).ds.active = s.ds.active := by
  unfold State.oweStep; split <;> rfl

@[simp] theorem State.oweStep_standby (l : LaneNo) : (s.oweStep l).ds.standby = s.ds.standby := by
  unfold State.oweStep; split <;> rfl

@[simp] theorem State.oweStep_swap (l : LaneNo) : (s.oweStep l).ds.swap = s.ds.swap := by
  unfold State.oweStep; split <;> rfl

theorem State.writeEntries_ds (l : LaneNo) (es : List Entry) : (s.writeEntries l es).ds = (s.oweStep l).ds := by
  by_cases h : l ∈ s.ds.stepDue <;> simp [State.writeEntries, State.oweStep, State.modLane_eq, h]

@[simp] theorem State.writeEntries_row (l : LaneNo) (es : List Entry) (i : Nat) :
    (s.writeEntries l es).row i = s.row i := by simp [State.row, State.writeEntries_ds]

@[simp] theorem State.writeEntries_shiftRecord (l m : LaneNo) (es : List Entry) :
    (s.writeEntries l es).shiftRecord m = s.shiftRecord m := by
  simp [State.writeEntries, State.modLane_eq]

end

/-! ### The relation -/

/-- A lane whose list has got entries at its join end. -/
def Lane.joined (r : Lane) (new : List Entry) : Lane :=
  { r with entries := match r.cfg.kind with
      | .through => r.entries ++ new
      | .deadEnd => new ++ r.entries }

theorem Lane.joined_nil (r : Lane) : r.joined [] = r := by
  unfold Lane.joined
  cases h : r.cfg.kind <;> simp

theorem Lane.joined_joined (r : Lane) (a b : List Entry) :
    (r.joined a).joined b = r.joined (match r.cfg.kind with | .through => a ++ b | .deadEnd => b ++ a) := by
  unfold Lane.joined
  cases h : r.cfg.kind <;> simp

/-- The event flags that placing vehicles can raise. -/
def placingFlags : List EventFlag := [.misorderPlaced, .shuntFull, .directiveDrop, .noticeDrop]

/-- A row stays as it is, or is a CALLED one whose BLOCKED mark is cleared. -/
def PlanRow.clears (r r' : PlanRow) : Prop := r' = r ∨ r.state = .called ∧ r' = { r with blocked := false }

/-- `t` follows from `s` by reservations, and by CALLs to buses that came to stand at a mouth. -/
structure State.Reserves (s t : State) : Prop where
  stc : t.stc = s.stc
  waits : t.waitList.Sublist s.waitList
  lane : ∀ l, ∃ new, (∀ e ∈ new, e.standing = .expected) ∧ t.lane l = (s.lane l).joined new
  standby : t.ds.standby = s.ds.standby
  swap : t.ds.swap = s.ds.swap
  active : List.Forall₂ PlanRow.clears s.ds.active t.ds.active
  flag : ∀ f, f ∉ placingFlags → t.flag f = s.flag f

theorem PlanRow.clears.trans {a b c : PlanRow} (h : a.clears b) (k : b.clears c) : a.clears c := by
  rcases h with rfl | ⟨ha, rfl⟩
  · exact k
  · rcases k with rfl | ⟨-, rfl⟩
    · exact .inr ⟨ha, rfl⟩
    · exact .inr ⟨ha, rfl⟩

theorem PlanRow.clears.called {a b : PlanRow} (h : a.clears b) : b.state = a.state := by
  rcases h with rfl | ⟨-, rfl⟩ <;> rfl

theorem clears_refl (rows : List PlanRow) : List.Forall₂ PlanRow.clears rows rows :=
  List.forall₂_same.mpr fun _ _ => .inl rfl

theorem clears_trans {a b c : List PlanRow} (h : List.Forall₂ PlanRow.clears a b) (k : List.Forall₂ PlanRow.clears b c) :
    List.Forall₂ PlanRow.clears a c := by
  induction h generalizing c with
  | nil => exact k
  | cons hx _ ih =>
    cases k with
    | cons ky kys => exact .cons (hx.trans ky) (ih kys)

theorem State.Reserves.refl (s : State) : s.Reserves s :=
  ⟨rfl, .refl _, fun l => ⟨[], by simp, (Lane.joined_nil _).symm⟩, rfl, rfl, clears_refl _, fun _ _ => rfl⟩

theorem State.Reserves.trans (h : s.Reserves t) (k : t.Reserves u) : s.Reserves u where
  stc := k.stc.trans h.stc
  waits := k.waits.trans h.waits
  lane l := by
    obtain ⟨a, ha, ea⟩ := h.lane l
    obtain ⟨b, hb, eb⟩ := k.lane l
    refine ⟨_, ?_, by rw [eb, ea, Lane.joined_joined]⟩
    intro e he
    cases hk : (s.lane l).cfg.kind with
    | through =>
      simp only [hk, List.mem_append] at he
      exact he.elim (ha e) (hb e)
    | deadEnd =>
      simp only [hk, List.mem_append] at he
      exact he.elim (hb e) (ha e)
  standby := k.standby.trans h.standby
  swap := k.swap.trans h.swap
  active := clears_trans h.active k.active
  flag f hf := (k.flag f hf).trans (h.flag f hf)

/-- A change of none of these. -/
theorem State.Reserves.of_eq (hs : t.stc = s.stc) (hw : t.waitList = s.waitList) (hl : t.lanes = s.lanes)
    (hd : t.ds.standby = s.ds.standby) (hp : t.ds.swap = s.ds.swap) (ha : t.ds.active = s.ds.active)
    (hf : ∀ f, f ∉ placingFlags → t.flag f = s.flag f) : s.Reserves t :=
  ⟨hs, by rw [hw], fun l => ⟨[], by simp, by rw [Lane.joined_nil]; simp [State.lane, hl]⟩, hd, hp, by rw [ha]; exact clears_refl _, hf⟩

/-! ### What the relation says of lanes and rows -/

theorem State.Reserves.cfg (h : s.Reserves t) (l : LaneNo) : (t.lane l).cfg = (s.lane l).cfg := by
  obtain ⟨new, -, e⟩ := h.lane l
  rw [e]; rfl

theorem State.Reserves.front (h : s.Reserves t) (l : LaneNo) : (t.lane l).front = (s.lane l).front := by
  obtain ⟨new, -, e⟩ := h.lane l
  rw [e]; rfl

theorem State.Reserves.through (h : s.Reserves t) {l : LaneNo} (hk : (s.lane l).cfg.kind = .through) :
    (s.lane l).entries <+: (t.lane l).entries := by
  obtain ⟨new, -, e⟩ := h.lane l
  rw [e, Lane.joined]
  simp only [hk]
  exact List.prefix_append _ _

theorem State.Reserves.deadEnd (h : s.Reserves t) {l : LaneNo} (hk : (s.lane l).cfg.kind = .deadEnd) :
    (s.lane l).entries <:+ (t.lane l).entries := by
  obtain ⟨new, -, e⟩ := h.lane l
  rw [e, Lane.joined]
  simp only [hk]
  exact List.suffix_append _ _

/-- A PRESENT entry of the list after is one of the list before, and the other way round. -/
theorem State.Reserves.present_mem (h : s.Reserves t) {l : LaneNo} {e : Entry} (he : e.standing = .present) :
    e ∈ (t.lane l).entries ↔ e ∈ (s.lane l).entries := by
  obtain ⟨new, hnew, hl⟩ := h.lane l
  have hn : e ∉ new := fun hm => by simp [hnew e hm] at he
  rw [hl, Lane.joined]
  cases hk : (s.lane l).cfg.kind <;> simp [hn]

theorem State.Reserves.presentIn (h : s.Reserves t) (l : LaneNo) (v : Slot) : t.presentIn l v = s.presentIn l v := by
  rw [Bool.eq_iff_iff]
  simp only [State.presentIn, List.any_eq_true, Bool.and_eq_true, decide_eq_true_eq]
  constructor
  · rintro ⟨e, hm, hs, hp⟩; exact ⟨e, (h.present_mem hp).mp hm, hs, hp⟩
  · rintro ⟨e, hm, hs, hp⟩; exact ⟨e, (h.present_mem hp).mpr hm, hs, hp⟩

theorem State.Reserves.presentLane (h : s.Reserves t) (v : Slot) : t.presentLane v = s.presentLane v := by
  simp [State.presentLane, h.presentIn]

theorem State.Reserves.rows (h : s.Reserves t) (i : Nat) : Option.Rel PlanRow.clears (s.row i) (t.row i) := by
  have := h.active
  simp only [State.row]
  generalize s.ds.active = a at *
  generalize t.ds.active = b at *
  induction this generalizing i with
  | nil => exact .none
  | cons hx _ ih =>
    cases i with
    | zero => exact .some hx
    | succ i => exact ih i

/-- A row that is not CALLED, or not BLOCKED, stays. -/
theorem State.Reserves.row (h : s.Reserves t) {i : Nat} {r : PlanRow} (hr : s.row i = some r)
    (hb : r.state = .called → r.blocked = false) : t.row i = some r := by
  have := h.rows i
  rw [hr] at this
  cases ht : t.row i with
  | none => rw [ht] at this; cases this
  | some r' =>
    rw [ht] at this
    cases this with
    | some hx =>
      rcases hx with rfl | ⟨hc, rfl⟩
      · rfl
      · rw [← hb hc]

theorem State.Reserves.anyCalled (h : s.Reserves t) : t.anyCalled = s.anyCalled := by
  have := h.active
  simp only [State.anyCalled]
  generalize s.ds.active = a at *
  generalize t.ds.active = b at *
  induction this with
  | nil => rfl
  | cons hx _ ih => simp [ih, hx.called]

theorem State.Reserves.length (h : s.Reserves t) : t.ds.active.length = s.ds.active.length := h.active.length_eq.symm

theorem State.Reserves.noneBlocked (h : s.Reserves t) (hn : s.NoneBlocked) : t.NoneBlocked := by
  have := h.active
  unfold State.NoneBlocked at *
  generalize s.ds.active = a at *
  generalize t.ds.active = b at *
  induction this with
  | nil => exact hn
  | cons hx _ ih =>
    intro r hr
    rcases List.mem_cons.mp hr with rfl | hr
    · rcases hx with rfl | ⟨-, rfl⟩
      · exact hn _ (by simp)
      · simp
    · exact ih (fun x hx => hn x (by simp [hx])) r hr

/-! ### Reservations (R48, R53) -/

theorem State.addAtJoinEnd_reserves (l : LaneNo) (e : Entry) (he : e.standing = .expected) :
    s.Reserves (s.addAtJoinEnd l e) := by
  rw [State.addAtJoinEnd_eq]
  refine ⟨by simp, by simp, fun m => ?_, by simp [State.writeEntries_ds], by simp [State.writeEntries_ds],
    by simpa [State.writeEntries_ds] using clears_refl _, fun f hf => State.writeEntries_flag _ _ _ (by rintro rfl; simp [placingFlags] at hf)⟩
  rw [State.writeEntries_lane]
  split
  · next h =>
    subst h
    refine ⟨[e], by simpa using he, ?_⟩
    unfold Lane.joined
    cases (s.lane l).cfg.kind <;> rfl
  · exact ⟨[], by simp, (Lane.joined_nil _).symm⟩

/-- Signals that placing vehicles can give. -/
theorem State.Reserves.notify (h : s.Reserves t) {n : Notice} : s.Reserves (t.notify n) :=
  h.trans (.of_eq (by simp) (by simp) (by simp) (by simp) (by simp) (by simp) fun f hf =>
    State.notify_flag _ _ (by rintro rfl; simp [placingFlags] at hf))

theorem State.Reserves.direct (h : s.Reserves t) {a : Option Addr} {k : DirectiveKind} {p : List Byte} :
    s.Reserves (t.direct a k p) :=
  h.trans (.of_eq (by simp) (by simp) (by simp) (by simp) (by simp) (by simp) fun f hf =>
    State.direct_flag _ _ _ _ (by rintro rfl; simp [placingFlags] at hf))

theorem State.Reserves.raise (h : s.Reserves t) {f : EventFlag} (hf : f ∈ placingFlags) : s.Reserves (t.raise f) :=
  h.trans (.of_eq rfl rfl rfl rfl rfl rfl fun g hg => by
    rw [State.raise_flag, decide_eq_false (by rintro rfl; exact hg hf), Bool.or_false])

theorem State.Reserves.modVeh (h : s.Reserves t) {x : Slot} {f : Vehicle → Vehicle} : s.Reserves (t.modVeh x f) :=
  h.trans (.of_eq rfl rfl rfl rfl rfl rfl fun _ _ => rfl)

theorem State.Reserves.recheckChargers (h : s.Reserves t) : s.Reserves t.recheckChargers :=
  h.trans (.of_eq (by simp) (by simp) (by simp) (by simp) (by simp) (by simp) fun f hf =>
    State.recheckChargers_flag _ (by rintro rfl; simp [placingFlags] at hf))

theorem State.Reserves.leaveWaitList (h : s.Reserves t) {x : Slot} : s.Reserves (t.leaveWaitList x) :=
  h.trans ⟨rfl, List.filter_sublist, fun l => ⟨[], by simp, (Lane.joined_nil _).symm⟩, rfl, rfl, clears_refl _, fun _ _ => rfl⟩

theorem State.Reserves.reserve (h : s.Reserves t) {x : Slot} {c : Choice} {o : Origin} : s.Reserves (t.reserve x c o) := by
  unfold State.reserve
  extract_lets p a b d e f
  have hd : s.Reserves d := .modVeh (.leaveWaitList (h.trans (State.addAtJoinEnd_reserves _ _ rfl)))
  have he : s.Reserves e := by
    unfold e
    split
    · exact hd.raise (by decide)
    · exact hd
  exact he.direct.notify

theorem State.Spares.reserve (h : s.Spares v t) {x : Slot} (hx : x ≠ v) {c : Choice} {o : Origin} :
    s.Spares v (t.reserve x c o) := by
  unfold State.reserve
  extract_lets p a b d e f
  have ha : s.Spares v a := h.trans (t.addAtJoinEnd_spares hx)
  have hb : s.Spares v b := ha.trans (State.leaveWaitList_spares _ hx)
  have hd : s.Spares v d := hb.trans ⟨by simp [d, hx], by simp [d]⟩
  have he : s.Spares v e := by
    unfold e
    split
    · exact hd.trans ⟨rfl, rfl⟩
    · exact hd
  exact he.trans ⟨by simp [f], by simp [f]⟩

theorem State.retry_reserves (s : State) : s.Reserves s.retry := by
  refine forEach_keeps s.Reserves _ _ s (.refl s) fun w _ t ht => ?_
  unfold State.tryWaiting
  split
  · exact ht.reserve
  · exact ht

/-- The retry touches the vehicles that wait, and no other (R53). -/
theorem State.retry_spares (hv : ∀ w ∈ s.waitList, w.slot ≠ v) : s.Spares v s.retry := by
  refine forEach_keeps (s.Spares v) _ _ s (.refl s v) fun w hw t ht => ?_
  unfold State.tryWaiting
  split
  · exact ht.reserve (hv w hw)
  · exact ht

theorem State.retry_nil (h : s.waitList = []) : s.retry = s := by simp [State.retry, h]

theorem State.reserve_row (x : Slot) (c : Choice) (o : Origin) : (s.reserve x c o).ds.active = s.ds.active := by
  unfold State.reserve
  extract_lets p a b d e f
  have ha : a.ds.active = s.ds.active := by simp [a, State.addAtJoinEnd_eq, State.writeEntries_ds]
  have he : e.ds.active = a.ds.active := by
    unfold e
    split <;> rfl
  rw [State.notify_ds, State.direct_ds, he, ha]

theorem State.retry_active (s : State) : s.retry.ds.active = s.ds.active := by
  refine forEach_keeps (fun t => t.ds.active = s.ds.active) _ _ s rfl fun w _ t ht => ?_
  unfold State.tryWaiting
  split
  · exact (State.reserve_row _ _ _).trans ht
  · exact ht

/-! ### Shift steps (R139) -/

/-- The row whose BLOCKED call holds a vehicle. -/
theorem State.blockedRowOf_eq_some {i : Nat} : s.blockedRowOf v = some i ↔
    (s.veh v).boundRow = some i ∧ ∃ r, s.row i = some r ∧ r.state = .called ∧ r.blocked = true := by
  unfold State.blockedRowOf
  constructor
  · intro h
    split at h
    · cases h
    · next j hj =>
      split at h
      · next r hr =>
        split at h
        · next hb => cases h; exact ⟨hj, r, hr, by simpa using hb⟩
        · cases h
      · cases h
  · rintro ⟨hi, r, hr, hc, hb⟩
    simp [hi, hr, hc, hb]

/-- Check 1 of a shift step calls out the bus at the mouth when its row is BLOCKED, and does nothing otherwise. -/
theorem State.callAtMouth_cases (s : State) (l : LaneNo) : s.callAtMouth l = s
    ∨ ∃ e i r, (s.lane l).entries.head? = some e ∧ e.standing = .present ∧ s.blockedRowOf e.slot = some i
        ∧ s.row i = some r ∧ r.state = .called ∧ r.blocked = true
        ∧ s.callAtMouth l = (s.modRow i fun r => { r with blocked := false }).sendCall l r.block e.slot := by
  unfold State.callAtMouth
  repeat' split
  any_goals exact .inl rfl
  next e he hp _ i hi _ r hr =>
  obtain ⟨-, r', hr', hc, hb⟩ := State.blockedRowOf_eq_some.mp hi
  obtain rfl : r = r' := Option.some.inj (hr.symm.trans hr')
  exact .inr ⟨e, i, r, he, hp, hi, hr, hc, hb, rfl⟩

theorem modify_clears {rows : List PlanRow} {i : Nat} {r : PlanRow} (hr : rows[i]? = some r) (hc : r.state = .called) :
    List.Forall₂ PlanRow.clears rows (rows.modify i fun r => { r with blocked := false }) := by
  induction rows generalizing i with
  | nil => cases hr
  | cons x rest ih =>
    cases i with
    | zero =>
      cases hr
      exact .cons (.inr ⟨hc, rfl⟩) (clears_refl _)
    | succ i => exact .cons (.inl rfl) (ih hr)

theorem State.callAtMouth_reserves (s : State) (l : LaneNo) : s.Reserves (s.callAtMouth l) := by
  rcases s.callAtMouth_cases l with e | ⟨e, i, r, -, -, -, hr, hc, -, heq⟩
  · rw [e]; exact .refl s
  · rw [heq]
    have hmod : s.Reserves (s.modRow i fun r => { r with blocked := false }) := ⟨rfl, .refl _, fun l => ⟨[], by simp, (Lane.joined_nil _).symm⟩, rfl, rfl,
      modify_clears hr hc, fun _ _ => rfl⟩
    exact hmod.direct

theorem State.callAtMouth_spares (s : State) (l : LaneNo) (v : Slot) : s.Spares v (s.callAtMouth l) := by
  rcases s.callAtMouth_cases l with e | ⟨e, i, r, -, -, -, -, -, -, heq⟩
  · rw [e]; exact .refl s v
  · rw [heq]
    exact ⟨by simp [State.sendCall], by simp⟩

theorem State.callAtMouth_waitList (s : State) (l : LaneNo) : (s.callAtMouth l).waitList = s.waitList := by
  rcases s.callAtMouth_cases l with e | ⟨e, i, r, -, -, -, -, -, -, heq⟩
  · rw [e]
  · rw [heq]
    simp [State.sendCall]

theorem State.reserveShunt_reserves (s : State) (b : Slot) (o : LaneNo) (c : Choice) : s.Reserves (s.reserveShunt b o c) := by
  unfold State.reserveShunt
  extract_lets p a d e f
  exact (State.Reserves.modVeh (State.addAtJoinEnd_reserves _ _ rfl)).recheckChargers.direct.notify

theorem State.reserveShunt_spares (s : State) {b : Slot} (hb : b ≠ v) (o : LaneNo) (c : Choice) :
    s.Spares v (s.reserveShunt b o c) := by
  unfold State.reserveShunt
  extract_lets p a d e f
  have ha : s.Spares v a := s.addAtJoinEnd_spares hb
  have hd : s.Spares v d := ha.trans ⟨by simp [d, hb], by simp [d]⟩
  exact hd.trans ⟨by simp [f, e], by simp [f, e]⟩

theorem State.setShiftRecord_reserves (s : State) (l : LaneNo) (r : ShiftRecord) : s.Reserves (s.setShiftRecord l r) :=
  .of_eq rfl rfl rfl rfl rfl rfl fun _ _ => rfl

theorem State.shuntFull_reserves (s : State) (l : LaneNo) (c : Slot) (i : Nat) : s.Reserves (s.shuntFull l c i) := by
  unfold State.shuntFull
  extract_lets k t
  split
  · exact s.setShiftRecord_reserves _ _
  · exact ((s.setShiftRecord_reserves _ _).raise (by decide)).notify

theorem State.shuntFull_spares (s : State) (l : LaneNo) (c : Slot) (i : Nat) (v : Slot) : s.Spares v (s.shuntFull l c i) := by
  unfold State.shuntFull
  extract_lets k t
  split <;> exact ⟨by simp [t], by simp [t]⟩

/-- Checks 3 to 5 of a shift step: nothing stands in the way, or entry 0 gets a shunt reservation, or there is no room. -/
theorem State.shiftEntry0_cases (s : State) (l : LaneNo) : s.shiftEntry0 l = s.setShiftRecord l .idle
    ∨ (∃ e c, s.blockedRowsIn l ≠ [] ∧ (s.lane l).entries.head? = some e ∧ e.standing = .present
        ∧ (s.veh e.slot).state ≠ .called ∧ s.shuntPlacement e.slot l = some c
        ∧ s.shiftEntry0 l = (s.reserveShunt e.slot l c).setShiftRecord l (.shifting e.slot))
    ∨ ∃ b i, s.shiftEntry0 l = s.shuntFull l b i := by
  unfold State.shiftEntry0
  split
  · next row rest e hrows hhead =>
    split
    · exact .inl rfl
    · next hclear =>
      simp only [State.clearsItself, Bool.or_eq_true, decide_eq_true_eq, not_or] at hclear
      have hpresent : e.standing = .present := by
        cases h : e.standing
        · rfl
        · exact absurd h hclear.1
      split
      · next c hc => exact .inr (.inl ⟨e, c, by simp [hrows], hhead, hpresent, hclear.2, hc, rfl⟩)
      · exact .inr (.inr ⟨_, _, rfl⟩)
  · exact .inl rfl

theorem State.shiftEntry0_reserves (s : State) (l : LaneNo) : s.Reserves (s.shiftEntry0 l) := by
  rcases s.shiftEntry0_cases l with e | ⟨e, c, -, -, -, -, -, heq⟩ | ⟨b, i, e⟩
  · rw [e]; exact s.setShiftRecord_reserves _ _
  · rw [heq]; exact (s.reserveShunt_reserves _ _ _).trans (State.setShiftRecord_reserves _ _ _)
  · rw [e]; exact s.shuntFull_reserves _ _ _

/-- A shift step reserves for a PRESENT entry at a mouth, and for no other vehicle. -/
theorem State.shiftEntry0_spares (s : State) (l : LaneNo)
    (hv : s.blockedRowsIn l ≠ [] → ∀ e, (s.lane l).entries.head? = some e → e.standing = .present → e.slot ≠ v) :
    s.Spares v (s.shiftEntry0 l) := by
  rcases s.shiftEntry0_cases l with e | ⟨e, c, hrows, hhead, hpresent, -, -, heq⟩ | ⟨b, i, e⟩
  · rw [e]; exact ⟨by simp, by simp⟩
  · rw [heq]
    have h := s.reserveShunt_spares (hv hrows e hhead hpresent) l c
    exact ⟨by rw [State.setShiftRecord_veh, h.veh], by rw [State.setShiftRecord_footing, h.footing]⟩
  · rw [e]; exact s.shuntFull_spares _ _ _ _

theorem State.shiftEntry0_waitList (s : State) (l : LaneNo) : (s.shiftEntry0 l).waitList = s.waitList := by
  rcases s.shiftEntry0_cases l with e | ⟨e, c, -, -, -, -, -, heq⟩ | ⟨b, i, e⟩
  · rw [e, State.setShiftRecord_waitList]
  · rw [heq]
    simp [State.reserveShunt, State.addAtJoinEnd_eq, State.modVeh_eq]
  · rw [e]
    unfold State.shuntFull
    extract_lets k u
    split <;> simp [u]

theorem State.dropStep_reserves (s : State) (l : LaneNo) : s.Reserves (s.dropStep l) :=
  .of_eq rfl rfl rfl rfl rfl rfl fun _ _ => rfl

theorem State.shiftStep_reserves (s : State) (l : LaneNo) : s.Reserves (s.shiftStep l) := by
  unfold State.shiftStep
  extract_lets a
  split
  · exact s.callAtMouth_reserves l
  · exact (s.callAtMouth_reserves l).trans (State.shiftEntry0_reserves _ _)

theorem State.shiftSteps_reserves (s : State) (fuel : Nat) : s.Reserves (s.shiftSteps fuel) := by
  induction fuel generalizing s with
  | zero => exact .refl s
  | succ fuel ih =>
    unfold State.shiftSteps
    split
    · exact ((s.dropStep_reserves _).trans (State.shiftStep_reserves _ _)).trans (ih _)
    · exact .refl s

/-- A property of states that every shift step keeps is kept by the shift steps of an event. -/
theorem State.shiftSteps_keeps (P : State → Prop) (h0 : P s) (hstep : ∀ t l, P t → P ((t.dropStep l).shiftStep l))
    (fuel : Nat) : P (s.shiftSteps fuel) := by
  induction fuel generalizing s with
  | zero => exact h0
  | succ fuel ih =>
    unfold State.shiftSteps
    split
    · exact ih (hstep _ _ h0)
    · exact h0

theorem State.shiftStep_spares (s : State) (l : LaneNo) (hv : ∀ m, s.presentIn m v = false) : s.Spares v (s.shiftStep l) := by
  unfold State.shiftStep
  extract_lets a
  have ha : s.Spares v a := s.callAtMouth_spares l v
  split
  · exact ha
  · refine ha.trans (State.shiftEntry0_spares _ _ fun _ e he hp heq => ?_)
    have hmem : e ∈ (a.lane l).entries := List.mem_of_mem_head? he
    have : a.presentIn l v = true := by
      simp only [State.presentIn, List.any_eq_true]
      exact ⟨e, hmem, by simp [heq, hp]⟩
    rw [State.presentIn_congr ha.footing, hv] at this
    cases this

/-- A vehicle with no PRESENT entry is left alone by the shift steps of an event. -/
theorem State.shiftSteps_spares (hv : ∀ m, s.presentIn m v = false) (fuel : Nat) : s.Spares v (s.shiftSteps fuel) := by
  refine s.shiftSteps_keeps (fun t => s.Spares v t) (.refl s v) (fun t l ht => ?_) fuel
  have hdrop : s.Spares v (t.dropStep l) := ht.trans ⟨rfl, by simp⟩
  exact hdrop.trans (State.shiftStep_spares _ l fun m => by rw [State.presentIn_congr hdrop.footing, hv])

theorem State.shiftSteps_waitList (s : State) (fuel : Nat) : (s.shiftSteps fuel).waitList = s.waitList := by
  refine s.shiftSteps_keeps (fun t => t.waitList = s.waitList) rfl (fun t l ht => ?_) fuel
  unfold State.shiftStep
  extract_lets a
  have ha : a.waitList = s.waitList := (State.callAtMouth_waitList _ l).trans ht
  split
  · exact ha
  · exact (State.shiftEntry0_waitList _ l).trans ha

end

end Sys2Proof.Machine
end

section
/-! The end of an event (R140, R119): what its shift steps and a PENDING exchange leave of a vehicle, of a row and of the yard. -/

namespace Sys2Proof.Machine

section
variable {s t u : State} {v w : Slot}

/-! ### The entry test and the exchange (R25, R118) -/

/-- `t` differs from `s` in misorder marks alone. -/
structure State.Remarks (s t : State) : Prop where
  core : t = { s with fleet := t.fleet }
  veh : ∀ v, ∃ m, t.veh v = { s.veh v with misorder := m }

theorem State.Remarks.refl (s : State) : s.Remarks s := ⟨rfl, fun _ => ⟨_, rfl⟩⟩

theorem State.Remarks.trans (h : s.Remarks t) (k : t.Remarks u) : s.Remarks u where
  core := by
    have hk := k.core
    rw [h.core] at hk
    exact hk
  veh v := by
    obtain ⟨m, hm⟩ := h.veh v
    obtain ⟨n, hn⟩ := k.veh v
    exact ⟨n, by rw [hn, hm]⟩

theorem State.Remarks.lanes (h : s.Remarks t) : t.lanes = s.lanes := by rw [h.core]
theorem State.Remarks.waitList (h : s.Remarks t) : t.waitList = s.waitList := by rw [h.core]
theorem State.Remarks.stc (h : s.Remarks t) : t.stc = s.stc := by rw [h.core]
theorem State.Remarks.ca (h : s.Remarks t) : t.ca = s.ca := by rw [h.core]
theorem State.Remarks.ds (h : s.Remarks t) : t.ds = s.ds := by rw [h.core]
theorem State.Remarks.blc (h : s.Remarks t) : t.blc = s.blc := by rw [h.core]
theorem State.Remarks.dlp (h : s.Remarks t) : t.dlp = s.dlp := by rw [h.core]
theorem State.Remarks.er (h : s.Remarks t) : t.er = s.er := by rw [h.core]
theorem State.Remarks.lane (h : s.Remarks t) (l : LaneNo) : t.lane l = s.lane l := by simp [State.lane, h.lanes]
theorem State.Remarks.row (h : s.Remarks t) (i : Nat) : t.row i = s.row i := by simp [State.row, h.ds]
theorem State.Remarks.flag (h : s.Remarks t) (f : EventFlag) : t.flag f = s.flag f := by simp [State.flag, h.er]
theorem State.Remarks.footing (h : s.Remarks t) (v : Slot) : t.footing v = s.footing v :=
  State.footing_of_eq h.lanes h.stc h.waitList v

theorem State.testEntry_remarks (s : State) (l : LaneNo) (i : Nat) : s.Remarks (s.testEntry l i) := by
  unfold State.testEntry
  repeat' split
  · exact .refl s
  · exact .refl s
  · refine ⟨rfl, fun x => ?_⟩
    rw [State.modVeh_veh]
    split
    · exact ⟨_, rfl⟩
    · exact ⟨_, rfl⟩

theorem State.testLane_remarks (s : State) (l : LaneNo) : s.Remarks (s.testLane l) :=
  forEach_keeps s.Remarks _ _ s (.refl s) fun _ _ t ht => ht.trans (t.testEntry_remarks _ _)

theorem State.testAllLanes_remarks (s : State) : s.Remarks s.testAllLanes :=
  forEach_keeps s.Remarks _ _ s (.refl s) fun _ _ t ht => ht.trans (t.testLane_remarks _)

/-- The exchange replaces the bank and the bindings, and rewrites misorder marks (R118). -/
structure State.Exchanges (s t : State) : Prop where
  core : t = { s with fleet := t.fleet, ds := t.ds }
  veh : ∀ v, ∃ b m, t.veh v = { s.veh v with boundRow := b, misorder := m }

theorem State.rebuildBindings_core (s : State) :
    s.rebuildBindings = { s with fleet := s.rebuildBindings.fleet }
    ∧ ∀ v, ∃ b, s.rebuildBindings.veh v = { s.veh v with boundRow := b } := by
  refine forEach_keeps (fun t => t = { s with fleet := t.fleet } ∧ ∀ v, ∃ b, t.veh v = { s.veh v with boundRow := b })
    _ _ s ⟨rfl, fun _ => ⟨_, rfl⟩⟩ fun x _ t ht => ⟨?_, fun v => ?_⟩
  · have hcore (F : Vector Vehicle 256) : { t with fleet := F } = { s with fleet := F } := by rw [ht.1]
    exact hcore _
  · obtain ⟨b, hb⟩ := ht.2 v
    rw [State.modVeh_veh]
    split
    · exact ⟨_, by rw [hb]⟩
    · exact ⟨b, hb⟩

/-- Steps 1 and 2 of the exchange: the STANDBY rows are the ACTIVE bank (R118). -/
def State.newBank (s : State) : State :=
  { s with ds := { s.ds with active := s.ds.standby.map s.dropHeld, standby := [] } }

theorem State.exchange_eq (s : State) : s.exchange =
    { s.newBank.rebuildBindings.testAllLanes with
      ds := { s.newBank.rebuildBindings.testAllLanes.ds with swap := .none } } := by
  simp only [State.exchange, State.newBank]

theorem State.exchange_exchanges (s : State) : s.Exchanges s.exchange := by
  obtain ⟨hcore, hveh⟩ := s.newBank.rebuildBindings_core
  have htests := s.newBank.rebuildBindings.testAllLanes_remarks
  rw [State.exchange_eq]
  generalize s.newBank.rebuildBindings = a at *
  generalize a.testAllLanes = b at *
  refine ⟨?_, fun v => ?_⟩
  · rw [htests.core, hcore]; rfl
  · obtain ⟨x, hx⟩ := hveh v
    obtain ⟨m, hm⟩ := htests.veh v
    rw [hx] at hm
    exact ⟨x, m, hm⟩

theorem State.Exchanges.lanes (h : s.Exchanges t) : t.lanes = s.lanes := by rw [h.core]
theorem State.Exchanges.stc (h : s.Exchanges t) : t.stc = s.stc := by rw [h.core]
theorem State.Exchanges.waitList (h : s.Exchanges t) : t.waitList = s.waitList := by rw [h.core]
theorem State.Exchanges.lane (h : s.Exchanges t) (l : LaneNo) : t.lane l = s.lane l := by simp [State.lane, h.lanes]
theorem State.Exchanges.presentIn (h : s.Exchanges t) (l : LaneNo) (v : Slot) : t.presentIn l v = s.presentIn l v := by
  simp [State.presentIn, h.lane]
theorem State.Exchanges.flag (h : s.Exchanges t) (f : EventFlag) : t.flag f = s.flag f := by
  have he : t.er = s.er := by rw [h.core]
  simp [State.flag, he]

theorem State.Exchanges.footing (h : s.Exchanges t) (v : Slot) : t.footing v = s.footing v :=
  State.footing_of_eq (by rw [h.core]) (by rw [h.core]) (by rw [h.core]) v

/-! ### The end of an event -/

/-- With no exchange due, an event ends with its shift steps. -/
theorem State.settle_shiftSteps (h : ¬ (s.ds.swap = .pending ∧ s.anyCalled = false)) : s.settle = s.shiftSteps stepFuel := by
  have hr := s.shiftSteps_reserves stepFuel
  rw [State.settle, State.exchangeIfDue, if_neg]
  simpa [hr.swap, hr.anyCalled] using h

theorem State.settle_cases (s : State) : s.settle = s.shiftSteps stepFuel
    ∨ s.ds.swap = .pending ∧ s.anyCalled = false ∧ s.settle = (s.shiftSteps stepFuel).exchange := by
  by_cases h : s.ds.swap = .pending ∧ s.anyCalled = false
  · refine .inr ⟨h.1, h.2, ?_⟩
    have hr := s.shiftSteps_reserves stepFuel
    rw [State.settle, State.exchangeIfDue, if_pos]
    simp [hr.swap, hr.anyCalled, h]
  · exact .inl (State.settle_shiftSteps h)

theorem State.settle_reserves (h : ¬ (s.ds.swap = .pending ∧ s.anyCalled = false)) : s.Reserves s.settle := by
  rw [State.settle_shiftSteps h]
  exact s.shiftSteps_reserves _

/-- What the end of an event leaves of lanes, tickets and wait list, exchange or not. -/
theorem State.settle_stc (s : State) : s.settle.stc = s.stc := by
  have hr := s.shiftSteps_reserves stepFuel
  rcases s.settle_cases with e | ⟨-, -, e⟩ <;> rw [e]
  · exact hr.stc
  · exact ((State.exchange_exchanges _).stc).trans hr.stc

theorem State.settle_waitList (s : State) : s.settle.waitList = s.waitList := by
  have hr := s.shiftSteps_waitList stepFuel
  rcases s.settle_cases with e | ⟨-, -, e⟩ <;> rw [e]
  · exact hr
  · exact ((State.exchange_exchanges _).waitList).trans hr

theorem State.settle_flag (s : State) {f : EventFlag} (hf : f ∉ placingFlags) : s.settle.flag f = s.flag f := by
  have hr := (s.shiftSteps_reserves stepFuel).flag f hf
  rcases s.settle_cases with e | ⟨-, -, e⟩ <;> rw [e]
  · exact hr
  · exact ((State.exchange_exchanges _).flag _).trans hr

theorem State.settle_presentIn (s : State) (l : LaneNo) (v : Slot) : s.settle.presentIn l v = s.presentIn l v := by
  have hr := (s.shiftSteps_reserves stepFuel).presentIn l v
  rcases s.settle_cases with e | ⟨-, -, e⟩ <;> rw [e]
  · exact hr
  · exact ((State.exchange_exchanges _).presentIn _ _).trans hr

theorem State.settle_presentLane (s : State) (v : Slot) : s.settle.presentLane v = s.presentLane v := by
  simp [State.presentLane, State.settle_presentIn]

/-- A vehicle with no PRESENT entry keeps its footing, and its record but for what an exchange writes. -/
theorem State.settle_idle (hv : ∀ m, s.presentIn m v = false) :
    s.settle.footing v = s.footing v ∧ ∃ b m, s.settle.veh v = { s.veh v with boundRow := b, misorder := m } := by
  have hs := s.shiftSteps_spares hv stepFuel
  rcases s.settle_cases with e | ⟨-, -, e⟩ <;> rw [e]
  · exact ⟨hs.footing, _, _, hs.veh⟩
  · have hx := (s.shiftSteps stepFuel).exchange_exchanges
    obtain ⟨b, m, hm⟩ := hx.veh v
    exact ⟨(hx.footing v).trans hs.footing, b, m, by rw [hm, hs.veh]⟩

theorem State.settle_spares (hv : ∀ m, s.presentIn m v = false) (h : ¬ (s.ds.swap = .pending ∧ s.anyCalled = false)) :
    s.Spares v s.settle := by
  rw [State.settle_shiftSteps h]
  exact s.shiftSteps_spares hv _

/-! ### Any vehicle under the shift steps -/

/-- A shift step leaves a vehicle's record, or makes the vehicle a shifted blocker. -/
def Vehicle.mayShift (r r' : Vehicle) : Prop :=
  r' = r ∨ ∃ loc, r' = { r with shift := true, state := .toBerth, location := loc }

theorem Vehicle.mayShift.trans {a b c : Vehicle} (h : a.mayShift b) (k : b.mayShift c) : a.mayShift c := by
  rcases h with rfl | ⟨p, rfl⟩
  · exact k
  · rcases k with rfl | ⟨q, rfl⟩
    · exact .inr ⟨p, rfl⟩
    · exact .inr ⟨q, rfl⟩

theorem State.shiftStep_mayShift (s : State) (l : LaneNo) (v : Slot) : (s.veh v).mayShift ((s.shiftStep l).veh v) := by
  unfold State.shiftStep
  extract_lets a
  have ha : a.veh v = s.veh v := (s.callAtMouth_spares l v).veh
  split
  · exact .inl ha
  · rw [← ha]
    rcases a.shiftEntry0_cases l with e | ⟨e, c, -, -, -, -, -, heq⟩ | ⟨b, i, e⟩
    · rw [e]; exact .inl (State.setShiftRecord_veh _ _ _ _)
    · rw [heq, State.setShiftRecord_veh]
      by_cases hb : e.slot = v
      · refine .inr ⟨.lane l .present (some c.lane), ?_⟩
        simp [State.reserveShunt, hb, State.addAtJoinEnd_eq]
      · exact .inl (a.reserveShunt_spares hb _ _).veh
    · rw [e]; exact .inl (a.shuntFull_spares _ _ _ _).veh

theorem State.shiftSteps_mayShift (s : State) (fuel : Nat) (v : Slot) :
    (s.veh v).mayShift ((s.shiftSteps fuel).veh v) :=
  s.shiftSteps_keeps (fun t => (s.veh v).mayShift (t.veh v)) (.inl rfl)
    (fun t l ht => ht.trans ((t.dropStep l).shiftStep_mayShift l v)) fuel

/-! ### With no call blocked -/

/-- With no call BLOCKED, a shift step changes its lane's shift record at most. -/
theorem State.NoneBlocked.shiftStep (h : s.NoneBlocked) (l : LaneNo) :
    s.shiftStep l = s ∨ ∃ r, s.shiftStep l = s.setShiftRecord l r := by
  have hrow (x : Slot) : s.blockedRowOf x = none := by
    rw [Option.eq_none_iff_forall_ne_some]
    intro i hi
    obtain ⟨-, r, hr, hc, hb⟩ := State.blockedRowOf_eq_some.mp hi
    exact h r (List.mem_of_getElem? hr) ⟨hc, hb⟩
  have hcall : s.callAtMouth l = s := by
    rcases s.callAtMouth_cases l with e | ⟨e, i, r, -, -, hi, -⟩
    · exact e
    · rw [hrow] at hi; cases hi
  have hrows : s.blockedRowsIn l = [] := by simp [State.blockedRowsIn, hrow]
  unfold State.shiftStep
  extract_lets a
  have ha : a = s := hcall
  rw [ha]
  split
  · exact .inl rfl
  · refine .inr ⟨.idle, ?_⟩
    simp [State.shiftEntry0, hrows]

/-- With no call BLOCKED and no exchange due, the end of an event changes shift records at most. -/
theorem State.NoneBlocked.settle (h : s.NoneBlocked) (hx : ¬ (s.ds.swap = .pending ∧ s.anyCalled = false)) :
    ∃ d, s.settle = { s with ds := d } ∧ d.active = s.ds.active ∧ d.standby = s.ds.standby ∧ d.swap = s.ds.swap := by
  rw [State.settle_shiftSteps hx]
  refine s.shiftSteps_keeps (fun t => ∃ d, t = { s with ds := d } ∧ d.active = s.ds.active ∧ d.standby = s.ds.standby
    ∧ d.swap = s.ds.swap) ⟨s.ds, rfl, rfl, rfl, rfl⟩ ?_ _
  rintro _ l ⟨d, rfl, ha, hb, hc⟩
  have hn : (State.dropStep { s with ds := d } l).NoneBlocked := by
    intro r hr
    exact h r (by rw [← ha]; exact hr)
  rcases hn.shiftStep l with e | ⟨r, e⟩ <;> rw [e]
  · exact ⟨_, rfl, ha, hb, hc⟩
  · exact ⟨_, rfl, ha, hb, hc⟩

end

end Sys2Proof.Machine
end

section
/-! Ticket choices (R66 to R68) and withdrawal (R10, R27): what they do to a vehicle, and what they leave of the plan, of the
flags, and of the lane that a vehicle keeps. -/

namespace Sys2Proof.Machine

section
variable {s t u : State} {v w : Slot}

/-! ### Ticket choices (R66 to R68) -/

theorem State.bestLifted_mem {q : List Ticket} {t : Ticket} (h : s.bestLifted q = some t) : t ∈ q := by
  suffices ∀ (l : List Ticket) (best : Option Ticket),
      l.foldl (fun best t => match best with
        | none => some t
        | some b => if s.key t.slot < s.key b.slot then some t else some b) best = some t → t ∈ l ∨ best = some t by
    rcases this _ none h with h' | h'
    · exact List.mem_of_mem_filter h'
    · cases h'
  intro l
  induction l with
  | nil => exact fun best hb => .inr hb
  | cons x rest ih =>
    intro best hb
    rw [List.foldl_cons] at hb
    rcases ih _ hb with h' | h'
    · exact .inl (List.mem_cons_of_mem _ h')
    · cases best with
      | none => exact .inl (by simp at h'; simp [h'])
      | some b =>
        simp only at h'
        split at h'
        · exact .inl (by simp at h'; simp [h'])
        · exact .inr h'

/-- A choice takes a ticket of the queue. -/
theorem State.chosen_mem {q : List Ticket} {t : Ticket} (h : s.chosen q = some t) : t ∈ q := by
  unfold State.chosen at h
  cases hb : s.bestLifted q with
  | none =>
    rw [hb] at h
    exact List.mem_of_mem_head? h
  | some x =>
    rw [hb] at h
    obtain rfl : x = t := by simpa using h
    exact State.bestLifted_mem hb

/-- A ticket choice calls a ticket of the bay's queue to a FREE bay, or does nothing. -/
theorem State.choose_cases (s : State) (b : BayNo) : s.choose b = s
    ∨ ∃ t ∈ s.queue (s.bay b).cfg.kind, (s.bay b).state = .free ∧ s.choose b = s.callToBay b t := by
  unfold State.choose
  split
  · next he =>
    split
    · next t ht =>
      simp only [State.eligible, Bool.and_eq_true, decide_eq_true_eq] at he
      exact .inr ⟨t, State.chosen_mem ht, he.1, rfl⟩
    · exact .inl rfl
  · exact .inl rfl

theorem State.setQueue_footing (s : State) (k : QueueKind) (q : List Ticket) : (s.setQueue k q).footing v =
    { s.footing v with
      tickets := fun j => if k = j then q.filter (fun t => t.slot = v) else (s.footing v).tickets j } := by
  ext1
  · simp [State.footing]
  · funext j
    simp only [State.footing, State.setQueue_queue]
    split <;> rfl
  · simp [State.footing]
  · simp [State.footing]

theorem State.modBay_footing (s : State) (b : BayNo) (f : Bay → Bay) : (s.modBay b f).footing v =
    { s.footing v with
      bays := fun c => if b = c then (f (s.bay b)).ticket.filter (fun t => t.slot = v) else (s.footing v).bays c } := by
  ext1
  · simp [State.footing, State.modBay_eq]
  · simp [State.footing, State.modBay_eq]
  · funext c
    simp only [State.footing, State.modBay_bay]
    split
    · next h => rw [h]
    · rfl
  · simp [State.footing, State.modBay_eq]

theorem State.dequeue_footing (s : State) (k : QueueKind) (x : Slot) : (s.dequeue k x).footing v =
    { s.footing v with
      tickets := fun j => if k = j ∧ x = v then [] else (s.footing v).tickets j } := by
  rw [State.dequeue, State.setQueue_footing]
  ext1 <;> try rfl
  funext j
  by_cases hx : x = v
  · subst hx
    by_cases hk : k = j <;> simp [hk]
  · by_cases hk : k = j
    · subst hk
      simp only [hx, if_true, and_false, if_false, List.filter_filter, State.footing]
      congr 1
      funext t
      by_cases ht : t.slot = v <;> simp [ht, Ne.symm hx]
    · simp [hk]

theorem State.dequeue_spares (s : State) (k : QueueKind) (h : w ≠ v) : s.Spares v (s.dequeue k w) := by
  refine ⟨by simp [State.dequeue], ?_⟩
  rw [State.dequeue_footing]
  ext1 <;> simp [h]

theorem State.callToBay_spares (s : State) (b : BayNo) {x : Ticket} (hx : x.slot ≠ v)
    (hb : (s.footing v).bays b = none) : s.Spares v (s.callToBay b x) := by
  have hd := s.dequeue_spares x.kind hx
  unfold State.callToBay
  extract_lets a c d
  have hc : s.Spares v c := by
    refine hd.trans ⟨by simp [c, a, State.modBay_eq], ?_⟩
    rw [State.modBay_footing]
    ext1 <;> try rfl
    funext e
    by_cases he : b = e
    · subst he
      have hnone : (a.footing v).bays b = none := by rw [hd.footing]; exact hb
      simp only [if_true]
      rw [hnone, Option.filter_some, if_neg (by simpa using hx)]
    · simp [he, a]
  exact hc.trans ⟨by simp [d, hx], by simp [d]⟩

/-- A choice at a bay passes over a vehicle with no ticket. -/
theorem State.choose_spares (s : State) (b : BayNo) (hq : (s.footing v).tickets (s.bay b).cfg.kind = [])
    (hb : (s.footing v).bays b = none) : s.Spares v (s.choose b) := by
  rcases s.choose_cases b with e | ⟨x, hx, -, e⟩ <;> rw [e]
  · exact .refl s v
  · refine s.callToBay_spares b (fun h => ?_) hb
    have : x ∈ (s.footing v).tickets (s.bay b).cfg.kind := by
      simp [State.footing, hx, h]
    rw [hq] at this
    cases this

/-- What a ticket choice leaves: the lanes, the wait list, the plan, the depot link and the flags of the yard. -/
theorem State.choose_frame (s : State) (b : BayNo) : (s.choose b).lanes = s.lanes ∧ (s.choose b).waitList = s.waitList
    ∧ (s.choose b).ds = s.ds ∧ (s.choose b).dlp = s.dlp ∧ (s.choose b).ca = s.ca
    ∧ ∀ f, f ≠ .directiveDrop → (s.choose b).flag f = s.flag f := by
  rcases s.choose_cases b with e | ⟨x, -, -, e⟩ <;> rw [e]
  · exact ⟨rfl, rfl, rfl, rfl, rfl, fun _ _ => rfl⟩
  · have hd : (s.callToBay b x).ca = s.ca := by
      unfold State.callToBay
      extract_lets a c d
      have : d.ca = s.ca := by simp [d, c, a, State.dequeue, State.modVeh_eq, State.modBay_eq]
      rcases d.direct_cases (d.bay b).cfg.display .sign (signPayload (d.veh x.slot).tag (.bay b)) with ⟨-, e⟩ | ⟨_, -, e⟩
        <;> rw [e] <;> simp [this]
    have hf : ∀ f, f ≠ .directiveDrop → (s.callToBay b x).flag f = s.flag f := by
      intro f hf
      unfold State.callToBay
      extract_lets a c d
      rw [State.direct_flag _ _ _ _ hf]
      simp [State.flag, d, c, a, State.dequeue, State.modVeh_eq, State.modBay_eq]
    refine ⟨?_, ?_, ?_, ?_, hd, hf⟩ <;>
      simp [State.callToBay, State.dequeue, State.modVeh_eq, State.modBay_eq]

/-! ### Removal of entries (R27) -/

theorem State.clearMarksAfter_footing (s : State) (x : Slot) (st : Standing) :
    (s.clearMarksAfter x st).footing v = s.footing v := by
  unfold State.clearMarksAfter
  extract_lets a
  have ha : a.footing v = s.footing v := by unfold a; split <;> simp
  split
  · exact ha
  · rw [State.modVeh_footing]; exact ha

/-- `t` differs from `s` in the shift and misorder marks of one vehicle alone. -/
structure State.ClearsMarks (s : State) (x : Slot) (t : State) : Prop where
  core : t = { s with fleet := t.fleet }
  veh : ∃ a m, t.veh x = { s.veh x with shift := a, misorder := m }
  others : ∀ v, x ≠ v → t.veh v = s.veh v

theorem State.clearMarksAfter_spec (s : State) (x : Slot) (st : Standing) : s.ClearsMarks x (s.clearMarksAfter x st) := by
  unfold State.clearMarksAfter
  extract_lets a
  have ha : s.ClearsMarks x a := by
    unfold a
    split
    · exact ⟨rfl, ⟨false, (s.veh x).misorder, by simp⟩, fun v hv => by simp [hv]⟩
    · exact ⟨rfl, ⟨_, _, rfl⟩, fun _ _ => rfl⟩
  split
  · exact ha
  · obtain ⟨hcore, ⟨p, q, hpq⟩, hothers⟩ := ha
    refine ⟨?_, ⟨p, false, by simp [hpq]⟩, fun v hv => by simp [hv, hothers v hv]⟩
    have h (F : Vector Vehicle 256) : { a with fleet := F } = { s with fleet := F } := by rw [hcore]
    exact h _

theorem State.ClearsMarks.lane {x : Slot} (h : s.ClearsMarks x t) (l : LaneNo) : t.lane l = s.lane l := by
  have hl : t.lanes = s.lanes := by rw [h.core]
  simp [State.lane, hl]

theorem State.removeEntry_none (s : State) {l : LaneNo} {x : Slot} (h : s.entry l x = none) : s.removeEntry l x = s := by
  simp [State.removeEntry, h]

/-- The lane of a removal: the entry goes, and the window front follows (R24, R27). -/
theorem State.removeEntry_lane (s : State) {l : LaneNo} {x : Slot} {e : Entry} (h : s.entry l x = some e) (m : LaneNo) :
    (s.removeEntry l x).lane m = if l = m then
      { s.lane l with
        entries := (s.lane l).entries.filter fun e => e.slot ≠ x
        front := frontAfter (s.lane l) (s.entryIndex l x = 0 && e.standing = .present) (s.units x)
          ((s.lane l).entries.filter fun e => e.slot ≠ x) }
      else s.lane m := by
  unfold State.removeEntry
  rw [h]
  dsimp only
  rw [(State.clearMarksAfter_spec _ _ _).lane, State.writeEntries_lane]
  by_cases hm : l = m
  · simp [hm]
  · simp [hm]

theorem State.removeEntry_footing (s : State) (l : LaneNo) (x : Slot) : (s.removeEntry l x).footing v =
    { s.footing v with
      entries := fun m => if l = m ∧ x = v then [] else (s.footing v).entries m } := by
  unfold State.removeEntry
  split
  · next h =>
    ext1 <;> try rfl
    funext m
    show _ = if l = m ∧ x = v then [] else (s.footing v).entries m
    split
    · next hm =>
      obtain ⟨rfl, rfl⟩ := hm
      exact (State.entries_eq_nil_iff l).mpr h
    · rfl
  · rw [State.clearMarksAfter_footing, State.writeEntries_footing, State.modLane_footing]
    ext1 <;> try rfl
    funext m
    by_cases hm : l = m
    · subst hm
      by_cases hx : x = v
      · subst hx; simp
      · simp only [hx, if_true, and_false, if_false, List.filter_filter, State.footing]
        congr 1
        funext e
        by_cases he : e.slot = v <;> simp [he, Ne.symm hx]
    · simp [hm]

theorem State.removeEntry_spares (s : State) (l : LaneNo) (h : w ≠ v) : s.Spares v (s.removeEntry l w) := by
  refine ⟨?_, ?_⟩
  · unfold State.removeEntry
    split
    · rfl
    · rw [(State.clearMarksAfter_spec _ _ _).others v h]
      simp [State.modLane_eq]
  · rw [State.removeEntry_footing]
    ext1 <;> simp [h]

/-- What a removal leaves, beside its lane and its vehicle's marks. -/
structure State.Leaves (s t : State) (x : Slot) : Prop where
  waitList : t.waitList = s.waitList
  stc : t.stc = s.stc
  active : t.ds.active = s.ds.active
  standby : t.ds.standby = s.ds.standby
  swap : t.ds.swap = s.ds.swap
  shifts : t.ds.shifts = s.ds.shifts
  dlp : t.dlp = s.dlp
  ycs : t.ycs = s.ycs
  ss : t.ss = s.ss
  flag : ∀ f, f ≠ .directiveDrop → t.flag f = s.flag f
  veh : ∃ a m, t.veh x = { s.veh x with shift := a, misorder := m }

theorem State.Leaves.refl (s : State) (x : Slot) : s.Leaves s x :=
  ⟨rfl, rfl, rfl, rfl, rfl, rfl, rfl, rfl, rfl, fun _ _ => rfl, _, _, rfl⟩

theorem State.Leaves.trans {x : Slot} (h : s.Leaves t x) (k : t.Leaves u x) : s.Leaves u x where
  waitList := k.waitList.trans h.waitList
  stc := k.stc.trans h.stc
  active := k.active.trans h.active
  standby := k.standby.trans h.standby
  swap := k.swap.trans h.swap
  shifts := k.shifts.trans h.shifts
  dlp := k.dlp.trans h.dlp
  ycs := k.ycs.trans h.ycs
  ss := k.ss.trans h.ss
  flag f hf := (k.flag f hf).trans (h.flag f hf)
  veh := by
    obtain ⟨a, m, e⟩ := h.veh
    obtain ⟨b, n, e'⟩ := k.veh
    exact ⟨b, n, by rw [e', e]⟩

@[simp] theorem State.oweStep_shifts (s : State) (l : LaneNo) : (s.oweStep l).ds.shifts = s.ds.shifts := by
  unfold State.oweStep; split <;> rfl

theorem State.removeEntry_leaves (s : State) (l : LaneNo) (x : Slot) : s.Leaves (s.removeEntry l x) x := by
  unfold State.removeEntry
  split
  · exact .refl s x
  · next e he =>
    extract_lets lane rest atMouth
    generalize ha : (s.modLane l fun r => { r with front := frontAfter lane atMouth (s.units x) rest }) = a
    have h0 : a = { s with lanes := a.lanes } := by rw [← ha]; rfl
    have h1 : s.Leaves (a.writeEntries l rest) x := by
      refine ⟨?_, ?_, ?_, ?_, ?_, ?_, ?_, ?_, ?_, fun f hf => ?_, (s.veh x).shift, (s.veh x).misorder, ?_⟩
      any_goals (simp only [State.writeEntries_waitList, State.writeEntries_stc, State.writeEntries_ds, State.writeEntries_dlp,
        State.writeEntries_ycs, State.writeEntries_ss, State.oweStep_active, State.oweStep_standby, State.oweStep_swap,
        State.oweStep_shifts]; rw [h0])
      · rw [State.writeEntries_flag _ _ _ hf, h0]; rfl
      · rw [State.writeEntries_veh, h0]; rfl
    obtain ⟨hcore, hveh, -⟩ := State.clearMarksAfter_spec (a.writeEntries l rest) x e.standing
    refine h1.trans ⟨?_, ?_, ?_, ?_, ?_, ?_, ?_, ?_, ?_, fun f _ => ?_, hveh⟩
    any_goals rw [hcore]
    rw [State.flag, State.flag, hcore]

/-! ### Withdrawal (R10) -/

theorem State.removeEntries_footing (s : State) (x : Slot) (keep : Option LaneNo) :
    (s.removeEntries x keep).footing x =
      { s.footing x with entries := fun m => if keep = some m then (s.footing x).entries m else [] } := by
  have h : ∀ (ls : List LaneNo) (t : State),
      (forEach ls (fun l s => if keep = some l then s else s.removeEntry l x) t).footing x =
        { t.footing x with
          entries := fun m => if m ∈ ls ∧ keep ≠ some m then [] else (t.footing x).entries m } := by
    intro ls
    induction ls with
    | nil => intro t; simp
    | cons l rest ih =>
      intro t
      rw [forEach_cons, ih]
      by_cases hk : keep = some l
      · rw [if_pos hk]
        ext1 <;> try rfl
        funext m
        by_cases hm : m = l
        · subst hm; simp [hk]
        · simp [hm]
      · rw [if_neg hk, State.removeEntry_footing]
        ext1 <;> try rfl
        funext m
        by_cases hm : l = m
        · subst hm; simp [hk]
        · simp [hm, Ne.symm hm]
  rw [State.removeEntries, h]
  ext1 <;> try rfl
  funext m
  simp [mem_upTo]

theorem State.removeEntries_leaves (s : State) (x : Slot) (keep : Option LaneNo) : s.Leaves (s.removeEntries x keep) x :=
  forEach_keeps (fun t => s.Leaves t x) _ _ s (.refl s x) fun l _ t ht => by
    split
    · exact ht
    · exact ht.trans (t.removeEntry_leaves l x)

/-- The lane that a withdrawn vehicle is to keep is left alone. -/
theorem State.removeEntries_keep (s : State) (x : Slot) (l : LaneNo) :
    (s.removeEntries x (some l)).lane l = s.lane l :=
  forEach_keeps (fun t => t.lane l = s.lane l) _ _ s rfl fun m _ t ht => by
    split
    · exact ht
    · next hm =>
      cases he : t.entry m x with
      | none => rw [State.removeEntry_none _ he]; exact ht
      | some e => rw [State.removeEntry_lane _ he, if_neg (by rintro rfl; exact hm rfl)]; exact ht

theorem State.withdrawFromBay_footing (s : State) (b : BayNo) (x : Slot) (hq : ∀ k, (s.footing x).tickets k = []) :
    (s.withdrawFromBay b x).veh x = s.veh x ∧ (s.withdrawFromBay b x).footing x =
      { s.footing x with bays := fun c => if b = c then none else (s.footing x).bays c } := by
  unfold State.withdrawFromBay
  have hr : (s.releaseBay b .free).footing x =
      { s.footing x with bays := fun c => if b = c then none else (s.footing x).bays c } := by
    rw [State.releaseBay, State.modBay_footing]
    rfl
  split
  · have hs := (s.releaseBay b .free).choose_spares (v := x) b (by rw [hr]; exact hq _) (by rw [hr]; simp)
    exact ⟨hs.veh, hs.footing.trans hr⟩
  · next hb =>
    refine ⟨rfl, ?_⟩
    ext1 <;> try rfl
    funext c
    show _ = if b = c then none else (s.footing x).bays c
    split
    · next hc =>
      subst hc
      rw [State.bayHolds_eq_footing] at hb
      simpa using hb
    · rfl

theorem State.withdrawTicket_footing (s : State) (x : Slot) :
    (s.withdrawTicket x).veh x = s.veh x
    ∧ (s.withdrawTicket x).footing x = { s.footing x with tickets := fun _ => [], bays := fun _ => none } := by
  have h : ∀ (bs : List BayNo) (t : State), (∀ k, (t.footing x).tickets k = []) →
      (forEach bs (fun b s => s.withdrawFromBay b x) t).veh x = t.veh x
      ∧ (forEach bs (fun b s => s.withdrawFromBay b x) t).footing x =
        { t.footing x with bays := fun c => if c ∈ bs then none else (t.footing x).bays c } := by
    intro bs
    induction bs with
    | nil => intro t _; simp
    | cons b rest ih =>
      intro t hq
      obtain ⟨hv, hf⟩ := t.withdrawFromBay_footing b x hq
      obtain ⟨hv', hf'⟩ := ih (t.withdrawFromBay b x) (by rw [hf]; exact hq)
      rw [forEach_cons]
      refine ⟨hv'.trans hv, ?_⟩
      rw [hf', hf]
      ext1 <;> try rfl
      funext c
      by_cases hc : c = b
      · subst hc; simp
      · simp [hc, Ne.symm hc]
  have hd : (((s.dequeue .fuel x).dequeue .wash x).footing x) = { s.footing x with tickets := fun _ => [] } := by
    rw [State.dequeue_footing, State.dequeue_footing]
    ext1 <;> try rfl
    funext k
    cases k <;> simp
  obtain ⟨hv, hf⟩ := h (upTo 6) ((s.dequeue .fuel x).dequeue .wash x) (by rw [hd]; exact fun _ => rfl)
  refine ⟨hv.trans (by simp [State.dequeue]), ?_⟩
  rw [State.withdrawTicket, hf, hd]
  ext1 <;> try rfl
  funext c
  simp [mem_upTo]

/-- What the withdrawal of a ticket leaves. -/
theorem State.withdrawTicket_frame (s : State) (x : Slot) : (s.withdrawTicket x).lanes = s.lanes
    ∧ (s.withdrawTicket x).waitList = s.waitList ∧ (s.withdrawTicket x).ds = s.ds ∧ (s.withdrawTicket x).dlp = s.dlp
    ∧ ∀ f, f ≠ .directiveDrop → (s.withdrawTicket x).flag f = s.flag f := by
  refine forEach_keeps (fun t => t.lanes = s.lanes ∧ t.waitList = s.waitList ∧ t.ds = s.ds ∧ t.dlp = s.dlp
    ∧ ∀ f, f ≠ .directiveDrop → t.flag f = s.flag f) _ _ _ ?_ fun b _ t ht => ?_
  · exact ⟨by simp [State.dequeue], by simp [State.dequeue], by simp [State.dequeue], by simp [State.dequeue],
      fun f _ => by simp [State.dequeue, State.flag]⟩
  · obtain ⟨hl, hw, hd, hp, hf⟩ := ht
    unfold State.withdrawFromBay
    split
    · obtain ⟨hl', hw', hd', hp', -, hf'⟩ := (t.releaseBay b .free).choose_frame b
      exact ⟨hl'.trans hl, hw'.trans hw, hd'.trans hd, hp'.trans hp, fun f hn => (hf' f hn).trans (hf f hn)⟩
    · exact ⟨hl, hw, hd, hp, hf⟩

/-- The withdrawal before its retry. -/
def State.pulled (s : State) (x : Slot) (keep : Option LaneNo) : State :=
  (((s.removeEntries x keep).withdrawTicket x).leaveWaitList x).modVeh x fun r => { r with misorder := false, shift := false }

theorem State.withdraw_eq (s : State) (x : Slot) (keep : Option LaneNo) :
    s.withdraw x keep = s.pulled x keep ∨ s.withdraw x keep = (s.pulled x keep).retry := by
  unfold State.withdraw
  extract_lets held t
  split
  · exact .inr rfl
  · exact .inl rfl

/-- The footing that a withdrawal leaves a vehicle: its entry in the lane that it keeps. -/
def Footing.only (f : Footing) (keep : Option LaneNo) : Footing :=
  { Footing.none with entries := fun m => if keep = some m then f.entries m else [] }

/-- The last two steps of a withdrawal touch the wait list and the vehicle's marks alone. -/
theorem State.pulled_core (s : State) (x : Slot) (keep : Option LaneNo) : s.pulled x keep =
    { (s.removeEntries x keep).withdrawTicket x with
      waitList := ((s.removeEntries x keep).withdrawTicket x).waitList.filter fun w => w.slot ≠ x
      fleet := (s.pulled x keep).fleet } := by
  unfold State.pulled
  generalize (s.removeEntries x keep).withdrawTicket x = a
  rfl

theorem State.pulled_lanes (s : State) (x : Slot) (keep : Option LaneNo) :
    (s.pulled x keep).lanes = (s.removeEntries x keep).lanes := by
  have h := ((s.removeEntries x keep).withdrawTicket_frame x).1
  rw [State.pulled_core]
  generalize (s.pulled x keep).fleet = F
  generalize (s.removeEntries x keep).withdrawTicket x = b at *
  exact h

theorem State.pulled_footing (s : State) (x : Slot) (keep : Option LaneNo) :
    (s.pulled x keep).footing x = (s.footing x).only keep := by
  rw [State.pulled, State.modVeh_footing, State.leaveWaitList_footing, (State.withdrawTicket_footing _ x).2,
    State.removeEntries_footing]
  rfl

theorem State.pulled_veh (s : State) (x : Slot) (keep : Option LaneNo) :
    (s.pulled x keep).veh x = { s.veh x with misorder := false, shift := false } := by
  obtain ⟨a, m, h⟩ := (s.removeEntries_leaves x keep).veh
  have hv := (State.withdrawTicket_footing (s.removeEntries x keep) x).1
  rw [h] at hv
  unfold State.pulled
  generalize (s.removeEntries x keep).withdrawTicket x = b at *
  rw [State.modVeh_veh, if_pos rfl]
  have hb : (b.leaveWaitList x).veh x = b.veh x := rfl
  rw [hb, hv]

theorem State.pulled_notWaiting (s : State) (x : Slot) (keep : Option LaneNo) :
    ∀ w ∈ (s.pulled x keep).waitList, w.slot ≠ x := by
  rw [← State.waits_eq_nil_iff, State.pulled_footing]
  rfl

theorem State.withdraw_spares_self (s : State) (x : Slot) (keep : Option LaneNo) :
    (s.pulled x keep).Spares x (s.withdraw x keep) := by
  rcases s.withdraw_eq x keep with e | e <;> rw [e]
  · exact .refl _ x
  · exact State.retry_spares (s.pulled_notWaiting x keep)

/-- A withdrawn vehicle stands in the lane that it keeps, and nowhere else (R10). -/
theorem State.withdraw_footing (s : State) (x : Slot) (keep : Option LaneNo) :
    (s.withdraw x keep).footing x = (s.footing x).only keep :=
  (s.withdraw_spares_self x keep).footing.trans (s.pulled_footing x keep)

theorem State.withdraw_veh (s : State) (x : Slot) (keep : Option LaneNo) :
    (s.withdraw x keep).veh x = { s.veh x with misorder := false, shift := false } :=
  (s.withdraw_spares_self x keep).veh.trans (s.pulled_veh x keep)

/-- What a withdrawal leaves of the plan and of the flags. -/
theorem State.pulled_frame (s : State) (x : Slot) (keep : Option LaneNo) :
    (s.pulled x keep).ds.active = s.ds.active ∧ (s.pulled x keep).ds.standby = s.ds.standby
    ∧ (s.pulled x keep).ds.swap = s.ds.swap ∧ (s.pulled x keep).dlp = s.dlp
    ∧ (s.pulled x keep).waitList.Sublist s.waitList
    ∧ ∀ f, f ≠ .directiveDrop → (s.pulled x keep).flag f = s.flag f := by
  have hr := s.removeEntries_leaves x keep
  obtain ⟨-, hw, hd, hp, hf⟩ := (s.removeEntries x keep).withdrawTicket_frame x
  rw [State.pulled_core]
  generalize (s.pulled x keep).fleet = F
  generalize (s.removeEntries x keep).withdrawTicket x = b at *
  refine ⟨?_, ?_, ?_, hp.trans hr.dlp, ?_, fun f hn => (hf f hn).trans (hr.flag f hn)⟩
  · exact (congrArg Ds.active hd).trans hr.active
  · exact (congrArg Ds.standby hd).trans hr.standby
  · exact (congrArg Ds.swap hd).trans hr.swap
  · rw [← hr.waitList, ← hw]
    exact List.filter_sublist

theorem State.withdraw_active (s : State) (x : Slot) (keep : Option LaneNo) :
    (s.withdraw x keep).ds.active = s.ds.active := by
  have h := (s.pulled_frame x keep).1
  rcases s.withdraw_eq x keep with e | e <;> rw [e]
  · exact h
  · rw [State.retry_active]; exact h

theorem State.withdraw_row (s : State) (x : Slot) (keep : Option LaneNo) (i : Nat) :
    (s.withdraw x keep).row i = s.row i := by simp [State.row, State.withdraw_active]

theorem State.withdraw_standby (s : State) (x : Slot) (keep : Option LaneNo) :
    (s.withdraw x keep).ds.standby = s.ds.standby := by
  have h := (s.pulled_frame x keep).2.1
  rcases s.withdraw_eq x keep with e | e <;> rw [e]
  · exact h
  · rw [(State.retry_reserves _).standby]; exact h

theorem State.withdraw_swap (s : State) (x : Slot) (keep : Option LaneNo) : (s.withdraw x keep).ds.swap = s.ds.swap := by
  have h := (s.pulled_frame x keep).2.2.1
  rcases s.withdraw_eq x keep with e | e <;> rw [e]
  · exact h
  · rw [(State.retry_reserves _).swap]; exact h

theorem State.withdraw_flag (s : State) (x : Slot) (keep : Option LaneNo) {f : EventFlag} (hf : f ∉ placingFlags) :
    (s.withdraw x keep).flag f = s.flag f := by
  have h := (s.pulled_frame x keep).2.2.2.2.2 f (by rintro rfl; simp [placingFlags] at hf)
  rcases s.withdraw_eq x keep with e | e <;> rw [e]
  · exact h
  · rw [(State.retry_reserves _).flag f hf]; exact h

/-- With nobody in the wait list a withdrawal makes no notice. -/
theorem State.withdraw_of_nil (s : State) (x : Slot) (keep : Option LaneNo) (h : s.waitList = []) :
    s.withdraw x keep = s.pulled x keep := by
  have hp : (s.pulled x keep).waitList = [] := by
    have := (s.pulled_frame x keep).2.2.2.2.1
    rw [h] at this
    exact List.eq_nil_of_sublist_nil this
  rcases s.withdraw_eq x keep with e | e
  · exact e
  · rw [e, State.retry_nil hp]

/-- The lane that a withdrawn vehicle keeps gets reservations at most. -/
theorem State.withdraw_keep (s : State) (x : Slot) (l : LaneNo) :
    ∃ new, (∀ e ∈ new, e.standing = .expected) ∧ (s.waitList = [] → new = [])
      ∧ (s.withdraw x (some l)).lane l = (s.lane l).joined new := by
  have hp : (s.pulled x (some l)).lane l = s.lane l := by
    rw [State.lane, State.pulled_lanes]
    exact s.removeEntries_keep x l
  by_cases hw : s.waitList = []
  · rw [State.withdraw_of_nil _ _ _ hw, hp]
    exact ⟨[], by simp, fun _ => rfl, (Lane.joined_nil _).symm⟩
  · rcases s.withdraw_eq x (some l) with e | e <;> rw [e]
    · rw [hp]
      exact ⟨[], by simp, fun _ => rfl, (Lane.joined_nil _).symm⟩
    · obtain ⟨new, hnew, hl⟩ := (s.pulled x (some l)).retry_reserves.lane l
      exact ⟨new, hnew, fun h => absurd h hw, by rw [hl, hp]⟩

end

end Sys2Proof.Machine
end

section
/-! The ways a bus loses its row (R13, R16, R18, R124, R143 to R145), and GATE_OUT (R12 to R14). -/

namespace Sys2Proof.Machine

section
variable {s t u : State} {v w : Slot}

/-! ### A row loses its bus -/

/-- `t` differs from `s` in the bound row of one bus, in the rows of the ACTIVE bank and in the steps owed. -/
structure State.Unbinds (s : State) (v : Slot) (t : State) : Prop where
  core : t = { s with fleet := t.fleet, ds := { s.ds with active := t.ds.active, stepDue := t.ds.stepDue } }
  veh : ∃ b, t.veh v = { s.veh v with boundRow := b }
  others : ∀ w, v ≠ w → t.veh w = s.veh w
  noneBlocked : s.NoneBlocked → t.NoneBlocked

theorem State.Unbinds.refl (s : State) (v : Slot) : s.Unbinds v s := ⟨rfl, ⟨_, rfl⟩, fun _ _ => rfl, id⟩

theorem State.Unbinds.lanes (h : s.Unbinds v t) : t.lanes = s.lanes := by rw [h.core]
theorem State.Unbinds.stc (h : s.Unbinds v t) : t.stc = s.stc := by rw [h.core]
theorem State.Unbinds.waitList (h : s.Unbinds v t) : t.waitList = s.waitList := by rw [h.core]
theorem State.Unbinds.dlp (h : s.Unbinds v t) : t.dlp = s.dlp := by rw [h.core]
theorem State.Unbinds.ca (h : s.Unbinds v t) : t.ca = s.ca := by rw [h.core]
theorem State.Unbinds.swap (h : s.Unbinds v t) : t.ds.swap = s.ds.swap := by rw [h.core]
theorem State.Unbinds.standby (h : s.Unbinds v t) : t.ds.standby = s.ds.standby := by rw [h.core]
theorem State.Unbinds.flag (h : s.Unbinds v t) (f : EventFlag) : t.flag f = s.flag f := by
  have he : t.er = s.er := by rw [h.core]
  simp [State.flag, he]
theorem State.Unbinds.footing (h : s.Unbinds v t) (x : Slot) : t.footing x = s.footing x :=
  State.footing_of_eq h.lanes h.stc h.waitList x
theorem State.Unbinds.lane (h : s.Unbinds v t) (l : LaneNo) : t.lane l = s.lane l := by simp [State.lane, h.lanes]

/-- A row that is made neither CALLED nor BLOCKED blocks nothing. -/
theorem State.NoneBlocked.modRow (h : s.NoneBlocked) (i : Nat) {f : PlanRow → PlanRow}
    (hf : ∀ r, (f r).blocked = false) : (s.modRow i f).NoneBlocked := by
  intro r hr
  obtain ⟨j, hj⟩ := List.getElem?_of_mem hr
  rw [State.modRow, List.getElem?_modify] at hj
  cases hs : s.ds.active[j]? with
  | none => rw [hs] at hj; cases hj
  | some x =>
    rw [hs] at hj
    have hx := h x (List.mem_of_getElem? hs)
    by_cases hi : i = j
    · obtain rfl : f x = r := by simpa [hi] using hj
      simp [hf]
    · obtain rfl : x = r := by simpa [hi] using hj
      exact hx

theorem State.NoneBlocked.of_active (h : s.NoneBlocked) (ha : t.ds.active = s.ds.active) : t.NoneBlocked := by
  unfold State.NoneBlocked
  rw [ha]
  exact h

theorem State.oweStepAt_core (s : State) (l : Option LaneNo) :
    s.oweStepAt l = { s with ds := { s.ds with stepDue := (s.oweStepAt l).ds.stepDue } } := by
  cases l with
  | none => rfl
  | some l => simp only [State.oweStepAt, State.oweStep]; split <;> rfl

@[simp] theorem State.oweStepAt_row (s : State) (l : Option LaneNo) (i : Nat) : (s.oweStepAt l).row i = s.row i := by
  cases l <;> simp [State.oweStepAt]

@[simp] theorem State.oweStepAt_veh (s : State) (l : Option LaneNo) (x : Slot) : (s.oweStepAt l).veh x = s.veh x := by
  cases l <;> simp [State.oweStepAt]

@[simp] theorem State.clearBinding_row (s : State) (x : Slot) (i : Nat) : (s.clearBinding x).row i = s.row i := rfl

/-- A row of a bus returns to PLANNED, and the bus's bound row field is cleared. -/
theorem State.unplanned_unbinds (s : State) (v : Slot) (i : Nat) (l : Option LaneNo) :
    s.Unbinds v (((s.modRow i PlanRow.unplanned).clearBinding v).oweStepAt l) := by
  have hn (h : s.NoneBlocked) : (((s.modRow i PlanRow.unplanned).clearBinding v).oweStepAt l).NoneBlocked := by
    have h' : ((s.modRow i PlanRow.unplanned).clearBinding v).NoneBlocked :=
      (h.modRow i (f := PlanRow.unplanned) fun _ => rfl).of_active rfl
    exact h'.of_active (by rw [State.oweStepAt_core])
  refine ⟨?_, ⟨none, by simp [State.clearBinding]⟩, fun w hw => by simp [State.clearBinding, hw], hn⟩
  rw [State.oweStepAt_core]
  rfl

theorem State.undoCall_cases (s : State) (v : Slot) : s.undoCall v = s
    ∨ ∃ i r, (s.veh v).boundRow = some i ∧ s.row i = some r ∧ r.state = .called
      ∧ s.undoCall v = ((s.modRow i PlanRow.unplanned).clearBinding v).oweStepAt r.originLane := by
  unfold State.undoCall
  repeat' split
  any_goals exact .inl rfl
  next i hi _ r hr hc => exact .inr ⟨i, r, hi, hr, hc, rfl⟩

theorem State.undoCall_unbinds (s : State) (v : Slot) : s.Unbinds v (s.undoCall v) := by
  rcases s.undoCall_cases v with e | ⟨i, r, -, -, -, e⟩ <;> rw [e]
  · exact .refl s v
  · exact s.unplanned_unbinds v i _

/-- A call that stands is undone (R144, R145). -/
theorem State.undoCall_called {i : Nat} {r : PlanRow} (hi : (s.veh v).boundRow = some i) (hr : s.row i = some r)
    (hc : r.state = .called) :
    (s.undoCall v).row i = some r.unplanned ∧ ((s.undoCall v).veh v).boundRow = none := by
  simp [State.undoCall, hi, hr, hc, State.clearBinding, State.modVeh_eq]

theorem State.unbindBound_cases (s : State) (v : Slot) : s.unbindBound v = s
    ∨ ∃ i r, (s.veh v).boundRow = some i ∧ s.row i = some r ∧ r.state = .bound
      ∧ s.unbindBound v = (s.modRow i PlanRow.unplanned).clearBinding v := by
  unfold State.unbindBound
  repeat' split
  any_goals exact .inl rfl
  next i hi _ r hr hc => exact .inr ⟨i, r, hi, hr, hc, rfl⟩

theorem State.unbindBound_unbinds (s : State) (v : Slot) : s.Unbinds v (s.unbindBound v) := by
  rcases s.unbindBound_cases v with e | ⟨i, r, -, -, -, e⟩ <;> rw [e]
  · exact .refl s v
  · exact s.unplanned_unbinds v i none

/-- A BOUND row loses its bus (R13, R18). -/
theorem State.unbindBound_bound {i : Nat} {r : PlanRow} (hi : (s.veh v).boundRow = some i) (hr : s.row i = some r)
    (hb : r.state = .bound) :
    (s.unbindBound v).row i = some r.unplanned ∧ ((s.unbindBound v).veh v).boundRow = none := by
  simp [State.unbindBound, hi, hr, hb, State.clearBinding, State.modVeh_eq]

theorem State.anyCalled_iff : s.anyCalled = true ↔ ∃ i r, s.row i = some r ∧ r.state = .called := by
  simp only [State.anyCalled, List.any_eq_true, decide_eq_true_eq, State.row, List.mem_iff_getElem?]
  constructor
  · rintro ⟨r, ⟨i, hi⟩, hr⟩; exact ⟨i, r, hi, hr⟩
  · rintro ⟨i, r, hi, hr⟩; exact ⟨r, ⟨i, hi⟩, hr⟩

/-- A row that is CALLED neither before nor after makes no call. -/
theorem State.modRow_anyCalled {i : Nat} {r : PlanRow} {f : PlanRow → PlanRow} (hr : s.row i = some r)
    (hb : r.state ≠ .called) (ha : (f r).state ≠ .called) : (s.modRow i f).anyCalled = s.anyCalled := by
  rw [Bool.eq_iff_iff, State.anyCalled_iff, State.anyCalled_iff]
  constructor
  · rintro ⟨j, x, hj, hx⟩
    rw [State.modRow_row] at hj
    split at hj
    · next h =>
      subst h
      rw [hr] at hj
      cases hj
      exact absurd hx ha
    · exact ⟨j, x, hj, hx⟩
  · rintro ⟨j, x, hj, hx⟩
    refine ⟨j, x, ?_, hx⟩
    rw [State.modRow_row]
    split
    · next h =>
      subst h
      rw [hr] at hj
      cases hj
      exact absurd hx hb
    · exact hj

theorem State.unbindBound_anyCalled (s : State) (v : Slot) : (s.unbindBound v).anyCalled = s.anyCalled := by
  rcases s.unbindBound_cases v with e | ⟨i, r, -, hr, hb, e⟩ <;> rw [e]
  exact State.modRow_anyCalled hr (by simp [hb]) (by simp [PlanRow.unplanned])

/-- A row that is not CALLED survives the end of an event, when no exchange was asked for. -/
theorem State.settle_row {i : Nat} {r : PlanRow} (hr : s.row i = some r) (hc : r.state ≠ .called)
    (hp : s.ds.swap ≠ .pending) : s.settle.row i = some r :=
  (State.settle_reserves fun h => hp h.1).row hr fun h => absurd h hc

theorem presentIn_of_nowhere (h : s.footing v = .none) (m : LaneNo) : s.presentIn m v = false := by
  rw [State.presentIn_eq_footing, h]; rfl

@[simp] theorem Footing.only_none (f : Footing) : f.only (Option.none) = .none := by simp [Footing.only, Footing.none]

/-- The slot of a tag holds it (R1). -/
theorem State.slotOf_some {tag : Nat} (h : s.slotOf tag = some v) : (s.veh v).tag = tag := by
  unfold State.slotOf at h
  split at h
  · cases h
  · simpa using List.find?_some h

/-! ### GATE_OUT -/

/-- The notices of a state that follows another: what was there stays in front. -/
theorem State.Beside.mem_notices (h : s.Beside t) {n : Notice} (hn : n ∈ s.dlp.notices) : n ∈ t.dlp.notices :=
  h.notices.subset hn

/-- A notice generated in NORMAL is in the FIFO afterwards, unless the FIFO is full (R166). -/
theorem State.notify_mem {n : Notice} (h : (s.notify n).Beside t) (hm : s.ycs.mode = .normal)
    (hl : t.dlp.notices.length < 16) : n ∈ t.dlp.notices := by
  have hle : s.dlp.notices.length ≤ t.dlp.notices.length := (State.Beside.refl s).notify.trans h |>.notices.length_le
  rcases s.notify_cases n with ⟨hf, -⟩ | ⟨-, hfull, -⟩ | ⟨-, -, e⟩
  · simp [hm] at hf
  · omega
  · exact h.mem_notices (by rw [e]; simp)

/-- The state in which a call has been completed, before the notice (R12, R143). -/
def State.gone (s : State) (v : Slot) (i : Nat) : State :=
  (((s.withdraw v none).modRow i PlanRow.goneRow).setOut v).clearBinding v

theorem State.completeCall_eq {i : Nat} {r : PlanRow} (hi : (s.veh v).boundRow = some i) (hr : s.row i = some r) :
    s.completeCall v
      = ((s.gone v i).notify (.gone i r.block (s.veh v).tag s.ycs.minute)).oweStepAt r.originLane := by
  have hveh := s.withdraw_veh v none
  have hrow := s.withdraw_row v none i
  have hycs := (State.Beside.refl s).withdraw (v := v) (keep := none) |>.ycs
  unfold State.completeCall State.gone
  generalize s.withdraw v none = a at *
  have hb : (a.veh v).boundRow = some i := by rw [hveh]; exact hi
  simp only [hb, hrow, hr]
  simp [State.clearBinding, State.setOut, State.modVeh_eq, hveh, hycs]

theorem State.gone_veh (s : State) (v : Slot) (i : Nat) : (s.gone v i).veh v =
    { s.veh v with state := .out, location := .none, boundRow := none, misorder := false, shift := false } := by
  simp [State.gone, State.clearBinding, State.setOut, s.withdraw_veh v none]

theorem State.gone_footing (s : State) (v : Slot) (i : Nat) : (s.gone v i).footing v = .none := by
  simp [State.gone, State.setOut, State.withdraw_footing]

theorem State.gone_row (s : State) (v : Slot) (i : Nat) : (s.gone v i).row i = (s.row i).map PlanRow.goneRow := by
  simp [State.gone, State.setOut, State.modVeh_eq, State.withdraw_row]

theorem State.gone_ds (s : State) (v : Slot) (i : Nat) : (s.gone v i).ds.standby = s.ds.standby
    ∧ (s.gone v i).ds.swap = s.ds.swap ∧ (s.gone v i).ds.active.length = s.ds.active.length := by
  refine ⟨s.withdraw_standby v none, s.withdraw_swap v none, ?_⟩
  rw [← s.withdraw_active v none]
  exact List.length_modify _ _ _

theorem State.gone_flag (s : State) (v : Slot) (i : Nat) {f : EventFlag} (hf : f ∉ placingFlags) :
    (s.gone v i).flag f = s.flag f := s.withdraw_flag v none hf

theorem State.gone_beside (s : State) (v : Slot) (i : Nat) : s.Beside (s.gone v i) :=
  (((State.Beside.refl s).withdraw.modRow).setOut).clearBinding

theorem State.gone_notices (s : State) (v : Slot) (i : Nat) (h : s.waitList = []) : (s.gone v i).dlp = s.dlp := by
  have hd := (s.pulled_frame v none).2.2.2.1
  unfold State.gone
  rw [State.withdraw_of_nil s v none h]
  generalize s.pulled v none = a at *
  exact hd

/-- The end of a GATE_OUT that completes a call. -/
theorem State.gateOut_called {i : Nat} {r : PlanRow} (hcall : onCall (s.veh v) = true)
    (hi : (s.veh v).boundRow = some i) (hr : s.row i = some r) (hp : s.ds.swap ≠ .pending) :
    ∃ n, (s.gateOut v).settle = (n.oweStepAt r.originLane).settle
      ∧ n = (s.gone v i).notify (.gone i r.block (s.veh v).tag s.ycs.minute)
      ∧ n.Beside (n.oweStepAt r.originLane).settle
      ∧ n.Spares v (n.oweStepAt r.originLane).settle
      ∧ n.Reserves (n.oweStepAt r.originLane).settle
      ∧ (n.oweStepAt r.originLane).settle.row i = some r.goneRow := by
  have hout : (s.veh v).state ≠ .out := by
    intro h; simp [onCall, h] at hcall
  have hgate : s.gateOut v
      = ((s.gone v i).notify (.gone i r.block (s.veh v).tag s.ycs.minute)).oweStepAt r.originLane := by
    rw [State.gateOut, if_neg hout, if_pos hcall, State.completeCall_eq hi hr]
  refine ⟨_, by rw [hgate], rfl, (State.Beside.refl _).oweStepAt.settle, ?_, ?_, ?_⟩
  all_goals generalize hn : (s.gone v i).notify (.gone i r.block (s.veh v).tag s.ycs.minute) = n
  all_goals
    have hpo : (n.oweStepAt r.originLane).ds.swap ≠ .pending := by
      rw [State.oweStepAt_core, ← hn]
      simpa [(s.gone_ds v i).2.1] using hp
  · have hfoot : (n.oweStepAt r.originLane).footing v = .none := by simp [← hn, State.gone_footing]
    have howe : n.Spares v (n.oweStepAt r.originLane) := ⟨by simp, by simp⟩
    exact howe.trans (State.settle_spares (presentIn_of_nowhere hfoot) fun h => hpo h.1)
  · have howe : n.Reserves (n.oweStepAt r.originLane) := by
      rw [State.oweStepAt_core]
      exact .of_eq rfl rfl rfl rfl rfl rfl fun _ _ => rfl
    exact howe.trans (State.settle_reserves fun h => hpo h.1)
  · exact State.settle_row (by simp [← hn, State.gone_row, hr]) (by simp [PlanRow.goneRow]) hpo

theorem onCall_iff {r : Vehicle} : onCall r = true ↔ r.state = .called ∨ r.state = .departing := by simp [onCall]

/-- The end of an exit: the vehicle withdrawn, its BOUND row PLANNED again, and the vehicle OUT (R13, R18). -/
theorem State.exit_settle (hx : ¬ (s.ds.swap = .pending ∧ s.anyCalled = false)) {t : State}
    (ht : t = (((s.withdraw v none).unbindBound v).setOut v).settle) :
    (∃ b, t.veh v = { s.veh v with state := .out, location := .none, boundRow := b, misorder := false, shift := false })
      ∧ t.StandsNowhere v
      ∧ (∀ i r, (s.veh v).boundRow = some i → s.row i = some r → r.state = .bound → s.ds.swap ≠ .pending →
          (t.veh v).boundRow = none ∧ t.row i = some r.unplanned)
      ∧ ∀ f, f ∉ placingFlags → t.flag f = s.flag f := by
  have hveh := s.withdraw_veh v none
  have hfoot : (s.withdraw v none).footing v = .none := by rw [State.withdraw_footing]; exact Footing.only_none _
  have hswap := s.withdraw_swap v none
  have hactive := s.withdraw_active v none
  have hwflag (f : EventFlag) (hf : f ∉ placingFlags) := s.withdraw_flag v none hf
  generalize s.withdraw v none = w at *
  have hun := w.unbindBound_unbinds v
  generalize hg : (w.unbindBound v).setOut v = g at *
  have hgfoot : g.footing v = .none := by rw [← hg, State.setOut, State.modVeh_footing, hun.footing, hfoot]
  have hgswap : g.ds.swap = s.ds.swap := by rw [← hg, ← hswap]; exact hun.swap
  have hgcalled : g.anyCalled = s.anyCalled := by
    have h1 : g.anyCalled = (w.unbindBound v).anyCalled := by rw [← hg]; rfl
    rw [h1, State.unbindBound_anyCalled, State.anyCalled, hactive, State.anyCalled]
  have hgx : ¬ (g.ds.swap = .pending ∧ g.anyCalled = false) := by rwa [hgswap, hgcalled]
  have hsp := State.settle_spares (presentIn_of_nowhere hgfoot) hgx
  obtain ⟨b, hb⟩ := hun.veh
  rw [ht]
  refine ⟨⟨b, ?_⟩, ?_, fun i r hi hr hbound hp => ?_, fun f hf => ?_⟩
  · rw [hsp.veh, ← hg, State.setOut, State.modVeh_veh, if_pos rfl, hb, hveh]
  · rw [State.standsNowhere_iff, hsp.footing, hgfoot]
  · have hwi : (w.veh v).boundRow = some i := by rw [hveh]; exact hi
    have hwr : w.row i = some r := by rw [State.row, hactive]; exact hr
    obtain ⟨hrow, hnone⟩ := State.unbindBound_bound hwi hwr hbound
    have hgrow : g.row i = some r.unplanned := by rw [← hg]; exact hrow
    refine ⟨?_, State.settle_row hgrow (by simp [PlanRow.unplanned]) (by rwa [hgswap])⟩
    rw [hsp.veh, ← hg, State.setOut, State.modVeh_veh, if_pos rfl]
    exact hnone
  · have h1 : g.flag f = (w.unbindBound v).flag f := by rw [← hg]; rfl
    rw [State.settle_flag _ hf, h1, hun.flag, hwflag f hf]

end

end Sys2Proof.Machine

namespace Sys2Proof.Proofs
open Sys2Proof.Machine

/-- GATE_OUT completes a call (R12, R143), in the state that the reply leaves. -/
theorem gateOut_completes_call {s : State} {v : Slot} {i : Nat} {r : PlanRow} (hcall : onCall (s.veh v) = true)
    (hi : (s.veh v).boundRow = some i) (hr : s.row i = some r) (hp : s.ds.swap ≠ .pending) :
    ∃ t, (s.gateOut v).settle = t
      ∧ t.row i = some r.goneRow
      ∧ t.veh v = { s.veh v with state := .out, location := .none, boundRow := none, misorder := false, shift := false }
      ∧ t.StandsNowhere v
      ∧ t.ds.standby = s.ds.standby ∧ t.ds.active.length = s.ds.active.length
      ∧ (s.ycs.mode = .normal → t.dlp.notices.length < 16 →
          .gone i r.block (s.veh v).tag s.ycs.minute ∈ t.dlp.notices)
      ∧ (s.ycs.mode = .normal → s.dlp.notices.length < 16 → s.waitList = [] →
          s.dlp.notices ++ [.gone i r.block (s.veh v).tag s.ycs.minute] <+: t.dlp.notices)
      ∧ ∀ f, f ∉ placingFlags → t.flag f = s.flag f := by
  obtain ⟨n, heq, hn, hbeside, hspares, hreserves, hrow⟩ := State.gateOut_called hcall hi hr hp
  obtain ⟨hstandby, -, hlength⟩ := s.gone_ds v i
  have hmode := (s.gone_beside v i).ycs
  refine ⟨_, rfl, by rw [heq]; exact hrow, ?_, ?_, ?_, ?_, fun hm hl => ?_, fun hm hl hw => ?_, fun f hf => ?_⟩
  · rw [heq, hspares.veh, hn, State.notify_veh, State.gone_veh]
  · rw [heq, State.standsNowhere_iff, hspares.footing, hn, State.notify_footing, State.gone_footing]
  · rw [heq, hreserves.standby, hn, State.notify_ds, hstandby]
  · rw [heq, hreserves.length, hn, State.notify_ds, hlength]
  · rw [heq] at hl ⊢
    exact State.notify_mem (s := s.gone v i) (by rw [← hn]; exact hbeside) (by rw [hmode]; exact hm) hl
  · rw [heq]
    refine List.IsPrefix.trans ?_ hbeside.notices
    have hdlp := s.gone_notices v i hw
    rw [hn]
    rcases (s.gone v i).notify_cases (.gone i r.block (s.veh v).tag s.ycs.minute) with ⟨hf, -⟩ | ⟨-, hfull, -⟩ | ⟨-, -, e⟩
    · rw [hmode, hm] at hf; cases hf
    · rw [hdlp] at hfull; omega
    · rw [e, hdlp]
  · rw [heq, hreserves.flag f hf, hn, State.notify_flag _ _ (by rintro rfl; simp [placingFlags] at hf),
      State.gone_flag _ _ _ hf]

/-- GATE_OUT of a bus that is not on call is an unscheduled exit (R13). -/
theorem gateOut_unscheduled {s : State} {v : Slot} (hout : (s.veh v).state ≠ .out) (hcall : onCall (s.veh v) = false)
    (hx : ¬ (s.ds.swap = .pending ∧ s.anyCalled = false)) :
    ∃ t, (s.gateOut v).settle = t
      ∧ t.flag .unscheduledExit = true
      ∧ (∃ b, t.veh v = { s.veh v with
          state := .out, location := .none, boundRow := b, misorder := false, shift := false })
      ∧ t.StandsNowhere v
      ∧ ∀ i r, (s.veh v).boundRow = some i → s.row i = some r → r.state = .bound → s.ds.swap ≠ .pending →
          (t.veh v).boundRow = none ∧ t.row i = some r.unplanned := by
  have hgate : s.gateOut v = (((s.raise .unscheduledExit).withdraw v none).unbindBound v).setOut v := by
    rw [State.gateOut, if_neg hout, if_neg (by simp [hcall])]
  obtain ⟨hveh, hnowhere, hrow, hflag⟩ := State.exit_settle (s := s.raise .unscheduledExit) (v := v) hx rfl
  exact ⟨_, by rw [hgate], by rw [hflag _ (by decide)]; simp, hveh, hnowhere, hrow⟩

/-- Settles O25: each GATE_OUT is a withdrawal, and what the plan does with the row of the bus. -/
theorem gateOutEndsAVisit : Obligations.GateOutEndsAVisit := by
  unfold Obligations.GateOutEndsAVisit
  refine ⟨fun s src tag v hd ht hv hout => ?_, fun s src tag v i r hd ht hv hcall hi hr _ _ hp => ?_,
    fun s src tag v hd ht hv hout hcalled hdeparting => ?_⟩
  · have hgate : (s.replied src).gateOut v
        = ((s.replied src).raise .yardConflict).notify (.yardConflict tag v .out 2) := by
      rw [State.gateOut, if_pos (by simpa using hout), State.yardConflict, State.replied_veh,
        State.slotOf_some hv]
      rfl
    have hrest : (((s.replied src).raise .yardConflict).notify (.yardConflict tag v .out 2)).AtRest :=
      hd.2.2.2.of_ds (by simp)
    rw [hd.gateOut ht hv, hgate, hrest.settle]
  · obtain ⟨t, ht', hrow, hveh, ⟨hlane, hticket, hwait⟩, hstandby, hlength, hnotice, hprefix, hflag⟩ :=
      gateOut_completes_call (s := s.replied src) (onCall_iff.mpr hcall) hi hr hp
    rw [State.replied_veh, State.slotOf_some hv] at hnotice hprefix
    refine ⟨t, by rw [hd.gateOut ht hv, ht'], hrow, hveh, hlane, hticket, hwait, hstandby, hlength, hnotice, hprefix, ?_, ?_⟩
    all_goals rw [hflag _ (by decide)]; exact id
  · obtain ⟨t, ht', hflag, ⟨b, hveh⟩, hnowhere, hrow⟩ :=
      gateOut_unscheduled (s := s.replied src) (v := v) hout (by simp [onCall, hcalled, hdeparting]) hd.2.2.2.2
    refine ⟨t, by rw [hd.gateOut ht hv, ht'], hflag, ?_, ?_, ?_, ?_, ?_, ?_, ?_, hnowhere, hrow⟩
    all_goals rw [hveh]
    all_goals rfl

end Sys2Proof.Proofs
end

section
/-! The orders HOLD, UNHOLD and YARD_SET (R16 to R18): an order taken by the TAU reaches its owner in the state without the
request, and is answered with the owner's outcome (R174). -/

namespace Sys2Proof.Machine

section
variable {s t u : State} {v w : Slot} {r : Request} {rest : List Request} {code : Byte} {operands : List Byte}

/-! ### The state around an order -/

variable (s) in
@[simp] theorem State.placeAnswer_veh (a : Answer) (x : Slot) : (s.placeAnswer a).veh x = s.veh x := rfl
variable (s) in
@[simp] theorem State.placeAnswer_lane (a : Answer) (l : LaneNo) : (s.placeAnswer a).lane l = s.lane l := rfl
variable (s) in
@[simp] theorem State.placeAnswer_row (a : Answer) (i : Nat) : (s.placeAnswer a).row i = s.row i := rfl
variable (s) in
@[simp] theorem State.placeAnswer_footing (a : Answer) : (s.placeAnswer a).footing v = s.footing v := rfl
variable (s) in
@[simp] theorem State.placeAnswer_waitList (a : Answer) : (s.placeAnswer a).waitList = s.waitList := rfl
variable (s) in
@[simp] theorem State.placeAnswer_stc (a : Answer) : (s.placeAnswer a).stc = s.stc := rfl
variable (s) in
@[simp] theorem State.placeAnswer_flag (a : Answer) (f : EventFlag) : (s.placeAnswer a).flag f = s.flag f := rfl
variable (s) in
@[simp] theorem State.takeRequest_veh (x : Slot) : (s.takeRequest rest).veh x = s.veh x := rfl
variable (s) in
@[simp] theorem State.takeRequest_lane (l : LaneNo) : (s.takeRequest rest).lane l = s.lane l := rfl
variable (s) in
@[simp] theorem State.takeRequest_row (i : Nat) : (s.takeRequest rest).row i = s.row i := rfl
variable (s) in
@[simp] theorem State.takeRequest_footing : (s.takeRequest rest).footing v = s.footing v := rfl

/-- An order that reaches its owner (R174). -/
theorem State.TakesOrder.takeOrder (h : s.TakesOrder r rest code operands) {k : OrderKind}
    (hk : orderKinds[code.toNat]? = some k) (hl : operands.length = operandBytes k)
    (hn : ¬ (k = .yardSet ∧ field r.payload 3 1 = 255)) (hp : s.inFlight k = false)
    (owner : Request → State → Outcome × State) :
    s.takeOrder k owner = (owner r (s.takeRequest rest)).2.placeAnswer
      (s.answerTo r (reply (owner r (s.takeRequest rest)).1)) := by
  obtain ⟨htakes, hkind, hpayload, hclass⟩ := h
  have hasked : s.asked r = .order k := by
    rw [hpayload] at hn
    simp [State.asked, askedOrder, hkind, hpayload, hk, hl, hn, kindSelect, kindPut, kindFetch, kindClear, kindOrder]
  rw [State.takeOrder, htakes.takeAndAnswer hasked, State.answerOrder_owner (by simp [hclass]) (by simpa using hp)]

theorem settled_refused {o : Outcome} (h : o.carriedOut = false) : settled (o, s) = (o, s) := by simp [settled, h]

theorem settled_ok : settled (.ok, s) = (.ok, s.settle) := rfl

theorem State.takeRequest_atRest (h : s.AtRest) : (s.takeRequest rest).AtRest := h.of_ds rfl

/-! ### Operands (R191) -/

/-- The slot operand of an order. -/
theorem operand_slot {n : Nat} {q : List Byte} (hp : r.payload = code :: (toBytes 2 n ++ q)) (hn : n < 2 ^ 16) :
    r.operand 1 2 = n := by
  have hwidth : (toBytes 2 n ++ q).take 2 = toBytes 2 n := by rw [List.take_left' (toBytes_length 2 n)]
  rw [Request.operand, hp, field, List.drop_succ_cons, List.drop_zero, hwidth, ofBytes_toBytes _ _ hn]

/-- The lane operand of YARD_SET, behind the slot. -/
theorem field_lane {n m : Nat} (hm : m < 256) : field (code :: (toBytes 2 n ++ toBytes 1 m)) 3 1 = m := by
  have hdrop : (toBytes 2 n ++ toBytes 1 m).drop 2 = toBytes 1 m := by rw [List.drop_left' (toBytes_length 2 n)]
  have htake : (toBytes 1 m).take 1 = toBytes 1 m := List.take_of_length_le (by simp)
  rw [field, List.drop_succ_cons, hdrop, htake, ofBytes_toBytes _ _ hm]

theorem slot_lt (v : Slot) : v.val < 2 ^ 16 := by have := v.isLt; omega

theorem State.withSlot_slot (v : Slot) (owner : Slot → Outcome × State) : s.withSlot v.val owner = owner v := by
  simp [State.withSlot]

theorem State.withSlot_range {n : Nat} (h : 256 ≤ n) (owner : Slot → Outcome × State) : s.withSlot n owner = (.range, s) := by
  rw [State.withSlot, dif_neg (by omega)]

theorem State.withLane_lane (l : LaneNo) (owner : LaneNo → Outcome × State) : s.withLane l.val owner = owner l := by
  simp [State.withLane]

theorem State.withLane_range {n : Nat} (h : 32 ≤ n) (owner : LaneNo → Outcome × State) : s.withLane n owner = (.range, s) := by
  rw [State.withLane, dif_neg (by omega)]

/-! ### HOLD and UNHOLD -/

theorem State.TakesOrder.hold {n : Nat} (h : s.TakesOrder r rest 4 (toBytes 2 n)) (hn : n < 2 ^ 16) {o : Outcome} {u : State}
    (howner : settled ((s.takeRequest rest).withSlot n (s.takeRequest rest).hold) = (o, u)) :
    exec .hold s = .next (u.placeAnswer (s.answerTo r (reply o))) := by
  have hp : r.payload = 4 :: (toBytes 2 n ++ []) := by rw [List.append_nil]; exact h.2.2.1
  show Host.Outcome.next (s.takeOrder .hold _) = _
  rw [h.takeOrder (k := .hold) rfl (toBytes_length 2 n) (by simp) rfl, operand_slot hp hn, howner]

theorem State.TakesOrder.unhold {n : Nat} (h : s.TakesOrder r rest 5 (toBytes 2 n)) (hn : n < 2 ^ 16) {o : Outcome}
    {u : State} (howner : (s.takeRequest rest).withSlot n (s.takeRequest rest).unhold = (o, u)) :
    exec .unhold s = .next (u.placeAnswer (s.answerTo r (reply o))) := by
  have hp : r.payload = 5 :: (toBytes 2 n ++ []) := by rw [List.append_nil]; exact h.2.2.1
  show Host.Outcome.next (s.takeOrder .unhold _) = _
  rw [h.takeOrder (k := .unhold) rfl (toBytes_length 2 n) (by simp) rfl, operand_slot hp hn, howner]

/-- HOLD of a bus that is not on call: the mark, and its BOUND row (R16, R124). -/
theorem State.hold_free (htag : (s.veh v).tag ≠ 0) (hheld : (s.veh v).held = false) (hcall : onCall (s.veh v) = false) :
    s.hold v = (.ok, (s.modVeh v fun r => { r with held := true }).unbindBound v) := by
  simp [State.hold, htag, hheld, hcall]

/-- HOLD of a bus on call undoes the call (R16, R144). -/
theorem State.hold_onCall (htag : (s.veh v).tag ≠ 0) (hheld : (s.veh v).held = false) (hcall : onCall (s.veh v) = true) :
    s.hold v = (.ok, ((s.modVeh v fun r => { r with held := true }).undoCall v).modVeh v endedCall) := by
  simp [State.hold, htag, hheld, hcall]

theorem State.unbindBound_unbound (h : (s.veh v).boundRow = none) : s.unbindBound v = s := by simp [State.unbindBound, h]

theorem State.unbindBound_eq {i : Nat} {x : PlanRow} (hi : (s.veh v).boundRow = some i) (hr : s.row i = some x)
    (hb : x.state = .bound) : s.unbindBound v = (s.modRow i PlanRow.unplanned).clearBinding v := by
  simp [State.unbindBound, hi, hr, hb]

/-- The mark of a HOLD and the unbinding of its bus are one change of the record. -/
theorem State.held_unplanned (s : State) (v : Slot) (i : Nat) :
    ((s.modVeh v fun r => { r with held := true }).modRow i PlanRow.unplanned).clearBinding v
      = (s.modRow i PlanRow.unplanned).setVeh v { s.veh v with held := true, boundRow := none } := by
  have hswap : (s.modVeh v fun r => { r with held := true }).modRow i PlanRow.unplanned
      = (s.modRow i PlanRow.unplanned).setVeh v { s.veh v with held := true } := rfl
  rw [hswap, State.clearBinding, State.modVeh_eq, State.setVeh_setVeh, State.setVeh_veh, if_pos rfl]

/-- A BOUND row that loses its bus leaves a state at rest. -/
theorem State.unbindBound_atRest (h : s.AtRest) : (s.unbindBound v).AtRest := by
  have hun := s.unbindBound_unbinds v
  refine ⟨?_, ?_⟩
  · rcases s.unbindBound_cases v with e | ⟨i, r, -, -, -, e⟩ <;> rw [e] <;> exact h.1
  · rw [hun.swap, State.unbindBound_anyCalled]
    exact h.2

theorem endedCall_eq (r : Vehicle) : (endedCall r).held = r.held ∧ (endedCall r).boundRow = r.boundRow
    ∧ (r.state = .departing → (endedCall r).state = .moving ∧ (endedCall r).location = .enRoute none)
    ∧ (r.state = .called → (endedCall r).state = .parked) := by
  unfold endedCall
  split <;> simp_all

/-- The end of a HOLD that undoes a call (R144). -/
theorem State.holdUndone {i : Nat} {x : PlanRow} (hi : (s.veh v).boundRow = some i) (hr : s.row i = some x)
    (hc : x.state = .called) (hp : s.ds.swap ≠ .pending) {t : State}
    (ht : t = (((s.modVeh v fun r => { r with held := true }).undoCall v).modVeh v endedCall).settle) :
    t.row i = some x.unplanned ∧ (t.veh v).held = true ∧ (t.veh v).boundRow = none
      ∧ ((s.veh v).state = .departing → s.inSomeLane v = false →
          (t.veh v).state = .moving ∧ (t.veh v).location = .enRoute none)
      ∧ ((s.veh v).state = .called → (t.veh v).state = .parked ∨ (t.veh v).shift = true)
      ∧ t.waitList = s.waitList ∧ t.stc = s.stc := by
  generalize ha : s.modVeh v (fun r => { r with held := true }) = a at ht
  have hav : a.veh v = { s.veh v with held := true } := by rw [← ha]; simp
  have haf : a.footing v = s.footing v := by rw [← ha]; simp
  have hun := a.undoCall_unbinds v
  obtain ⟨hrow, hnone⟩ := State.undoCall_called (s := a) (v := v) (by rw [hav]; exact hi) (by rw [← ha]; exact hr) hc
  obtain ⟨b, hb⟩ := hun.veh
  rw [hb] at hnone
  obtain rfl : b = none := hnone
  generalize hc' : (a.undoCall v).modVeh v endedCall = c at ht
  obtain ⟨eheld, ebound, edeparting, ecalled⟩ := endedCall_eq { a.veh v with boundRow := none }
  have hcv : c.veh v = endedCall { a.veh v with boundRow := none } := by rw [← hc', State.modVeh_veh, if_pos rfl, hb]
  have hcp : c.ds.swap ≠ .pending := by
    have h1 : c.ds.swap = (a.undoCall v).ds.swap := by rw [← hc']; rfl
    rw [h1, hun.swap, ← ha]
    exact hp
  have hcx : ¬ (c.ds.swap = .pending ∧ c.anyCalled = false) := fun h => hcp h.1
  have hshift : (c.veh v).mayShift (t.veh v) := by
    rw [ht, State.settle_shiftSteps hcx]
    exact c.shiftSteps_mayShift _ v
  refine ⟨?_, ?_, ?_, fun hs hl => ?_, fun hs => ?_, ?_, ?_⟩
  · rw [ht]
    exact State.settle_row (by rw [← hc']; exact hrow) (by simp [PlanRow.unplanned]) hcp
  · have hheld : (c.veh v).held = true := by rw [hcv, eheld, hav]
    rcases hshift with e | ⟨_, e⟩ <;> rw [e] <;> exact hheld
  · have hbound : (c.veh v).boundRow = none := by rw [hcv, ebound]
    rcases hshift with e | ⟨_, e⟩ <;> rw [e] <;> exact hbound
  · have hcf : c.footing v = s.footing v := by rw [← hc', State.modVeh_footing, hun.footing, haf]
    have hidle : ∀ m, c.presentIn m v = false := fun m => by
      rw [State.presentIn_eq_footing, hcf, (State.inSomeLane_false_iff.mp hl) m]; rfl
    rw [ht, (State.settle_spares hidle hcx).veh, hcv]
    exact edeparting (by rw [hav]; exact hs)
  · have hparked : (c.veh v).state = .parked := by rw [hcv]; exact ecalled (by rw [hav]; exact hs)
    rcases hshift with e | ⟨_, e⟩ <;> rw [e]
    · exact .inl hparked
    · exact .inr rfl
  · rw [ht, State.settle_waitList, ← hc']
    exact hun.waitList.trans (by rw [← ha]; rfl)
  · rw [ht, State.settle_stc, ← hc']
    exact hun.stc.trans (by rw [← ha]; rfl)

end

end Sys2Proof.Machine

namespace Sys2Proof.Proofs
open Sys2Proof.Machine

/-- Settles O47: HOLD of a bus off call touches its BOUND row alone; of a bus on call it undoes the call, and shift steps
follow. -/
theorem holdAndUnhold : Obligations.HoldAndUnhold := by
  unfold Obligations.HoldAndUnhold
  refine ⟨fun s r rest v => ⟨fun h => ?_, fun h => ?_, fun n hn hlt => ⟨fun h => ?_, fun h => ?_⟩⟩,
    fun s r rest v i x h htag hheld hcall hi hr hc hrest hp => ?_⟩
  · have refused {o : Outcome} (hc : o.carriedOut = false) (ho : (s.takeRequest rest).hold v = (o, s.takeRequest rest)) :
        exec .hold s = .next (s.answered r rest o []) := by
      rw [h.hold (slot_lt v) (o := o) (u := s.takeRequest rest)]
      · rfl
      · rw [State.withSlot_slot, ho, settled_refused hc]
    refine ⟨fun htag => refused rfl (by simp [State.hold, htag]), fun htag hheld hrest => ?_,
      fun htag hheld hcalled hdeparting hrest => ?_⟩
    · rw [h.hold (slot_lt v) (o := .ok) (u := s.takeRequest rest)]
      · rfl
      · have howner : (s.takeRequest rest).hold v = (.ok, s.takeRequest rest) := by simp [State.hold, htag, hheld]
        rw [State.withSlot_slot, howner, settled_ok, (State.takeRequest_atRest hrest).settle]
    · have hfree := State.hold_free (s := s.takeRequest rest) (v := v) htag hheld (by simp [onCall, hcalled, hdeparting])
      have hheldRest : ((s.takeRequest rest).modVeh v fun r => { r with held := true }).AtRest := hrest.of_ds rfl
      have hanswer : exec .hold s = .next
          ((((s.takeRequest rest).modVeh v fun r => { r with held := true }).unbindBound v).placeAnswer
            (s.answerTo r (reply .ok))) := by
        apply h.hold (slot_lt v)
        rw [State.withSlot_slot, hfree, settled_ok, (State.unbindBound_atRest hheldRest).settle]
      refine ⟨fun hnone => ?_, fun i y hi hy hbound => ?_⟩
      · rw [hanswer, State.unbindBound_unbound (by simpa using hnone)]
        rfl
      · have hrow : ((s.takeRequest rest).modVeh v fun r => { r with held := true }).row i = some y := hy
        rw [hanswer, State.unbindBound_eq (by simpa using hi) hrow hbound, State.held_unplanned]
        rfl
  · refine ⟨fun htag => ?_, fun htag => ?_⟩
    · have howner : (s.takeRequest rest).unhold v = (.conflict, s.takeRequest rest) := by simp [State.unhold, htag]
      exact h.unhold (slot_lt v) (by rw [State.withSlot_slot, howner])
    · have howner : (s.takeRequest rest).unhold v
          = (.ok, (s.takeRequest rest).modVeh v fun r => { r with held := false }) := by simp [State.unhold, htag]
      exact h.unhold (slot_lt v) (by rw [State.withSlot_slot, howner])
  · exact h.hold hlt (by rw [State.withSlot_range hn, settled_refused rfl])
  · exact h.unhold hlt (State.withSlot_range hn _)
  · have honcall := State.hold_onCall (s := s.takeRequest rest) (v := v) htag hheld (onCall_iff.mpr hcall)
    obtain ⟨hrow, hheld', hnone, hdeparting, hcalled, hwait, hstc⟩ :=
      State.holdUndone (s := s.takeRequest rest) hi hr hc hp rfl
    exact ⟨_, h.hold (slot_lt v) (by rw [State.withSlot_slot, honcall, settled_ok]), hrow, hheld', hnone, hdeparting,
      hcalled, rfl, hwait, hstc⟩

end Sys2Proof.Proofs
end

section
/-! YARD_SET (R17, R18): the vehicle is put at the tail of a lane and withdrawn from every other place, or withdrawn from all. -/

namespace Sys2Proof.Machine

section
variable {s t u : State} {v w : Slot} {r : Request} {rest : List Request} {code : Byte} {operands : List Byte}

/-! ### The order -/

theorem State.TakesOrder.yardSet {n m : Nat} (h : s.TakesOrder r rest 6 (toBytes 2 n ++ toBytes 1 m)) (hn : n < 2 ^ 16)
    (hm : m < 255) {o : Outcome} {u : State}
    (howner : settled ((s.takeRequest rest).withLane m fun l =>
      (s.takeRequest rest).withSlot n fun v => (s.takeRequest rest).yardSet v l) = (o, u)) :
    exec .yardSet s = .next (u.placeAnswer (s.answerTo r (reply o))) := by
  have hp := h.2.2.1
  have hlane : field r.payload 3 1 = m := by rw [hp]; exact field_lane (by omega)
  have hlen : (toBytes 2 n ++ toBytes 1 m).length = 3 := by simp
  show Host.Outcome.next (s.takeOrder .yardSet _) = _
  rw [h.takeOrder (k := .yardSet) rfl hlen (by simp [hlane]; omega) rfl, operand_slot hp hn, Request.operand, hlane, howner]

theorem State.TakesOrder.yardSetOut {n : Nat} (h : s.TakesOrder r rest 6 (toBytes 2 n ++ [255])) (hn : n < 2 ^ 16)
    {o : Outcome} {u : State}
    (howner : settled ((s.takeRequest rest).withSlot n (s.takeRequest rest).yardSetOut) = (o, u)) :
    exec .yardSetOut s = .next (u.placeAnswer (s.answerTo r (reply o))) := by
  obtain ⟨htakes, hkind, hp, hclass⟩ := h
  have hlane : field (6#8 :: (toBytes 2 n ++ [255#8])) 3 1 = 255 := field_lane (m := 255) (by omega)
  have hasked : s.asked r = .yardSetOut := by
    simp [State.asked, askedOrder, hkind, hp, hlane, kindSelect, kindPut, kindFetch, kindClear, kindOrder,
      orderKinds, operandBytes]
  show Host.Outcome.next (s.takeAndAnswer _ _) = _
  rw [htakes.takeAndAnswer hasked, State.answerOrder_owner (by simp [hclass]) rfl, operand_slot hp hn, howner]

/-! ### To a lane (R17) -/

/-- The vehicle's entry stands at the tail of the lane, and every other place of it is given up. -/
def State.moved (s : State) (v : Slot) (l : LaneNo) : State := (s.addAtTail l ⟨v, .present, none⟩).withdraw v (some l)

/-- The vehicle is PARKED in the lane, as YARD_SET leaves it but for the test of the lane (R17). -/
def State.stationed (s : State) (v : Slot) (l : LaneNo) : State :=
  (if (s.veh v).state = .out then (s.moved v l).modVeh v fun r => { r with arrival := (s.moved v l).ycs.minute }
    else s.moved v l).modVeh v fun r => { r with state := .parked, location := .lane l .present none }

theorem State.yardSet_stationed {l : LaneNo} (htag : (s.veh v).tag ≠ 0) (hcall : onCall (s.veh v) = false)
    (he : s.entry l v = none) (hroom : s.units v ≤ s.room l) :
    s.yardSet v l = (.ok, (s.stationed v l).testLane l) := by
  rw [State.yardSet, if_neg htag, if_neg (by simp [hcall]), if_neg (by simp [he]), if_neg (by omega)]
  rfl

theorem State.yardSet_refused {l : LaneNo} (h : (s.veh v).tag = 0 ∨ (s.veh v).state = .called
      ∨ (s.veh v).state = .departing ∨ s.entry l v ≠ none ∨ s.room l < s.units v) : s.yardSet v l = (.conflict, s) := by
  unfold State.yardSet
  repeat' split
  any_goals rfl
  next htag hcall he hroom =>
    exfalso
    rcases h with h | h | h | h | h
    · exact htag h
    · exact hcall (onCall_iff.mpr (.inl h))
    · exact hcall (onCall_iff.mpr (.inr h))
    · exact he (Option.isSome_iff_ne_none.mpr h)
    · exact hroom h

theorem State.moved_veh (s : State) (v : Slot) (l : LaneNo) :
    (s.moved v l).veh v = { s.veh v with misorder := false, shift := false } := by
  rw [State.moved, State.withdraw_veh, State.addAtTail, State.writeEntries_veh]

theorem State.moved_ycs (s : State) (v : Slot) (l : LaneNo) : (s.moved v l).ycs = s.ycs :=
  (State.Beside.refl s).addAtTail.withdraw.ycs

theorem State.stationed_veh (s : State) (v : Slot) (l : LaneNo) : (s.stationed v l).veh v = { s.veh v with
    state := .parked, location := .lane l .present none, misorder := false, shift := false
    arrival := if (s.veh v).state = .out then s.ycs.minute else (s.veh v).arrival } := by
  rw [State.stationed, State.modVeh_veh, if_pos rfl]
  split
  · next h => rw [State.modVeh_veh, if_pos rfl, State.moved_veh, State.moved_ycs]
  · next h => rw [State.moved_veh]

/-- The two marks on the vehicle's record leave everything else. -/
theorem State.stationed_core (s : State) (v : Slot) (l : LaneNo) :
    s.stationed v l = { s.moved v l with fleet := (s.stationed v l).fleet } := by
  unfold State.stationed
  generalize s.moved v l = m
  split <;> rfl

theorem State.stationed_footing (s : State) (v : Slot) (l : LaneNo) (he : s.entry l v = none) :
    (s.stationed v l).footing v
      = { Footing.none with entries := fun m => if l = m then [⟨v, .present, none⟩] else [] } := by
  have hmoved : (s.stationed v l).footing v = (s.moved v l).footing v :=
    State.footing_of_eq (by rw [State.stationed_core]) (by rw [State.stationed_core]) (by rw [State.stationed_core]) v
  have hnone : (s.lane l).entries.filter (fun e => e.slot = v) = [] := (State.entries_eq_nil_iff l).mpr he
  rw [hmoved, State.moved, State.withdraw_footing, State.addAtTail, State.writeEntries_footing, Footing.only]
  ext1 <;> try rfl
  funext m
  by_cases hm : l = m
  · subst hm
    simp [hnone]
  · simp [hm]

theorem State.stationed_active (s : State) (v : Slot) (l : LaneNo) : (s.stationed v l).ds.active = s.ds.active := by
  rw [State.stationed_core]
  show (s.moved v l).ds.active = s.ds.active
  rw [State.moved, State.withdraw_active, State.addAtTail, State.writeEntries_ds, State.oweStep_active]

theorem State.stationed_swap (s : State) (v : Slot) (l : LaneNo) : (s.stationed v l).ds.swap = s.ds.swap := by
  rw [State.stationed_core]
  show (s.moved v l).ds.swap = s.ds.swap
  rw [State.moved, State.withdraw_swap, State.addAtTail, State.writeEntries_ds, State.oweStep_swap]

theorem State.stationed_lane (s : State) (v : Slot) (l : LaneNo) : ∃ new, (∀ e ∈ new, e.standing = .expected)
    ∧ (s.waitList = [] → new = [])
    ∧ ((s.stationed v l).lane l).entries = match (s.lane l).cfg.kind with
      | .through => (s.lane l).entries ++ [⟨v, .present, none⟩] ++ new
      | .deadEnd => new ++ ((s.lane l).entries ++ [⟨v, .present, none⟩]) := by
  obtain ⟨new, hnew, hnil, hl⟩ := (s.addAtTail l ⟨v, .present, none⟩).withdraw_keep v l
  refine ⟨new, hnew, fun hw => hnil (by simpa [State.addAtTail] using hw), ?_⟩
  have hlane : (s.stationed v l).lane l = (s.moved v l).lane l := by rw [State.stationed_core]; rfl
  rw [hlane, State.moved, hl, State.addAtTail, State.writeEntries_lane, if_pos rfl]
  rfl

/-- The end of a YARD_SET, with no call BLOCKED: the test of the lane and the end of the event change marks of order and shift
records alone. -/
theorem State.stationed_settle (s : State) (v : Slot) (l : LaneNo) (hn : s.NoneBlocked)
    (hx : ¬ (s.ds.swap = .pending ∧ s.anyCalled = false)) :
    (∃ m, ((s.stationed v l).testLane l).settle.veh v = { (s.stationed v l).veh v with misorder := m })
    ∧ ((s.stationed v l).testLane l).settle.footing v = (s.stationed v l).footing v
    ∧ ((s.stationed v l).testLane l).settle.lane l = (s.stationed v l).lane l := by
  have htest := (s.stationed v l).testLane_remarks l
  have hactive : ((s.stationed v l).testLane l).ds.active = s.ds.active := by rw [htest.ds, State.stationed_active]
  obtain ⟨d, hd, -⟩ := State.NoneBlocked.settle (s := (s.stationed v l).testLane l) (hn.of_active hactive)
    (by rw [htest.ds, State.stationed_swap, State.anyCalled, hactive]; exact hx)
  rw [hd]
  obtain ⟨m, hm⟩ := htest.veh v
  exact ⟨⟨m, hm⟩, htest.footing v, htest.lane l⟩

/-! ### OUT (R18) -/

theorem State.yardSetOut_eq (htag : (s.veh v).tag ≠ 0) (hcall : onCall (s.veh v) = false) (hout : (s.veh v).state ≠ .out) :
    s.yardSetOut v = (.ok, ((s.withdraw v none).unbindBound v).setOut v) := by
  simp [State.yardSetOut, htag, hcall, hout]

end

end Sys2Proof.Machine

namespace Sys2Proof.Proofs
open Sys2Proof.Machine

/-- YARD_SET to a lane that takes the bus (R17). -/
theorem yardSet_stations {s : State} {r : Request} {rest : List Request} {v : Slot} {l : LaneNo}
    (h : s.TakesOrder r rest 6 (toBytes 2 v.val ++ toBytes 1 l.val)) (htag : (s.veh v).tag ≠ 0)
    (hcall : onCall (s.veh v) = false) (he : s.entry l v = none) (hroom : s.units v ≤ s.room l) (hrest : s.AtRest)
    (hn : s.NoneBlocked) :
    ∃ t, exec .yardSet s = .next t
      ∧ (∃ m, t.veh v = { s.veh v with
          state := .parked, location := .lane l .present none, misorder := m, shift := false
          arrival := if (s.veh v).state = .out then s.ycs.minute else (s.veh v).arrival })
      ∧ t.footing v = { Footing.none with entries := fun m => if l = m then [⟨v, .present, none⟩] else [] }
      ∧ (∃ new, (∀ e ∈ new, e.standing = .expected) ∧ (s.waitList = [] → new = [])
        ∧ (t.lane l).entries = match (s.lane l).cfg.kind with
          | .through => (s.lane l).entries ++ [⟨v, .present, none⟩] ++ new
          | .deadEnd => new ++ ((s.lane l).entries ++ [⟨v, .present, none⟩]))
      ∧ t.dlp.answer = (s.answered r rest .ok []).dlp.answer := by
  obtain ⟨⟨m, hveh⟩, hfoot, hlane⟩ := State.stationed_settle (s.takeRequest rest) v l hn hrest.2
  obtain ⟨new, hnew, hnil, hentries⟩ := State.stationed_lane (s.takeRequest rest) v l
  rw [State.stationed_veh, State.takeRequest_veh] at hveh
  rw [State.stationed_footing (s.takeRequest rest) v l he] at hfoot
  rw [← hlane] at hentries
  have howner := State.yardSet_stationed (s := s.takeRequest rest) (l := l) htag hcall he hroom
  have hexec := h.yardSet (slot_lt v) (by omega) (o := .ok) (u := (((s.takeRequest rest).stationed v l).testLane l).settle)
    (by rw [State.withLane_lane, State.withSlot_slot, howner, settled_ok])
  generalize (((s.takeRequest rest).stationed v l).testLane l).settle = e at *
  exact ⟨_, hexec, ⟨m, hveh⟩, hfoot, ⟨new, hnew, hnil, hentries⟩, rfl⟩

/-- YARD_SET OUT of a bus that is in the yard and not on call (R18). -/
theorem yardSetOut_removes {s : State} {r : Request} {rest : List Request} {v : Slot}
    (h : s.TakesOrder r rest 6 (toBytes 2 v.val ++ [255])) (htag : (s.veh v).tag ≠ 0) (hcall : onCall (s.veh v) = false)
    (hout : (s.veh v).state ≠ .out) (hrest : s.AtRest) :
    ∃ t, exec .yardSetOut s = .next t
      ∧ (∃ b, t.veh v = { s.veh v with
          state := .out, location := .none, boundRow := b, misorder := false, shift := false })
      ∧ t.StandsNowhere v
      ∧ (∀ i x, (s.veh v).boundRow = some i → s.row i = some x → x.state = .bound → s.ds.swap ≠ .pending →
          (t.veh v).boundRow = none ∧ t.row i = some x.unplanned)
      ∧ (s.flag .unscheduledExit = false → t.flag .unscheduledExit = false)
      ∧ t.dlp.answer = (s.answered r rest .ok []).dlp.answer := by
  have howner := State.yardSetOut_eq (s := s.takeRequest rest) (v := v) htag hcall hout
  generalize ht : ((((s.takeRequest rest).withdraw v none).unbindBound v).setOut v).settle = t
  obtain ⟨hveh, hnowhere, hrow, hflag⟩ := State.exit_settle (s := s.takeRequest rest) (v := v) hrest.2 ht.symm
  refine ⟨_, h.yardSetOut (slot_lt v) (o := .ok) (u := t) ?_, hveh, hnowhere, hrow, fun hf => ?_, rfl⟩
  · rw [State.withSlot_slot, howner, settled_ok, ht]
  · rw [State.placeAnswer_flag, hflag _ (by decide)]
    exact hf

/-- Settles O48: the bus is put at the tail and withdrawn from everywhere else, or withdrawn from everywhere. -/
theorem yardSet : Obligations.YardSet := by
  unfold Obligations.YardSet
  refine ⟨fun s r rest v n h hn => ⟨fun hrange => ?_, ?_⟩, fun s r rest w n hw hlt => ⟨fun hn h => ?_, fun h => ?_⟩,
    fun s r rest v h => ⟨fun hrefused => ?_, fun htag hout hrest => ?_, fun htag hcalled hdeparting hout hrest => ?_⟩⟩
  · exact h.yardSet (slot_lt v) hn (by rw [State.withLane_range hrange, settled_refused rfl])
  · rintro l rfl
    refine ⟨fun hrefused => ?_, fun htag hcalled hdeparting he hroom hrest hblocked => ?_⟩
    · have howner : (s.takeRequest rest).yardSet v l = (.conflict, s.takeRequest rest) := State.yardSet_refused hrefused
      exact h.yardSet (slot_lt v) hn (by rw [State.withLane_lane, State.withSlot_slot, howner, settled_refused rfl])
    · obtain ⟨t, hexec, ⟨m, hveh⟩, hfoot, ⟨new, -, hnil, hentries⟩, hanswer⟩ :=
        yardSet_stations h htag (by simp [onCall, hcalled, hdeparting]) he hroom hrest hblocked
      refine ⟨t, hexec, ?_, ?_, ?_, ?_, ?_, ?_, ?_, ?_, ?_, fun k hk => ?_, ?_, ?_, ?_, fun hw => ?_, hanswer⟩
      any_goals (rw [hveh])
      · simp [State.presentIn_eq_footing, hfoot]
      · simp [State.entry_eq_footing, hfoot, Ne.symm hk]
      · simp [State.hasTicket_false_iff, hfoot, Footing.none]
      · rw [← State.waits_eq_nil_iff, hfoot]; rfl
      · rw [hentries]
        cases (s.lane l).cfg.kind
        · exact List.prefix_append _ _
        · exact List.suffix_append _ _
      · rw [hentries, hnil hw]
        cases (s.lane l).cfg.kind <;> simp
  · by_cases hl : n < 32
    · refine h.yardSet hlt hn (o := .range) (u := s.takeRequest rest) ?_
      rw [State.withLane_lane ⟨n, hl⟩, State.withSlot_range hw, settled_refused rfl]
    · exact h.yardSet hlt hn (by rw [State.withLane_range (by omega), settled_refused rfl])
  · exact h.yardSetOut hlt (by rw [State.withSlot_range hw, settled_refused rfl])
  · have howner : (s.takeRequest rest).yardSetOut v = (.conflict, s.takeRequest rest) := by
      rcases hrefused with hr | hr | hr <;> simp [State.yardSetOut, onCall, hr]
    exact h.yardSetOut (slot_lt v) (by rw [State.withSlot_slot, howner, settled_refused rfl])
  · have howner : (s.takeRequest rest).yardSetOut v = (.ok, s.takeRequest rest) := by
      simp [State.yardSetOut, onCall, hout, htag]
    exact h.yardSetOut (slot_lt v)
      (by rw [State.withSlot_slot, howner, settled_ok, (State.takeRequest_atRest hrest).settle])
  · obtain ⟨t, hexec, ⟨b, hveh⟩, ⟨hlane, hticket, hwait⟩, hrow, hflag, hanswer⟩ :=
      yardSetOut_removes h htag (by simp [onCall, hcalled, hdeparting]) hout hrest
    refine ⟨t, hexec, ?_, ?_, ?_, ?_, ?_, hlane, hticket, hwait, hrow, hflag, hanswer⟩
    all_goals rw [hveh]

end Sys2Proof.Proofs
end

section
/-! The first stage of a visit (R8, R9): a ticket, or a placement that reserves a lane or joins the wait list. -/

namespace Sys2Proof.Machine

section
variable {s t u : State} {v w : Slot}

/-! ### Placement (R42 to R51) -/

theorem bestChoice_eq_none {list : List Choice} : bestChoice list = none ↔ list = [] := by
  constructor
  · cases list with
    | nil => exact fun _ => rfl
    | cons c rest =>
      intro h
      suffices ∀ (l : List Choice) (b : Choice), ∃ x, l.foldl (fun best c => match best with
          | none => some c
          | some b => if c.better b then some c else some b) (some b) = some x by
        obtain ⟨x, hx⟩ := this rest c
        exact absurd (h.symm.trans hx) (by simp)
      intro l
      induction l with
      | nil => exact fun b => ⟨b, rfl⟩
      | cons y rest ih =>
        intro b
        rw [List.foldl_cons]
        dsimp only
        split
        · exact ih y
        · exact ih b
  · rintro rfl; rfl

/-- The placement computation finds a lane exactly when some lane is a candidate (R42). -/
theorem State.placement_eq_none : s.placement v = none ↔ ∀ l, s.candidate .park v l = false := by
  rw [State.placement, bestChoice_eq_none]
  simp [mem_upTo]

/-- The lane it finds is a candidate (R42). -/
theorem State.placement_candidate {c : Choice} (h : s.placement v = some c) : s.candidate .park v c.lane = true := by
  have hmem := bestChoice_mem _ _ h
  rw [List.mem_map] at hmem
  obtain ⟨l, hl, rfl⟩ := hmem
  exact (List.mem_filter.mp hl).2

/-- Being a candidate is a matter of the lanes, the stations, and the vehicles' lengths. -/
theorem State.candidate_congr (hl : t.lanes = s.lanes) (hstation : ∀ a, t.silent a = s.silent a)
    (hu : ∀ x, t.units x = s.units x) (role : LaneRole) (l : LaneNo) : t.candidate role v l = s.candidate role v l := by
  have hlane (m : LaneNo) : t.lane m = s.lane m := by simp [State.lane, hl]
  have hstate : t.laneState l = s.laneState l := by simp only [State.laneState, hlane, hstation]
  have hroom : t.room l = s.room l := by simp only [State.room, State.unitsIn, hlane, hu]
  simp only [State.candidate, hstate, hroom, hlane, hu]

/-- The record of a vehicle that gets a reservation (R48). -/
theorem State.reserve_veh (s : State) (v : Slot) (c : Choice) (o : Origin) : (s.reserve v c o).veh v =
    { s.veh v with state := .toBerth, location := .lane c.lane .expected none, misorder := decide (c.cls = 3) } := by
  unfold State.reserve
  extract_lets p a b d e f
  have hd : d.veh v = { s.veh v with
      state := .toBerth, location := .lane c.lane .expected none, misorder := decide (c.cls = 3) } := by
    have hb : b.veh v = s.veh v := by
      show a.veh v = s.veh v
      simp [a, State.addAtJoinEnd_eq]
    simp only [d, State.modVeh_veh, if_true, hb]
  have he : e.veh v = d.veh v := by unfold e; split <;> rfl
  rw [State.notify_veh, State.direct_veh, he, hd]

/-- The core of a reservation: the lane list and the wait list (R48). -/
theorem State.reserve_core (s : State) (v : Slot) (c : Choice) (o : Origin) :
    (s.reserve v c o).lanes = (s.addAtJoinEnd c.lane ⟨v, .expected, some s.ss.params.arrivalTimeout⟩).lanes
    ∧ (s.reserve v c o).waitList = s.waitList.filter (fun w => w.slot ≠ v)
    ∧ (s.reserve v c o).stc = s.stc ∧ (s.reserve v c o).ds = (s.oweStep c.lane).ds := by
  unfold State.reserve
  extract_lets p a b d e f
  have ha : a.waitList = s.waitList ∧ a.stc = s.stc ∧ a.ds = (s.oweStep c.lane).ds := by
    simp [a, State.addAtJoinEnd_eq, State.writeEntries_ds]
  have hd : d.lanes = a.lanes ∧ d.waitList = a.waitList.filter (fun w => w.slot ≠ v) ∧ d.stc = a.stc ∧ d.ds = a.ds :=
    ⟨rfl, rfl, rfl, rfl⟩
  have he : e.lanes = d.lanes ∧ e.waitList = d.waitList ∧ e.stc = d.stc ∧ e.ds = d.ds := by
    unfold e; split <;> exact ⟨rfl, rfl, rfl, rfl⟩
  refine ⟨?_, ?_, ?_, ?_⟩
  · rw [State.notify_lanes, State.direct_lanes, he.1, hd.1]
  · rw [State.notify_waitList, State.direct_waitList, he.2.1, hd.2.1, ha.1]
  · rw [State.notify_stc, State.direct_stc, he.2.2.1, hd.2.2.1, ha.2.1]
  · rw [State.notify_ds, State.direct_ds, he.2.2.2, hd.2.2.2, ha.2.2]

theorem State.reserve_lane (s : State) (v : Slot) (c : Choice) (o : Origin) (m : LaneNo) :
    (s.reserve v c o).lane m = if c.lane = m then
      (s.lane c.lane).joined [⟨v, .expected, some s.ss.params.arrivalTimeout⟩] else s.lane m := by
  rw [State.lane, (s.reserve_core v c o).1, ← State.lane, State.addAtJoinEnd_eq, State.writeEntries_lane]
  split
  · unfold Lane.joined
    cases (s.lane c.lane).cfg.kind <;> rfl
  · rfl

/-- The footing of a vehicle that stood in no lane and gets a reservation. -/
theorem State.reserve_footing (h : (s.footing v).entries = fun _ => []) (c : Choice) (o : Origin) :
    (s.reserve v c o).footing v = { s.footing v with
      entries := fun m => if c.lane = m then [⟨v, .expected, some s.ss.params.arrivalTimeout⟩] else []
      waits := [] } := by
  obtain ⟨hl, hw, hs, -⟩ := s.reserve_core v c o
  have hq (k : QueueKind) : (s.reserve v c o).queue k = s.queue k := by cases k <;> simp [State.queue, hs]
  ext1
  · funext m
    have hm := congrFun h m
    simp only [State.footing, State.reserve_lane] at hm ⊢
    split
    · next e =>
      subst e
      unfold Lane.joined
      cases (s.lane c.lane).cfg.kind <;> simp [hm]
    · exact hm
  · simp only [State.footing, hq]
  · simp only [State.footing, State.bay, hs]
  · simp [State.footing, hw]

/-- The record of a vehicle that joins the wait list (R51). -/
theorem State.joinWaitList_veh (s : State) (v : Slot) (o : Origin) :
    (s.joinWaitList v o).veh v = { s.veh v with state := .inbound, location := .gate } := by
  unfold State.joinWaitList
  extract_lets a b
  have hb : b.veh v = { s.veh v with state := .inbound, location := .gate } := by
    simp only [b, State.modVeh_veh, if_true]
    rfl
  rw [State.notify_veh, State.raise_veh, hb]

theorem State.joinWaitList_spares (s : State) (h : v ≠ w) (o : Origin) : s.Spares w (s.joinWaitList v o) := by
  refine ⟨?_, ?_⟩
  · unfold State.joinWaitList
    extract_lets a b
    have hb : b.veh w = s.veh w := by
      simp only [b, State.modVeh_veh, h, if_false]
      rfl
    rw [State.notify_veh, State.raise_veh, hb]
  ext1 <;> simp [State.footing, State.joinWaitList, State.modVeh_eq, h] <;> rfl

theorem State.joinWaitList_core (s : State) (v : Slot) (o : Origin) : (s.joinWaitList v o).lanes = s.lanes
    ∧ (s.joinWaitList v o).waitList = s.waitList ++ [⟨v, o, s.ycs.minute⟩] ∧ (s.joinWaitList v o).stc = s.stc
    ∧ (s.joinWaitList v o).ds = s.ds ∧ (s.joinWaitList v o).ca = s.ca := by
  simp [State.joinWaitList, State.modVeh_eq]

/-- The placement of a vehicle that has come in and stands nowhere: a reservation, or the wait list (R39, R48, R51). -/
theorem State.requestPlacement_cases (hs : (s.veh v).state = .inbound) (hl : s.inSomeLane v = false)
    (hw : ∀ w ∈ s.waitList, w.slot ≠ v) (o : Origin) :
    (∃ c, s.placement v = some c ∧ s.requestPlacement v o = s.reserve v c o)
    ∨ s.placement v = none ∧ s.requestPlacement v o = s.joinWaitList v o := by
  have hfind : (s.waitList.find? fun w => decide (w.slot = v)) = none := by simpa using hw
  rw [State.requestPlacement, if_pos (by simp [hs, hl]), hfind]
  dsimp only
  cases h : s.placement v with
  | none => exact .inr ⟨rfl, rfl⟩
  | some c => exact .inl ⟨c, rfl, rfl⟩

/-! ### Tickets (R61) -/

theorem State.raise_raise (s : State) (f : EventFlag) : (s.raise f).raise f = s.raise f := by
  simp [State.raise, BitVec.or_assoc]

theorem State.enterYard_veh (s : State) (v : Slot) : (s.enterYard v).veh v = { s.veh v with
    state := .inbound, location := .gate, arrival := s.ycs.minute, washCounter := min 7 ((s.veh v).washCounter + 1)
    lastSoc := none, misorder := false, shift := false } := by simp [State.enterYard]

theorem State.enterYard_footing (s : State) (v : Slot) : (s.enterYard v).footing w = s.footing w := by
  simp [State.enterYard]

/-- The ticket that a request issues. -/
def newTicket (v : Slot) (k : QueueKind) (minute : Nat) : Ticket := { slot := v, kind := k, join := minute }

/-- The first stage of a vehicle without a ticket: a ticket, or placement, after QUEUE_FULL when a queue was full. -/
theorem State.firstStage_cases (ht : s.hasTicket v = false) : ∃ x, (x = s ∨ x = s.raise .queueFull)
    ∧ ((∃ k, s.firstStage v = x.enqueue (newTicket v k s.ycs.minute)) ∨ s.firstStage v = x.requestPlacement v .gate) := by
  have hwash : ∀ y : State, (y = s ∨ y = s.raise .queueFull) → ∃ x, (x = s ∨ x = s.raise .queueFull)
      ∧ ((∃ k, y.requestWash v .gate = x.enqueue (newTicket v k s.ycs.minute))
        ∨ y.requestWash v .gate = x.requestPlacement v .gate) := by
    intro y hy
    have hyt : y.hasTicket v = false := by rcases hy with rfl | rfl <;> exact ht
    have hyc : y.ycs = s.ycs := by rcases hy with rfl | rfl <;> rfl
    rw [State.requestWash, State.requestTicket, if_neg (by simp [hyt])]
    split
    · refine ⟨y.raise .queueFull, ?_, .inr rfl⟩
      rcases hy with rfl | rfl
      · exact .inr rfl
      · exact .inr (State.raise_raise _ _)
    · exact ⟨y, hy, .inl ⟨.wash, by rw [hyc]; rfl⟩⟩
  unfold State.firstStage
  split
  · rw [State.requestFuel, State.requestTicket, if_neg (by simp [ht])]
    split
    · rw [State.afterFuel]
      split
      · exact hwash _ (.inr rfl)
      · exact ⟨_, .inr rfl, .inr rfl⟩
    · exact ⟨s, .inl rfl, .inl ⟨.fuel, rfl⟩⟩
  · split
    · exact hwash s (.inl rfl)
    · exact ⟨s, .inl rfl, .inr rfl⟩

end

end Sys2Proof.Machine
end

section
/-! The ticket choices of one event (R66 to R68): what they do to the queue of one kind, and to the vehicle whose ticket has just
joined it. -/

namespace Sys2Proof.Machine

section
variable {s t a : State} {v w : Slot} {k : QueueKind} {T : Ticket}

theorem State.dequeue_queue (s : State) (k d : QueueKind) (x : Slot) :
    (s.dequeue k x).queue d = if k = d then (s.queue k).filter (fun t => t.slot ≠ x) else s.queue d := by
  simp [State.dequeue]

/-- What a ticket called to a bay does to the queues, the bays and the fleet (R68). -/
theorem State.callToBay_queue (s : State) (b : BayNo) (x : Ticket) (d : QueueKind) :
    (s.callToBay b x).queue d = (s.dequeue x.kind x.slot).queue d := by
  simp [State.callToBay, State.modVeh_eq, State.modBay_eq]

theorem State.callToBay_bay (s : State) (b : BayNo) (x : Ticket) (c : BayNo) : ((s.callToBay b x).bay c).cfg = (s.bay c).cfg
    ∧ (b = c → ((s.callToBay b x).bay c).state = .calling
        ∧ ((s.callToBay b x).bay c).ticket = some { x with state := .calledToBay })
    ∧ (b ≠ c → (s.callToBay b x).bay c = s.bay c) := by
  have hd : (s.dequeue x.kind x.slot).bay c = s.bay c := by simp [State.dequeue]
  refine ⟨?_, ?_, fun h => ?_⟩
  · simp only [State.callToBay, State.direct_bay, State.modVeh_eq, State.setVeh_bay, State.modBay_bay, hd]
    split <;> rfl
  · rintro rfl
    simp [State.callToBay, State.modVeh_eq]
  · simp [State.callToBay, State.modVeh_eq, h, hd]

theorem State.callToBay_veh (s : State) (b : BayNo) (x : Ticket) (w : Slot) : (s.callToBay b x).veh w =
    if x.slot = w then { s.veh w with location := .bay b } else s.veh w := by
  simp [State.callToBay, State.modBay_eq, State.dequeue]

/-- A ticket choice moves a vehicle to a bay at most. -/
theorem State.choose_veh (s : State) (b : BayNo) (w : Slot) : ∃ loc, (s.choose b).veh w = { s.veh w with location := loc } := by
  rcases s.choose_cases b with e | ⟨x, -, -, e⟩ <;> rw [e]
  · exact ⟨_, rfl⟩
  · rw [State.callToBay_veh]
    split
    · exact ⟨_, rfl⟩
    · exact ⟨_, rfl⟩

/-- `t` follows from `a` by choices at bays of one kind, where ticket `T` of vehicle `v` has just joined the queue. -/
structure State.Chosen (a : State) (v : Slot) (k : QueueKind) (T : Ticket) (t : State) : Prop where
  queues : ∀ d, d ≠ k → t.queue d = a.queue d
  kinds : ∀ x ∈ t.queue k, x.kind = k ∧ (x.slot = v → x = T)
  cfg : ∀ b, (t.bay b).cfg = (a.bay b).cfg
  self : ∃ loc, t.veh v = { a.veh v with location := loc }
    ∧ (loc = .queue k ∧ T ∈ t.queue k
      ∨ ∃ b, loc = .bay b ∧ (t.bay b).state = .calling ∧ (t.bay b).ticket = some { T with state := .calledToBay })
  others : ∀ w, w ≠ v → t.veh w = a.veh w
    ∨ ∃ b, t.veh w = { a.veh w with location := .bay b } ∧ (t.bay b).state = .calling ∧ t.bayHolds b w = true
  lanes : t.lanes = a.lanes
  waitList : t.waitList = a.waitList
  ds : t.ds = a.ds
  dlp : t.dlp = a.dlp
  ca : t.ca = a.ca

/-- A choice at a bay of the kind keeps the account: the vehicle that it calls is now in the bay. -/
theorem State.Chosen.choose (h : a.Chosen v k T t) (hT : T.slot = v) {b : BayNo} (hb : (a.bay b).cfg.kind = k) :
    a.Chosen v k T (t.choose b) := by
  obtain ⟨hl, hw, hd, hp, hc, -⟩ := t.choose_frame b
  have hbk : (t.bay b).cfg.kind = k := by rw [h.cfg, hb]
  rcases t.choose_cases b with e | ⟨x, hx, hfree, e⟩
  · rw [e]; exact h
  · rw [hbk] at hx
    obtain ⟨hkind, hself⟩ := h.kinds x hx
    have hqueue (d : QueueKind) := t.callToBay_queue b x d
    simp only [hkind, State.dequeue_queue] at hqueue
    have hcalled := (t.callToBay_bay b x b).2.1 rfl
    have hkeep {c : BayNo} (hs : (t.bay c).state = .calling) : (t.callToBay b x).bay c = t.bay c :=
      (t.callToBay_bay b x c).2.2 (by rintro rfl; rw [hfree] at hs; cases hs)
    have hholds : (t.callToBay b x).bayHolds b x.slot = true := by simp [State.bayHolds, hcalled.2]
    refine ⟨fun d hdk => ?_, fun y hy => ?_, fun c => ?_, ?_, fun w hwv => ?_, hl.trans h.lanes, hw.trans h.waitList,
      hd.trans h.ds, hp.trans h.dlp, hc.trans h.ca⟩
    all_goals rw [e] at *
    · rw [hqueue, if_neg (Ne.symm hdk), h.queues d hdk]
    · rw [hqueue, if_pos rfl] at hy
      exact h.kinds y (List.mem_of_mem_filter hy)
    · rw [(t.callToBay_bay b x c).1, h.cfg]
    · obtain ⟨loc, hveh, hplace⟩ := h.self
      by_cases hxv : x.slot = v
      · obtain rfl := hself hxv
        exact ⟨.bay b, by rw [State.callToBay_veh, if_pos hxv, hveh], .inr ⟨b, rfl, hcalled.1, hcalled.2⟩⟩
      · refine ⟨loc, by rw [State.callToBay_veh, if_neg hxv, hveh], ?_⟩
        rcases hplace with ⟨hloc, hmem⟩ | ⟨c, hloc, hs, ht⟩
        · refine .inl ⟨hloc, ?_⟩
          rw [hqueue, if_pos rfl, List.mem_filter]
          exact ⟨hmem, by simp [hT, Ne.symm hxv]⟩
        · exact .inr ⟨c, hloc, by rw [hkeep hs]; exact hs, by rw [hkeep hs]; exact ht⟩
    · rw [State.callToBay_veh]
      by_cases hxw : x.slot = w
      · rw [if_pos hxw]
        subst hxw
        refine .inr ⟨b, ?_, hcalled.1, hholds⟩
        rcases h.others x.slot hwv with e' | ⟨c, e', -⟩ <;> rw [e']
      · rw [if_neg hxw]
        rcases h.others w hwv with e' | ⟨c, e', hs, hh⟩
        · exact .inl e'
        · exact .inr ⟨c, e', by rw [hkeep hs]; exact hs, by rw [State.bayHolds, hkeep hs]; exact hh⟩

/-- The choices of an event that issued one ticket (R66). -/
theorem State.chooseDue_chosen {before : State} (hT : T.slot = v)
    (h0 : a.Chosen v k T a) (hj : ∀ d, before.joined a d = true → d = k) : a.Chosen v k T (a.chooseDue before none) :=
  forEach_keeps (a.Chosen v k T) _ _ a h0 fun b _ t ht => by
    split
    · next h =>
      refine ht.choose hT (hj _ ?_)
      simpa using h
    · exact ht

/-- With no ticket issued and no bay freed there is no choice to make (R66). -/
theorem State.chooseDue_none {before : State} (hj : ∀ d, before.joined a d = false) : a.chooseDue before none = a :=
  forEach_none _ _ a fun b _ => by simp [hj]

/-- A ticket issued to a vehicle that holds none: the account of the choices begins (R60, R61). -/
theorem State.enqueue_chosen (hk : s.QueuesOfTheirKind) (ht : s.hasTicket v = false) (hT : T.slot = v) (hTk : T.kind = k)
    (hTw : T.state = .waiting) : (s.enqueue T).Chosen v k T (s.enqueue T) := by
  subst hTk
  have hsame : { T with state := .waiting } = T := by rw [← hTw]
  have hqueue : (s.enqueue T).queue T.kind = s.insertTicket T (s.queue T.kind) := by
    simp [State.enqueue, State.modVeh_eq, hsame]
  have hnone : ∀ x ∈ s.queue T.kind, x.slot ≠ v := by
    have h := (State.hasTicket_false_iff.mp ht).1 T.kind
    simpa [State.footing] using h
  refine ⟨fun _ _ => rfl, fun x hx => ?_, fun _ => rfl, ⟨.queue T.kind, ?_, .inl ⟨rfl, ?_⟩⟩, fun _ _ => .inl rfl,
    rfl, rfl, rfl, rfl, rfl⟩
  · rw [hqueue, State.insertTicket_mem] at hx
    rcases hx with rfl | hx
    · exact ⟨rfl, fun _ => rfl⟩
    · exact ⟨hk T.kind x hx, fun hv => absurd hv (hnone x hx)⟩
  · have h := (s.enqueue_spec T).2
    rw [hT] at h
    rw [h]
  · rw [hqueue, State.insertTicket_mem]
    exact .inl rfl

/-- The queue that an issued ticket joins, and no other, gets longer. -/
theorem State.enqueue_joined {before : State} (hq : ∀ d, before.queue d = s.queue d) (d : QueueKind)
    (h : before.joined (s.enqueue T) d = true) : d = T.kind := by
  by_contra hne
  have : (s.enqueue T).queue d = s.queue d := by simp [State.enqueue, State.modVeh_eq, Ne.symm hne]
  simp [State.joined, hq, this] at h

end

end Sys2Proof.Machine
end

section
/-! GATE_IN (R8, R9, R11): a vehicle that comes in gets a ticket or goes to placement, and what the event leaves. -/

namespace Sys2Proof.Machine

section
variable {s t x : State} {v w : Slot} {k : QueueKind}

/-! ### Ticket requests (R61) -/

theorem State.requestTicket_room (ht : s.hasTicket v = false) (hl : s.liveTickets k < 64) (f : State → State) :
    s.requestTicket v k f = s.enqueue (newTicket v k s.ycs.minute) := by
  rw [State.requestTicket, if_neg (by simp [ht]), if_neg (by simpa [Config.ticketCapacity] using hl)]
  rfl

theorem State.requestTicket_full (ht : s.hasTicket v = false) (hl : 64 ≤ s.liveTickets k) (f : State → State) :
    s.requestTicket v k f = f (s.raise .queueFull) := by
  rw [State.requestTicket, if_neg (by simp [ht]), if_pos (by simpa [Config.ticketCapacity] using hl)]

/-- `x` is the state in which the vehicle has come in, with QUEUE_FULL raised or not. -/
def State.CameIn (s : State) (v : Slot) (x : State) : Prop := x = s.enterYard v ∨ x = (s.enterYard v).raise .queueFull

theorem State.CameIn.sameYard (h : s.CameIn v x) : (s.enterYard v).SameYard x := by
  rcases h with rfl | rfl
  · exact .refl _
  · exact State.raise_sameYard _ _

theorem State.CameIn.ca (h : s.CameIn v x) : x.ca = s.ca := by rcases h with rfl | rfl <;> rfl
theorem State.CameIn.dlp (h : s.CameIn v x) : x.dlp = s.dlp := by rcases h with rfl | rfl <;> rfl
theorem State.CameIn.blc (h : s.CameIn v x) : x.blc = s.blc := by rcases h with rfl | rfl <;> rfl
theorem State.CameIn.ds (h : s.CameIn v x) : x.ds = s.ds := by rcases h with rfl | rfl <;> rfl
theorem State.CameIn.stc (h : s.CameIn v x) : x.stc = s.stc := by rcases h with rfl | rfl <;> rfl
theorem State.CameIn.lanes (h : s.CameIn v x) : x.lanes = s.lanes := by rcases h with rfl | rfl <;> rfl
theorem State.CameIn.waitList (h : s.CameIn v x) : x.waitList = s.waitList := by rcases h with rfl | rfl <;> rfl
theorem State.CameIn.ycs (h : s.CameIn v x) : x.ycs = s.ycs := by rcases h with rfl | rfl <;> rfl
theorem State.CameIn.ss (h : s.CameIn v x) : x.ss = s.ss := by rcases h with rfl | rfl <;> rfl
theorem State.CameIn.queue (h : s.CameIn v x) (d : QueueKind) : x.queue d = s.queue d := by
  cases d <;> simp [State.queue, h.stc]

theorem State.CameIn.footing (h : s.CameIn v x) (w : Slot) : x.footing w = s.footing w :=
  State.footing_of_eq h.lanes h.stc h.waitList w

/-- The record of R8. -/
theorem State.CameIn.veh (h : s.CameIn v x) : x.veh v = { s.veh v with
    state := .inbound, location := .gate, arrival := s.ycs.minute, washCounter := min 7 ((s.veh v).washCounter + 1)
    lastSoc := none, misorder := false, shift := false } := by
  rw [h.sameYard.veh, State.enterYard_veh]

theorem State.CameIn.others (h : s.CameIn v x) (hw : w ≠ v) : x.veh w = s.veh w := by
  rw [h.sameYard.veh, State.enterYard, State.modVeh_veh, if_neg (Ne.symm hw)]

/-- The visit begins with a ticket (R9, R61, R66). -/
theorem State.enter_ticket (hx : s.CameIn v x)
    (hst : (s.enterYard v).firstStage v = x.enqueue (newTicket v k s.ycs.minute)) (ht : s.hasTicket v = false)
    (hq : s.QueuesOfTheirKind) :
    (x.enqueue (newTicket v k s.ycs.minute)).Chosen v k (newTicket v k s.ycs.minute) (s.enter v) := by
  have hxt : x.hasTicket v = false := by rw [State.hasTicket_congr (hx.footing v)]; exact ht
  have hxq : x.QueuesOfTheirKind := fun d y hy => hq d y (by rw [← hx.queue]; exact hy)
  rw [State.enter, hst]
  exact State.chooseDue_chosen rfl (State.enqueue_chosen hxq hxt rfl rfl rfl)
    fun d hd => State.enqueue_joined (fun d => (hx.queue d).symm) d hd

/-- The visit begins with a placement (R9, R39). -/
theorem State.enter_placement (hx : s.CameIn v x) (hst : (s.enterYard v).firstStage v = x.requestPlacement v .gate)
    (hl : s.inSomeLane v = false) (hw : ∀ w ∈ s.waitList, w.slot ≠ v) :
    (∃ c, x.placement v = some c ∧ s.enter v = x.reserve v c .gate)
    ∨ x.placement v = none ∧ s.enter v = x.joinWaitList v .gate := by
  have hxl : x.inSomeLane v = false := by rw [State.inSomeLane_congr (hx.footing v)]; exact hl
  have hxw : ∀ w ∈ x.waitList, w.slot ≠ v := by rw [hx.waitList]; exact hw
  have quiet {t : State} (hs : t.stc = x.stc) : t.chooseDue s none = t := by
    refine State.chooseDue_none fun d => ?_
    have hd : t.queue d = s.queue d := by rw [← hx.queue]; cases d <;> simp [State.queue, hs]
    simp [State.joined, hd]
  rcases State.requestPlacement_cases (by rw [hx.veh]) hxl hxw .gate with ⟨c, hc, e⟩ | ⟨hc, e⟩
  · refine .inl ⟨c, hc, ?_⟩
    rw [State.enter, hst, e, quiet (x.reserve_core v c .gate).2.2.1]
  · refine .inr ⟨hc, ?_⟩
    rw [State.enter, hst, e, quiet (x.joinWaitList_core v .gate).2.2.1]

/-- What a placement leaves of the vehicle and the plan, whichever way it goes. -/
theorem State.enter_placed (hx : s.CameIn v x) (hst : (s.enterYard v).firstStage v = x.requestPlacement v .gate)
    (hl : s.inSomeLane v = false) (hw : ∀ w ∈ s.waitList, w.slot ≠ v) :
    (∃ st loc m, (st = .toBerth ∨ st = .inbound)
      ∧ (s.enter v).veh v = { x.veh v with state := st, location := loc, misorder := m })
    ∧ (s.enter v).stc = s.stc ∧ (s.enter v).ds.active = s.ds.active ∧ (s.enter v).ds.swap = s.ds.swap
    ∧ ∀ m, (s.enter v).presentIn m v = false := by
  have hentries : (x.footing v).entries = fun _ => [] := by
    funext m
    rw [hx.footing]
    exact State.inSomeLane_false_iff.mp hl m
  rcases State.enter_placement hx hst hl hw with ⟨c, -, e⟩ | ⟨-, e⟩ <;> rw [e]
  · obtain ⟨-, -, hstc, hds⟩ := x.reserve_core v c .gate
    refine ⟨⟨_, _, _, .inl rfl, x.reserve_veh v c .gate⟩, hstc.trans hx.stc, ?_, ?_, fun m => ?_⟩
    · rw [hds, State.oweStep_active, hx.ds]
    · rw [hds, State.oweStep_swap, hx.ds]
    · rw [State.presentIn_eq_footing, State.reserve_footing hentries]
      dsimp only
      split <;> rfl
  · obtain ⟨hlanes, -, hstc, hds, -⟩ := x.joinWaitList_core v .gate
    refine ⟨⟨.inbound, .gate, (x.veh v).misorder, .inr rfl, x.joinWaitList_veh v .gate⟩, hstc.trans hx.stc,
      by rw [hds, hx.ds], by rw [hds, hx.ds], fun m => ?_⟩
    have hlane : (x.joinWaitList v .gate).lane m = x.lane m := by simp [State.lane, hlanes]
    have hm := congrFun hentries m
    simp only [State.footing] at hm
    rw [State.presentIn_eq_footing, State.footing]
    dsimp only
    rw [hlane, hm]
    rfl

/-- What the choices of an event leave of a vehicle and of the plan. -/
theorem State.chooseDue_frame (a before : State) (v : Slot) (freed : Option BayNo) :
    (∃ loc, (a.chooseDue before freed).veh v = { a.veh v with location := loc })
    ∧ (a.chooseDue before freed).lanes = a.lanes ∧ (a.chooseDue before freed).ds = a.ds := by
  refine forEach_keeps (fun t => (∃ loc, t.veh v = { a.veh v with location := loc }) ∧ t.lanes = a.lanes ∧ t.ds = a.ds)
    _ _ a ⟨⟨_, rfl⟩, rfl, rfl⟩ fun b _ t ht => ?_
  split
  · obtain ⟨⟨loc, hv⟩, hl, hd⟩ := ht
    obtain ⟨hl', -, hd', -⟩ := t.choose_frame b
    obtain ⟨loc', hv'⟩ := t.choose_veh b v
    exact ⟨⟨loc', by rw [hv', hv]⟩, hl'.trans hl, hd'.trans hd⟩
  · exact ht

/-- The entry of a vehicle that stands nowhere: SERVICE, TO_BERTH or INBOUND, with no PRESENT entry (R8, R9). -/
theorem State.enter_spec (h : s.footing v = .none) :
    (∃ st loc m, (st = .service ∨ st = .toBerth ∨ st = .inbound)
      ∧ (s.enter v).veh v = { (s.enterYard v).veh v with state := st, location := loc, misorder := m })
    ∧ (s.enter v).ds.active = s.ds.active ∧ (s.enter v).ds.swap = s.ds.swap
    ∧ ∀ m, (s.enter v).presentIn m v = false := by
  obtain ⟨hl, ht, hw⟩ := State.standsNowhere_iff.mpr h
  have het : (s.enterYard v).hasTicket v = false := by rw [State.hasTicket_congr (s.enterYard_footing v)]; exact ht
  obtain ⟨x, hx, ⟨k, hst⟩ | hst⟩ := State.firstStage_cases het
  · obtain ⟨⟨loc, hv⟩, hlanes, hds⟩ := ((s.enterYard v).firstStage v).chooseDue_frame s v none
    have hxc : s.CameIn v x := hx
    rw [hst] at hv hlanes hds
    have henter : s.enter v = (x.enqueue (newTicket v k (s.enterYard v).ycs.minute)).chooseDue s none := by
      rw [State.enter, hst]
    have hspec := (x.enqueue_spec (newTicket v k (s.enterYard v).ycs.minute)).2
    have hcore : (x.enqueue (newTicket v k (s.enterYard v).ycs.minute)).lanes = x.lanes
        ∧ (x.enqueue (newTicket v k (s.enterYard v).ycs.minute)).ds = x.ds := by
      simp [State.enqueue, State.modVeh_eq]
    rw [← henter] at hv hlanes hds
    refine ⟨⟨.service, loc, (x.veh v).misorder, .inl rfl, ?_⟩, ?_, ?_, fun m => ?_⟩
    · rw [hv, ← hxc.sameYard.veh]
      exact congrArg (fun r : Vehicle => { r with location := loc }) hspec
    · rw [hds, hcore.2, hxc.ds]
    · rw [hds, hcore.2, hxc.ds]
    · have hlane : (s.enter v).lane m = s.lane m := by simp [State.lane, hlanes, hcore.1, hxc.lanes]
      have hm := State.inSomeLane_false_iff.mp hl m
      simp only [State.footing] at hm
      rw [State.presentIn_eq_footing, State.footing]
      dsimp only
      rw [hlane, hm]
      rfl
  · have hxc : s.CameIn v x := hx
    obtain ⟨⟨st, loc, m, hs, hv⟩, -, ha, hp, hidle⟩ := State.enter_placed hxc hst hl hw
    refine ⟨⟨st, loc, m, .inr hs, ?_⟩, ha, hp, hidle⟩
    rw [hv, hxc.sameYard.veh]

/-! ### GATE_IN of a bus that is not OUT (R11) -/

/-- The state in which a bus that is not OUT comes in again: withdrawn, and its call undone (R11, R145). -/
def State.recalled (s : State) (v : Slot) : State :=
  let x := (s.yardConflict v (s.veh v).state kindGateIn.toNat).withdraw v none
  if onCall (s.veh v) then x.undoCall v else x

theorem State.gateIn_again (h : (s.veh v).state ≠ .out) : s.gateIn v = (s.recalled v).enter v := by
  rw [State.gateIn, if_neg h]
  rfl

theorem State.recalled_unbinds (s : State) (v : Slot) :
    ((s.yardConflict v (s.veh v).state kindGateIn.toNat).withdraw v none).Unbinds v (s.recalled v) := by
  unfold State.recalled
  extract_lets x
  split
  · exact x.undoCall_unbinds v
  · exact .refl x v

theorem State.recalled_veh (s : State) (v : Slot) :
    ∃ b, (s.recalled v).veh v = { s.veh v with misorder := false, shift := false, boundRow := b } := by
  obtain ⟨b, hb⟩ := (s.recalled_unbinds v).veh
  refine ⟨b, ?_⟩
  rw [hb, State.withdraw_veh, State.yardConflict_veh]

theorem State.recalled_footing (s : State) (v : Slot) : (s.recalled v).footing v = .none := by
  rw [(s.recalled_unbinds v).footing, State.withdraw_footing, Footing.only_none]

theorem State.recalled_beside (s : State) (v : Slot) :
    (s.yardConflict v (s.veh v).state kindGateIn.toNat).Beside (s.recalled v) := by
  unfold State.recalled
  extract_lets x
  have hx : (s.yardConflict v (s.veh v).state kindGateIn.toNat).Beside x := (State.Beside.refl _).withdraw
  split
  · exact hx.undoCall
  · exact hx

theorem State.recalled_swap (s : State) (v : Slot) : (s.recalled v).ds.swap = s.ds.swap := by
  rw [(s.recalled_unbinds v).swap, State.withdraw_swap, State.yardConflict_ds]

theorem State.recalled_undone {i : Nat} {r : PlanRow} (hcall : onCall (s.veh v) = true) (hi : (s.veh v).boundRow = some i)
    (hr : s.row i = some r) (hc : r.state = .called) :
    (s.recalled v).row i = some r.unplanned ∧ ((s.recalled v).veh v).boundRow = none := by
  have hrow : ((s.yardConflict v (s.veh v).state kindGateIn.toNat).withdraw v none).row i = some r := by
    rw [State.withdraw_row, State.yardConflict_row, hr]
  have hveh : (((s.yardConflict v (s.veh v).state kindGateIn.toNat).withdraw v none).veh v).boundRow = some i := by
    rw [State.withdraw_veh, State.yardConflict_veh]
    exact hi
  have h : s.recalled v = ((s.yardConflict v (s.veh v).state kindGateIn.toNat).withdraw v none).undoCall v := by
    simp [State.recalled, hcall]
  rw [h]
  exact State.undoCall_called hveh hrow hc

theorem State.yardConflict_flag_self (s : State) (v : Slot) (b : VehicleState) (n : Nat) :
    (s.yardConflict v b n).flag .yardConflict = true := by
  rw [State.yardConflict, State.notify_flag _ _ (by decide), State.raise_flag_self]

/-- The notice of a YARD_CONFLICT joins the FIFO while it has room (R19, R166). -/
theorem State.yardConflict_notices (s : State) (v : Slot) (b : VehicleState) (n : Nat) (hm : s.ycs.mode = .normal)
    (hl : s.dlp.notices.length < 16) :
    (s.yardConflict v b n).dlp.notices = s.dlp.notices ++ [.yardConflict (s.veh v).tag v b n] := by
  rw [State.yardConflict]
  rcases (s.raise .yardConflict).notify_cases (.yardConflict (s.veh v).tag v b n) with ⟨hf, -⟩ | ⟨-, hfull, -⟩ | ⟨-, -, e⟩
  · simp [hm] at hf
  · simp at hfull; omega
  · rw [e]; rfl

end

end Sys2Proof.Machine
end

section
/-! GATE_IN, clause by clause (R8, R9, R11). -/

namespace Sys2Proof.Proofs
open Sys2Proof.Machine

variable {s : State} {v : Slot} {k : QueueKind}

/-- The first stage that a vehicle's propulsion and wash counter call for, its queue having room (R9, R61). -/
theorem firstStage_issues {x : State} (ht : x.hasTicket v = false) (hl : x.liveTickets k < 64)
    (hk : (x.veh v).propulsion = .diesel ∧ k = .fuel
      ∨ (x.veh v).propulsion = .electric ∧ x.ss.params.washInterval ≤ (x.veh v).washCounter ∧ k = .wash) :
    x.firstStage v = x.enqueue (newTicket v k x.ycs.minute) := by
  rcases hk with ⟨hp, rfl⟩ | ⟨hp, hw, rfl⟩
  · rw [State.firstStage, hp]
    exact State.requestTicket_room ht hl _
  · rw [State.firstStage, hp]
    simp only [ge_iff_le, hw, if_true]
    exact State.requestTicket_room ht hl _

/-- The visit begins with a ticket, which a bay may take at once. -/
theorem gateIn_ticket {x : State} (hx : s.CameIn v x)
    (hst : (s.enterYard v).firstStage v = x.enqueue (newTicket v k s.ycs.minute)) (hout : (s.veh v).state = .out)
    (hrest : s.AtRest) (ht : s.hasTicket v = false) (hq : s.QueuesOfTheirKind) :
    ∃ t loc, (s.gateIn v).settle = t
      ∧ t.veh v = { s.veh v with
          state := .service, location := loc, arrival := s.ycs.minute, washCounter := min 7 ((s.veh v).washCounter + 1)
          lastSoc := none, misorder := false, shift := false }
      ∧ (loc = .queue k ∧ newTicket v k s.ycs.minute ∈ t.queue k
        ∨ ∃ b, loc = .bay b ∧ (t.bay b).state = .calling
            ∧ (t.bay b).ticket = some { newTicket v k s.ycs.minute with state := .calledToBay })
      ∧ (∀ w, w ≠ v → t.veh w = s.veh w ∨ ∃ b, t.veh w = { s.veh w with location := .bay b } ∧ t.bayHolds b w = true)
      ∧ t.lanes = s.lanes ∧ t.waitList = s.waitList ∧ t.ca = s.ca ∧ t.ds = s.ds ∧ (∀ d, d ≠ k → t.queue d = s.queue d)
      ∧ t.dlp = s.dlp ∧ x.Beside t := by
  have hch := State.enter_ticket hx hst ht hq
  have hgate : s.gateIn v = s.enter v := by rw [State.gateIn, if_pos hout]
  have hbeside : x.Beside (s.enter v) := by
    rw [State.enter, hst]
    exact (State.Beside.refl x).enqueue.chooseDue
  obtain ⟨loc, hself, hplace⟩ := hch.self
  have hspec := (x.enqueue_spec (newTicket v k s.ycs.minute)).2
  have hothers (w : Slot) (hw : w ≠ v) : (x.enqueue (newTicket v k s.ycs.minute)).veh w = s.veh w := by
    rw [← hx.others hw]
    simp [State.enqueue, newTicket, Ne.symm hw]
  have hcore : (x.enqueue (newTicket v k s.ycs.minute)).lanes = s.lanes
      ∧ (x.enqueue (newTicket v k s.ycs.minute)).waitList = s.waitList
      ∧ (x.enqueue (newTicket v k s.ycs.minute)).ca = s.ca
      ∧ (x.enqueue (newTicket v k s.ycs.minute)).ds = s.ds
      ∧ (x.enqueue (newTicket v k s.ycs.minute)).dlp = s.dlp := by
    rw [← hx.lanes, ← hx.waitList, ← hx.ca, ← hx.ds, ← hx.dlp]
    simp [State.enqueue, State.modVeh_eq]
  obtain ⟨clanes, cwait, cca, cds, cdlp⟩ := hcore
  have hqueues (d : QueueKind) (hd : d ≠ k) : (x.enqueue (newTicket v k s.ycs.minute)).queue d = s.queue d := by
    rw [← hx.queue d]
    simp [State.enqueue, State.modVeh_eq, newTicket, Ne.symm hd]
  have hds : (s.enter v).ds = s.ds := hch.ds.trans cds
  rw [hgate, (hrest.of_ds hds).settle]
  refine ⟨_, loc, rfl, ?_, hplace, fun w hw => ?_, hch.lanes.trans clanes, hch.waitList.trans cwait, hch.ca.trans cca,
    hds, fun d hd => (hch.queues d hd).trans (hqueues d hd), hch.dlp.trans cdlp, hbeside⟩
  · rw [hself, show (x.enqueue (newTicket v k s.ycs.minute)).veh v = _ from hspec]
    simp only [newTicket, hx.veh]
  · rcases hch.others w hw with e | ⟨b, e, -, hb⟩
    · exact .inl (e.trans (hothers w hw))
    · exact .inr ⟨b, by rw [e, hothers w hw], hb⟩

/-- QUEUE_FULL, and the next stage (R61, R62): the wash after a full FUEL queue, placement after a full last queue. -/
theorem firstStage_full {x : State} (ht : x.hasTicket v = false) :
    ((x.veh v).propulsion = .diesel ∧ 64 ≤ x.liveTickets .fuel
        ∧ ((x.veh v).washCounter < x.ss.params.washInterval ∨ 64 ≤ x.liveTickets .wash)
      ∨ (x.veh v).propulsion = .electric ∧ x.ss.params.washInterval ≤ (x.veh v).washCounter
        ∧ 64 ≤ x.liveTickets .wash → x.firstStage v = (x.raise .queueFull).requestPlacement v .gate)
    ∧ ((x.veh v).propulsion = .diesel → 64 ≤ x.liveTickets .fuel → x.ss.params.washInterval ≤ (x.veh v).washCounter →
        x.liveTickets .wash < 64 → x.firstStage v = (x.raise .queueFull).enqueue (newTicket v .wash x.ycs.minute)) := by
  have hraised : (x.raise .queueFull).hasTicket v = false := ht
  have hdiesel (hp : (x.veh v).propulsion = .diesel) (hf : 64 ≤ x.liveTickets .fuel) :
      x.firstStage v = (x.raise .queueFull).afterFuel v .gate := by
    rw [State.firstStage, hp]
    exact State.requestTicket_full ht hf _
  refine ⟨?_, fun hp hf hw hl => ?_⟩
  · rintro (⟨hp, hf, hw⟩ | ⟨hp, hw, hl⟩)
    · rw [hdiesel hp hf, State.afterFuel]
      split
      · next hge =>
        have hfull : 64 ≤ (x.raise .queueFull).liveTickets .wash := by
          rcases hw with hw | hw
          · exact absurd hge (by simp; omega)
          · exact hw
        rw [State.requestWash, State.requestTicket_full hraised hfull, State.raise_raise]
      · rfl
    · rw [State.firstStage, hp]
      simp only [ge_iff_le, hw, if_true]
      exact State.requestTicket_full ht hl _
  · have hw' : ((x.raise .queueFull).veh v).washCounter ≥ (x.raise .queueFull).ss.params.washInterval := hw
    rw [hdiesel hp hf, State.afterFuel, if_pos hw']
    exact State.requestTicket_room (k := .wash) hraised hl _

/-- The visit begins with a placement: the vehicle is TO_BERTH or INBOUND, and no ticket is touched. -/
theorem gateIn_placed {x : State} (hx : s.CameIn v x)
    (hst : (s.enterYard v).firstStage v = x.requestPlacement v .gate) (hout : (s.veh v).state = .out)
    (hl : s.inSomeLane v = false) (hw : ∀ w ∈ s.waitList, w.slot ≠ v) :
    ∃ t, (s.gateIn v).settle = t ∧ x.Beside t ∧ (t.veh v).washCounter = min 7 ((s.veh v).washCounter + 1)
      ∧ ((t.veh v).state = .toBerth ∨ (t.veh v).state = .inbound) ∧ t.stc = s.stc := by
  obtain ⟨⟨st, loc, m, hs, hveh⟩, hstc, -, -, hidle⟩ := State.enter_placed hx hst hl hw
  obtain ⟨-, b, n, hsettle⟩ := State.settle_idle hidle
  have hgate : s.gateIn v = s.enter v := by rw [State.gateIn, if_pos hout]
  have hbeside : x.Beside (s.enter v).settle := by
    rw [State.enter, hst]
    exact (State.Beside.refl x).requestPlacement.chooseDue.settle
  rw [hgate]
  refine ⟨_, rfl, hbeside, ?_, ?_, (State.settle_stc _).trans hstc⟩
  · rw [hsettle, hveh, hx.veh]
  · rw [hsettle, hveh]
    exact hs

/-- GATE_IN of a bus that needs neither fuel nor a wash, when a lane is a candidate (R42, R48). -/
theorem gateIn_reserves {x : State} (hx : x = s.enterYard v) (hst : x.firstStage v = x.requestPlacement v .gate)
    (hout : (s.veh v).state = .out) (hl : s.inSomeLane v = false) (hw : ∀ w ∈ s.waitList, w.slot ≠ v)
    (hn : s.NoneBlocked) (hrest : s.AtRest) (hc : ∃ l, s.candidate .park v l = true) :
    ∃ t l, (s.gateIn v).settle = t ∧ s.candidate .park v l = true
      ∧ (t.veh v).state = .toBerth ∧ (t.veh v).location = .lane l .expected none
      ∧ (t.veh v).arrival = s.ycs.minute ∧ (t.veh v).lastSoc = none
      ∧ t.entry l v = some ⟨v, .expected, some s.ss.params.arrivalTimeout⟩
      ∧ t.waitList = s.waitList ∧ t.stc = s.stc ∧ (∀ w, w ≠ v → t.veh w = s.veh w) ∧ ∀ m, m ≠ l → t.lane m = s.lane m := by
  have hcame : s.CameIn v x := .inl hx
  have hcand (l : LaneNo) : x.candidate .park v l = s.candidate .park v l := by
    refine State.candidate_congr hcame.lanes (fun a => by simp [State.silent, State.station, hcame.blc]) (fun y => ?_) _ l
    by_cases hy : y = v
    · subst hy; simp [State.units, unitsOf, hcame.veh]
    · simp [State.units, hcame.others hy]
  have hentries : (x.footing v).entries = fun _ => [] := by
    funext m
    rw [hcame.footing]
    exact State.inSomeLane_false_iff.mp hl m
  rcases State.enter_placement hcame (by rw [← hx]; exact hst) hl hw with ⟨c, hplace, henter⟩ | ⟨hnone, -⟩
  · have hres : x.Reserves (x.reserve v c .gate) := (State.Reserves.refl x).reserve
    have hactive := State.reserve_row (s := x) v c .gate
    have hblocked : (x.reserve v c .gate).NoneBlocked := hn.of_active (by rw [hactive, hcame.ds])
    have hdue : ¬ ((x.reserve v c .gate).ds.swap = .pending ∧ (x.reserve v c .gate).anyCalled = false) := by
      rw [hres.swap, State.anyCalled, hactive, hcame.ds]
      exact hrest.2
    obtain ⟨d, hd, -⟩ := hblocked.settle hdue
    obtain ⟨hlanes, hwait, hstc, -⟩ := x.reserve_core v c .gate
    have hothers (w : Slot) (hwv : w ≠ v) : (x.reserve v c .gate).veh w = s.veh w := by
      rw [((State.Spares.refl x w).reserve (Ne.symm hwv)).veh, hcame.others hwv]
    have hentry : (x.reserve v c .gate).entry c.lane v = some ⟨v, .expected, some s.ss.params.arrivalTimeout⟩ := by
      rw [State.entry_eq_footing, State.reserve_footing hentries, ← hcame.ss]
      simp
    have hother (m : LaneNo) (hm : m ≠ c.lane) : (x.reserve v c .gate).lane m = s.lane m := by
      rw [State.reserve_lane, if_neg (Ne.symm hm), State.lane, hcame.lanes, State.lane]
    have hwait' : (x.reserve v c .gate).waitList = s.waitList := by
      rw [hwait, hcame.waitList, List.filter_eq_self]
      simpa using hw
    have hveh := x.reserve_veh v c .gate
    rw [hcame.veh] at hveh
    have hstc' := hstc.trans hcame.stc
    have hgate : (s.gateIn v).settle = { x.reserve v c .gate with ds := d } := by
      rw [State.gateIn, if_pos hout, henter, hd]
    have hcl : s.candidate .park v c.lane = true := by rw [← hcand]; exact State.placement_candidate hplace
    generalize x.reserve v c .gate = e at *
    have hv : ({ e with ds := d } : State).veh v = e.veh v := rfl
    refine ⟨_, c.lane, hgate, hcl, ?_, ?_, ?_, ?_, hentry, hwait', hstc', hothers, hother⟩
    all_goals rw [hv, hveh]
  · obtain ⟨l, hcl⟩ := hc
    rw [State.placement_eq_none] at hnone
    have h := hnone l
    rw [hcand, hcl] at h
    cases h

/-- GATE_IN of a bus that needs neither fuel nor a wash, when no lane is a candidate (R51). -/
theorem gateIn_waits {x : State} (hx : x = s.enterYard v) (hst : x.firstStage v = x.requestPlacement v .gate)
    (hout : (s.veh v).state = .out) (hl : s.inSomeLane v = false) (hw : ∀ w ∈ s.waitList, w.slot ≠ v)
    (hrest : s.AtRest) (hc : ∀ l, s.candidate .park v l = false) :
    ∃ t, (s.gateIn v).settle = t
      ∧ t.veh v = { s.veh v with
          state := .inbound, location := .gate, arrival := s.ycs.minute
          washCounter := min 7 ((s.veh v).washCounter + 1), lastSoc := none, misorder := false, shift := false }
      ∧ t.waitList = s.waitList ++ [⟨v, .gate, s.ycs.minute⟩] ∧ t.flag .noBerth = true
      ∧ t.lanes = s.lanes ∧ t.stc = s.stc ∧ t.ca = s.ca ∧ t.ds = s.ds ∧ ∀ w, w ≠ v → t.veh w = s.veh w := by
  have hcame : s.CameIn v x := .inl hx
  have hcand (l : LaneNo) : x.candidate .park v l = s.candidate .park v l := by
    refine State.candidate_congr hcame.lanes (fun a => by simp [State.silent, State.station, hcame.blc]) (fun y => ?_) _ l
    by_cases hy : y = v
    · subst hy; simp [State.units, unitsOf, hcame.veh]
    · simp [State.units, hcame.others hy]
  rcases State.enter_placement hcame (by rw [← hx]; exact hst) hl hw with ⟨c, hplace, -⟩ | ⟨-, henter⟩
  · have h := State.placement_candidate hplace
    rw [hcand, hc] at h
    cases h
  · obtain ⟨hlanes, hwait, hstc, hds, hca⟩ := x.joinWaitList_core v .gate
    have hflag : (x.joinWaitList v .gate).flag .noBerth = true := by
      rw [State.joinWaitList, State.notify_flag _ _ (by decide), State.raise_flag_self]
    have hds' := hds.trans hcame.ds
    rw [State.gateIn, if_pos hout, henter, (hrest.of_ds hds').settle]
    refine ⟨_, rfl, ?_, ?_, hflag, hlanes.trans hcame.lanes, hstc.trans hcame.stc, hca.trans hcame.ca, hds', fun w hwv => ?_⟩
    · rw [State.joinWaitList_veh, hcame.veh]
    · rw [hwait, hcame.waitList, hcame.ycs]
    · rw [(x.joinWaitList_spares (Ne.symm hwv) .gate).veh, hcame.others hwv]

/-- GATE_IN of a bus that is not OUT (R11). -/
theorem gateIn_again (hout : (s.veh v).state ≠ .out) :
    ∃ t, (s.gateIn v).settle = t
      ∧ (s.yardConflict v (s.veh v).state 1).Beside t
      ∧ (∃ st loc b m, (st = .service ∨ st = .toBerth ∨ st = .inbound)
        ∧ t.veh v = { s.veh v with
            state := st, location := loc, arrival := s.ycs.minute, washCounter := min 7 ((s.veh v).washCounter + 1)
            lastSoc := none, shift := false, boundRow := b, misorder := m })
      ∧ t.presentLane v = none
      ∧ (onCall (s.veh v) = true → CallUndone s t v) := by
  have hfoot := s.recalled_footing v
  obtain ⟨⟨st, loc, m, hst, hveh⟩, hactive, hswap, hidle⟩ := State.enter_spec hfoot
  obtain ⟨b, hb⟩ := s.recalled_veh v
  have hbeside := s.recalled_beside v
  have hycs : (s.recalled v).ycs = s.ycs := by rw [hbeside.ycs, State.yardConflict_ycs]
  rw [State.enterYard_veh, hb, hycs] at hveh
  obtain ⟨-, b', n, hsettle⟩ := State.settle_idle hidle
  rw [State.gateIn_again hout]
  refine ⟨_, rfl, hbeside.enter.settle, ⟨st, loc, b', n, hst, by rw [hsettle, hveh]⟩, ?_, fun hcall i r hi hr hc hp => ?_⟩
  · rw [State.settle_presentLane, State.presentLane, List.find?_eq_none]
    exact fun m _ => by simp [hidle m]
  · obtain ⟨hrow, hnone⟩ := State.recalled_undone hcall hi hr hc
    have hp' : ((s.recalled v).enter v).ds.swap ≠ .pending := by rw [hswap, State.recalled_swap]; exact hp
    have hrow' : ((s.recalled v).enter v).row i = some r.unplanned := by rw [State.row, hactive]; exact hrow
    refine ⟨State.settle_row hrow' (by simp) hp', ?_⟩
    rw [(State.settle_spares hidle fun h => hp' h.1).veh, hveh]
    rw [hb] at hnone
    exact hnone

/-- The ticket clauses, for the first stage that the propulsion and the wash counter call for. -/
theorem firstStage_enterYard_issues (ht : s.hasTicket v = false) (hl : s.liveTickets k < 64)
    (hk : (s.veh v).propulsion = .diesel ∧ k = .fuel
      ∨ (s.veh v).propulsion = .electric ∧ s.ss.params.washInterval ≤ min 7 ((s.veh v).washCounter + 1) ∧ k = .wash) :
    (s.enterYard v).firstStage v = (s.enterYard v).enqueue (newTicket v k s.ycs.minute) :=
  firstStage_issues (by rw [State.hasTicket_congr (s.enterYard_footing v)]; exact ht) hl
    (by rw [State.enterYard_veh]; exact hk)

/-- Settles O24: the first stage of the visit decides between a ticket, a reservation and the wait list. -/
theorem gateInStartsAVisit : Obligations.GateInStartsAVisit := by
  unfold Obligations.GateInStartsAVisit
  refine ⟨fun s src tag v k hd htag hv hout hk ht hl hq => ?_, fun s src tag v n hd htag hv hout hn ht hlane hw hq => ?_,
    fun s src tag v hd htag hv hout hp hwash hlane hw hn => ?_, fun s src tag v hd htag hv hout => ?_⟩
  · obtain ⟨t, loc, heq, hveh, hplace, hothers, hlanes, hwait, hca, hds, hqueue, hdlp, hbeside⟩ :=
      gateIn_ticket (s := s.replied src) (.inl rfl) (firstStage_enterYard_issues ht hl hk) hout (hd.2.2.2.of_ds rfl) ht
        (fun d x hx => hq d x (by simpa using hx))
    exact ⟨t, loc, by rw [hd.gateIn htag hv, heq], hveh, hplace, hothers, hlanes, hwait, hca, hds,
      fun d hdk => (hqueue d hdk).trans (State.replied_queue d), hbeside.tau, hbeside.ycs, hbeside.ss, hdlp⟩
  · have het : ((s.replied src).enterYard v).hasTicket v = false := by
      rw [State.hasTicket_congr (State.enterYard_footing _ v)]
      exact ht
    have hveh := (s.replied src).enterYard_veh v
    obtain ⟨hplaces, hissues⟩ := firstStage_full het
    rw [hveh] at hplaces hissues
    refine ⟨fun hfull => ?_, fun hp hf hwash hroom => ?_⟩
    · obtain ⟨t, heq, hbeside, hcounter, hstate, hstc⟩ :=
        gateIn_placed (s := s.replied src) (.inr rfl) (hplaces (by subst hn; exact hfull)) hout hlane hw
      exact ⟨t, by rw [hd.gateIn htag hv, heq], hbeside.flags _ (State.raise_flag_self _ _), by rw [hn]; exact hcounter,
        hstate, hstc⟩
    · obtain ⟨t, loc, heq, hveh, hplace, -, -, -, -, -, hqueue, -, hbeside⟩ :=
        gateIn_ticket (s := s.replied src) (.inr rfl) (hissues hp hf (by subst hn; exact hwash) hroom) hout
          (hd.2.2.2.of_ds rfl) ht (fun d x hx => hq d x (by simpa using hx))
      refine ⟨t, by rw [hd.gateIn htag hv, heq], hbeside.flags _ (State.raise_flag_self _ _), ?_, ?_,
        (hqueue .fuel (by decide)).trans (State.replied_queue .fuel), ?_⟩
      · rw [hveh, hn]; rfl
      · rw [hveh]
      · rcases hplace with ⟨-, hmem⟩ | ⟨b, -, -, hb⟩
        · exact .inl hmem
        · exact .inr ⟨b, hb⟩
  · have hst : ((s.replied src).enterYard v).firstStage v
        = ((s.replied src).enterYard v).requestPlacement v .gate := by
      have hveh := (s.replied src).enterYard_veh v
      have hpe : (((s.replied src).enterYard v).veh v).propulsion = .electric := by rw [hveh]; exact hp
      have hwe : ¬ ((s.replied src).enterYard v).ss.params.washInterval
          ≤ (((s.replied src).enterYard v).veh v).washCounter := by rw [hveh]; exact Nat.not_le.mpr hwash
      rw [State.firstStage, hpe]
      simp only [ge_iff_le, hwe, if_false]
    have hcand (l : LaneNo) : (s.replied src).candidate .park v l = s.candidate .park v l :=
      State.candidate_congr (s := s) (t := s.replied src) rfl State.replied_silent (fun _ => rfl) _ l
    refine ⟨fun hc => ?_, fun hc => ?_⟩
    · obtain ⟨t, l, heq, hcl, h⟩ := gateIn_reserves (s := s.replied src) rfl hst hout hlane hw hn (hd.2.2.2.of_ds rfl)
        (by simpa [hcand] using hc)
      exact ⟨t, l, by rw [hd.gateIn htag hv, heq], by rw [← hcand]; exact hcl, h⟩
    · obtain ⟨t, heq, h⟩ := gateIn_waits (s := s.replied src) rfl hst hout hlane hw (hd.2.2.2.of_ds rfl)
        (by simpa [hcand] using hc)
      exact ⟨t, by rw [hd.gateIn htag hv, heq], h⟩
  · obtain ⟨t, heq, hbeside, ⟨st, loc, b, m, hst, hveh⟩, hlane, hundone⟩ := gateIn_again (s := s.replied src) (v := v) hout
    refine ⟨t, by rw [hd.gateIn htag hv, heq], hbeside.flags _ (State.yardConflict_flag_self _ _ _ _), fun hm hl => ?_,
      ?_, ?_, ?_, ?_, ?_, ?_, hlane, fun hcall => hundone (onCall_iff.mpr hcall)⟩
    · have hn := State.yardConflict_notices (s.replied src) v ((s.replied src).veh v).state 1 hm hl
      have hp := hbeside.notices
      rw [hn, State.replied_veh, State.slotOf_some hv] at hp
      exact hp
    all_goals rw [hveh]
    any_goals rfl
    exact hst

end Sys2Proof.Proofs
end

section
/-! What the reports of lane readers need (R29 to R33): the list of a lane after an arrival, the marks after a removal, the
chargers after a departure, and an exchange seen by a vehicle that stands in no lane. -/

namespace Sys2Proof.Machine

/-! ### An arrival (R29) -/

section
variable {v : Slot} {carry e : Entry} {es : List Entry}

/-- The vehicle has an EXPECTED entry in the list. -/
def Awaits (v : Slot) (es : List Entry) : Prop := ∃ e ∈ es, e.slot = v ∧ e.standing = .expected

theorem awaits_tail_of_present (h : Awaits v (e :: es)) (he : e.standing = .present) : Awaits v es := by
  obtain ⟨x, hx, hs, hp⟩ := h
  rcases List.mem_cons.mp hx with rfl | hx
  · rw [he] at hp; cases hp
  · exact ⟨x, hx, hs, hp⟩

theorem awaits_tail_of_ne (h : Awaits v (e :: es)) (he : e.slot ≠ v) : Awaits v es := by
  obtain ⟨x, hx, hs, hp⟩ := h
  rcases List.mem_cons.mp hx with rfl | hx
  · exact absurd hs he
  · exact ⟨x, hx, hs, hp⟩

theorem arriveThrough_present (he : e.standing = .present) :
    arriveThrough v carry (e :: es) = e :: arriveThrough v carry es := by simp [arriveThrough, he]

theorem arriveThrough_expected (he : e.standing = .expected) :
    arriveThrough v carry (e :: es) = carry :: if e.slot = v then es else arriveThrough v e es := by
  simp [arriveThrough, he]

theorem standing_cases (e : Entry) : e.standing = .present ∨ e.standing = .expected := by
  cases e.standing
  · exact .inl rfl
  · exact .inr rfl

theorem filter_slot_ne_of_notMem (h : v ∉ es.map Entry.slot) : es.filter (fun e => e.slot ≠ v) = es := by
  rw [List.filter_eq_self]
  intro x hx
  simpa using fun e : x.slot = v => h (List.mem_map.mpr ⟨x, hx, e⟩)

/-- The list after the arrival holds the carried entry and the entries of the other vehicles. -/
theorem arriveThrough_perm (h : Awaits v es) (hn : (es.map Entry.slot).Nodup) :
    (arriveThrough v carry es).Perm (carry :: es.filter fun e => e.slot ≠ v) := by
  induction es generalizing carry with
  | nil => obtain ⟨x, hx, -⟩ := h; cases hx
  | cons e rest ih =>
    rw [List.map_cons, List.nodup_cons] at hn
    rcases standing_cases e with he | he
    · have htail := awaits_tail_of_present h he
      have hne : e.slot ≠ v := by
        rintro rfl
        obtain ⟨x, hx, hs, -⟩ := htail
        exact hn.1 (List.mem_map.mpr ⟨x, hx, hs⟩)
      rw [arriveThrough_present he, List.filter_cons_of_pos (by simpa using hne)]
      exact ((ih htail hn.2).cons e).trans (.swap ..)
    · rw [arriveThrough_expected he]
      by_cases hs : e.slot = v
      · subst hs
        rw [if_pos rfl, List.filter_cons_of_neg (by simp), filter_slot_ne_of_notMem hn.1]
      · rw [if_neg hs, List.filter_cons_of_pos (by simpa using hs)]
        exact (ih (awaits_tail_of_ne h hs) hn.2).cons carry

/-- The arrival stands at the place of the first EXPECTED entry. -/
theorem arriveThrough_first (h : Awaits v es) :
    (arriveThrough v carry es)[es.findIdx fun e => e.standing = .expected]? = some carry := by
  induction es generalizing carry with
  | nil => obtain ⟨x, hx, -⟩ := h; cases hx
  | cons e rest ih =>
    rcases standing_cases e with he | he
    · rw [arriveThrough_present he, List.findIdx_cons]
      simp only [he]
      exact ih (awaits_tail_of_present h he)
    · rw [arriveThrough_expected he, List.findIdx_cons]
      simp [he]

/-- PRESENT entries keep their places. -/
theorem arriveThrough_keeps {i : Nat} {x : Entry} (hi : es[i]? = some x) (hx : x.standing = .present) :
    (arriveThrough v carry es)[i]? = some x := by
  induction es generalizing carry i with
  | nil => cases hi
  | cons e rest ih =>
    rcases standing_cases e with he | he
    · rw [arriveThrough_present he]
      cases i with
      | zero => exact hi
      | succ i => exact ih hi
    · rw [arriveThrough_expected he]
      cases i with
      | zero => cases hi; rw [he] at hx; cases hx
      | succ i =>
        rw [List.getElem?_cons_succ] at hi ⊢
        split
        · exact hi
        · exact ih hi

/-- The other EXPECTED entries keep their order. -/
theorem arriveThrough_filter (h : Awaits v es) (hn : (es.map Entry.slot).Nodup) :
    (arriveThrough v carry es).filter (fun e => e.standing = .expected)
      = [carry].filter (fun e => e.standing = .expected) ++ es.filter (fun e => e.standing = .expected ∧ e.slot ≠ v) := by
  induction es generalizing carry with
  | nil => obtain ⟨x, hx, -⟩ := h; cases hx
  | cons e rest ih =>
    rw [List.map_cons, List.nodup_cons] at hn
    rcases standing_cases e with he | he
    · have hdrop (p : Entry → Bool) (l : List Entry) (hp : p e = false) : (e :: l).filter p = l.filter p :=
        List.filter_cons_of_neg (by simp [hp])
      rw [arriveThrough_present he, hdrop (fun e => decide (e.standing = .expected)) _ (by simp [he]),
        ih (awaits_tail_of_present h he) hn.2,
        hdrop (fun e => decide (e.standing = .expected ∧ e.slot ≠ v)) rest (by simp [he])]
    · rw [arriveThrough_expected he, ← List.singleton_append, List.filter_append]
      congr 1
      split
      · next hs =>
        rw [List.filter_cons_of_neg (by simp [hs])]
        refine List.filter_congr fun x hx => ?_
        have hne : x.slot ≠ v := by
          rintro rfl
          exact hn.1 (List.mem_map.mpr ⟨x, hx, hs.symm⟩)
        simp [hne]
      · next hs =>
        rw [ih (awaits_tail_of_ne h hs) hn.2, ← List.singleton_append (l := rest), List.filter_append]
        congr 1
        simp [he, hs]

/-- The list of a lane after an arrival, by what it holds. -/
theorem arrive_perm (kind : LaneKind) (h : Awaits v es) (hn : (es.map Entry.slot).Nodup) :
    (arrive kind v es).Perm (⟨v, .present, none⟩ :: es.filter fun e => e.slot ≠ v) := by
  cases kind with
  | through => exact arriveThrough_perm h hn
  | deadEnd => exact .refl _

/-- A list in which no slot stands twice holds at most one entry of a vehicle. -/
theorem filter_slot_length (hn : (es.map Entry.slot).Nodup) (v : Slot) : (es.filter fun e => e.slot = v).length ≤ 1 := by
  have hcount : (es.filter fun e => e.slot = v).length = (es.map Entry.slot).count v := by
    rw [List.count_eq_countP, List.countP_map, List.countP_eq_length_filter]
    rfl
  rw [hcount]
  exact List.nodup_iff_count_le_one.mp hn v

theorem eq_of_perm_of_length_le_one {α : Type} {l m : List α} (h : l.Perm m) (hl : m.length ≤ 1) : l = m := by
  match m, hl with
  | [], _ => exact h.eq_nil
  | [x], _ => exact List.perm_singleton.mp h

/-- An arrival changes nothing of what the list holds of another vehicle. -/
theorem arrive_others {w : Slot} (hw : w ≠ v) (kind : LaneKind) (h : Awaits v es) (hn : (es.map Entry.slot).Nodup) :
    (arrive kind v es).filter (fun e => e.slot = w) = es.filter fun e => e.slot = w := by
  refine eq_of_perm_of_length_le_one ?_ (filter_slot_length hn w)
  refine ((arrive_perm kind h hn).filter _).trans ?_
  rw [List.filter_cons_of_neg (by simpa using Ne.symm hw), List.filter_filter]
  refine .of_eq (List.filter_congr fun x _ => ?_)
  by_cases hx : x.slot = w <;> simp [hx, hw]

/-- After an arrival the list holds the PRESENT entry of the vehicle and no other of it. -/
theorem arrive_self (kind : LaneKind) (h : Awaits v es) (hn : (es.map Entry.slot).Nodup) :
    (arrive kind v es).filter (fun e => e.slot = v) = [⟨v, .present, none⟩] := by
  refine eq_of_perm_of_length_le_one ?_ le_rfl
  refine ((arrive_perm kind h hn).filter _).trans ?_
  rw [List.filter_cons_of_pos (by simp), List.filter_filter]
  simp

theorem arrive_length (kind : LaneKind) (h : Awaits v es) (hn : (es.map Entry.slot).Nodup) :
    (arrive kind v es).length = es.length := by
  have hperm := (arrive_perm kind h hn).length_eq
  obtain ⟨x, hx, hs, -⟩ := h
  have hone : (es.filter fun e => e.slot = v).length = 1 := by
    refine le_antisymm (filter_slot_length hn v) ?_
    exact List.length_pos_of_mem (List.mem_filter.mpr ⟨hx, by simpa using hs⟩)
  have hsplit := List.length_eq_length_filter_add (l := es) fun e => decide (e.slot = v)
  have hneg : (es.filter fun e => !decide (e.slot = v)) = es.filter fun e => decide (e.slot ≠ v) :=
    List.filter_congr fun _ _ => by simp
  rw [hneg] at hsplit
  rw [hperm, List.length_cons]
  omega

end

end Sys2Proof.Machine
end

section
/-! What the reports of lane readers need of the operations: the marks after a removal (R27), the chargers after a vehicle left
PARKED (R90), the end of an event with no call BLOCKED, and an exchange seen by a vehicle that stands in no lane (R118). -/

namespace Sys2Proof.Machine

section
variable {s t : State} {v w : Slot} {l : LaneNo}

/-! ### Marks (R25, R27) -/

theorem State.clearMarksAfter_veh (s : State) (x : Slot) (st : Standing) : (s.clearMarksAfter x st).veh x = { s.veh x with
    shift := if st = .expected then false else (s.veh x).shift
    misorder := if s.inSomeLane x then (s.veh x).misorder else false } := by
  unfold State.clearMarksAfter
  extract_lets a
  have ha : a.veh x = { s.veh x with shift := if st = .expected then false else (s.veh x).shift } := by
    unfold a
    split <;> simp
  have hl : a.inSomeLane x = s.inSomeLane x := State.inSomeLane_congr (by unfold a; split <;> simp)
  rw [hl]
  split
  · rw [ha]
  · rw [State.modVeh_veh, if_pos rfl, ha]

/-- The marks of a vehicle after the removal of its entry (R27). -/
theorem State.removeEntry_veh {e : Entry} (h : s.entry l v = some e) : (s.removeEntry l v).veh v = { s.veh v with
    shift := if e.standing = .expected then false else (s.veh v).shift
    misorder := if (s.removeEntry l v).inSomeLane v then (s.veh v).misorder else false } := by
  unfold State.removeEntry
  rw [h]
  dsimp only
  rw [State.clearMarksAfter_veh, State.inSomeLane_congr (State.clearMarksAfter_footing _ _ _), State.writeEntries_veh,
    State.modLane_eq, State.setLane_veh]

/-- The entry test of a lane touches the vehicles in it alone. -/
theorem State.testLane_outside (s : State) (l : LaneNo) (h : s.inSomeLane v = false) : (s.testLane l).veh v = s.veh v := by
  have hkeep := forEach_keeps (fun t => t.veh v = s.veh v ∧ t.inSomeLane v = false)
    (List.range (s.lane l).entries.length) (fun i s => s.testEntry l i) s ⟨rfl, h⟩ fun i _ t ht => ?_
  · exact hkeep.1
  · refine ⟨?_, by rw [State.inSomeLane_congr ((t.testEntry_remarks l i).footing v)]; exact ht.2⟩
    unfold State.testEntry
    split
    · exact ht.1
    · next e he =>
      split
      · exact ht.1
      · have hne : e.slot ≠ v := by
          rintro rfl
          have hnone := State.inSomeLane_false_iff.mp ht.2 l
          simp only [State.footing, List.filter_eq_nil_iff] at hnone
          exact hnone e (List.mem_of_getElem? he) (by simp)
        rw [State.modVeh_veh, if_neg hne]
        exact ht.1

theorem State.testAllLanes_outside (s : State) (h : s.inSomeLane v = false) : s.testAllLanes.veh v = s.veh v :=
  (forEach_keeps (fun t => t.veh v = s.veh v ∧ t.inSomeLane v = false) _ _ s ⟨rfl, h⟩ fun l _ t ht =>
    ⟨(t.testLane_outside l ht.2).trans ht.1,
      by rw [State.inSomeLane_congr ((t.testLane_remarks l).footing v)]; exact ht.2⟩).1

/-- An exchange writes the bound row of a vehicle that stands in no lane, and no more of it. -/
theorem State.exchange_outside (s : State) (h : s.inSomeLane v = false) :
    ∃ b, s.exchange.veh v = { s.veh v with boundRow := b } := by
  obtain ⟨hcore, hveh⟩ := s.newBank.rebuildBindings_core
  obtain ⟨b, hb⟩ := hveh v
  have hfoot : s.newBank.rebuildBindings.footing v = s.footing v := by
    rw [State.footing_of_eq (s := s.newBank) (by rw [hcore]) (by rw [hcore]) (by rw [hcore])]
    rfl
  have htest := s.newBank.rebuildBindings.testAllLanes_outside (v := v) (by rw [State.inSomeLane_congr hfoot]; exact h)
  refine ⟨b, ?_⟩
  rw [State.exchange_eq]
  generalize s.newBank.rebuildBindings = x at *
  generalize x.testAllLanes = y at *
  exact htest.trans hb

/-- A vehicle that stands in no lane sees of the end of an event what an exchange does to its binding. -/
theorem State.settle_outside (h : s.inSomeLane v = false) :
    s.settle.footing v = s.footing v ∧ ∃ b, s.settle.veh v = { s.veh v with boundRow := b } := by
  have hidle : ∀ m, s.presentIn m v = false := fun m => by
    rw [State.presentIn_eq_footing, State.inSomeLane_false_iff.mp h m]; rfl
  have hs := s.shiftSteps_spares hidle stepFuel
  rcases s.settle_cases with e | ⟨-, -, e⟩ <;> rw [e]
  · exact ⟨hs.footing, _, hs.veh⟩
  · have hx := (s.shiftSteps stepFuel).exchange_exchanges
    obtain ⟨b, hb⟩ := (s.shiftSteps stepFuel).exchange_outside (v := v) (by rw [State.inSomeLane_congr hs.footing]; exact h)
    exact ⟨(hx.footing v).trans hs.footing, b, by rw [hb, hs.veh]⟩

/-! ### The end of an event with no call BLOCKED -/

/-- With no call BLOCKED the end of an event leaves lanes, footings and flags, and a record but for what an exchange writes. -/
theorem State.NoneBlocked.settle_spec (h : s.NoneBlocked) : s.settle.lanes = s.lanes ∧ s.settle.waitList = s.waitList
    ∧ s.settle.stc = s.stc ∧ s.settle.dlp = s.dlp ∧ (∀ f, s.settle.flag f = s.flag f)
    ∧ ∀ v, ∃ b m, s.settle.veh v = { s.veh v with boundRow := b, misorder := m } := by
  have hsteps : ∃ d, s.shiftSteps stepFuel = { s with ds := d } := by
    refine (s.shiftSteps_keeps (fun t => ∃ d, t = { s with ds := d } ∧ d.active = s.ds.active) ⟨s.ds, rfl, rfl⟩ ?_ _).imp
      fun d hd => hd.1
    rintro _ l ⟨d, rfl, ha⟩
    have hn : (State.dropStep { s with ds := d } l).NoneBlocked := h.of_active ha
    rcases hn.shiftStep l with e | ⟨r, e⟩ <;> rw [e] <;> exact ⟨_, rfl, ha⟩
  obtain ⟨d, hd⟩ := hsteps
  rcases s.settle_cases with e | ⟨-, -, e⟩ <;> rw [e]
  · rw [hd]
    exact ⟨rfl, rfl, rfl, rfl, fun _ => rfl, fun _ => ⟨_, _, rfl⟩⟩
  · have hx := (s.shiftSteps stepFuel).exchange_exchanges
    have hdlp : (s.shiftSteps stepFuel).exchange.dlp = (s.shiftSteps stepFuel).dlp := by rw [hx.core]
    have hlanes := hx.lanes
    have hwait := hx.waitList
    have hstc := hx.stc
    have hflag := hx.flag
    have hveh := hx.veh
    rw [hd] at *
    exact ⟨hlanes, hwait, hstc, hdlp, hflag, hveh⟩

/-! ### Chargers (R90) -/

theorem State.parkedAt_congr {c : ChargerNo} (hv : t.veh v = s.veh v) (hf : t.footing v = s.footing v)
    (hl : ∀ m, t.lane m = s.lane m) (hu : ∀ x, t.units x = s.units x) (hc : (t.charger c).cfg = (s.charger c).cfg) :
    t.parkedAt v c = s.parkedAt v c := by
  have hp (m : LaneNo) : t.presentIn m v = s.presentIn m v := State.presentIn_congr hf m
  have hfirst (m : LaneNo) (i : Nat) : t.firstPosition m i = s.firstPosition m i := by
    simp only [State.firstPosition, State.unitsIn, hl, hu]
  have hindex (m : LaneNo) : t.entryIndex m v = s.entryIndex m v := by simp only [State.entryIndex, hl]
  simp only [State.parkedAt, State.covers, hv, hc, hp, hfirst, hindex, hu]

/-- After the check of R90 every connected vehicle stands PARKED at its charger. -/
theorem State.recheckChargers_connected {c : ChargerNo} (h : (s.recheckChargers.charger c).connected = some v) :
    s.parkedAt v c = true := by
  have hkeep : ∀ (list : List ChargerNo) (t : State), s.SameYard t → (∀ d, (t.charger d).cfg = (s.charger d).cfg) →
      ((forEach list (fun c s => s.recheckCharger c) t).charger c).connected = some v →
      (t.charger c).connected = some v ∧ (c ∈ list → s.parkedAt v c = true) := by
    intro list
    induction list with
    | nil => exact fun t _ _ h => ⟨h, by simp⟩
    | cons d rest ih =>
      intro t hy hcfg h
      rw [forEach_cons] at h
      have hd := t.recheckCharger_sameYard d
      have hcfg' : ∀ e, ((t.recheckCharger d).charger e).cfg = (s.charger e).cfg := fun e => by
        rw [← hcfg e]
        rcases ((State.Works.refl t).recheckCharger (c := d)).charger e with e' | ⟨e', -, -⟩ <;> rw [e']
      obtain ⟨hconn, hrest⟩ := ih _ (hy.trans hd) hcfg' h
      have hsame : (t.charger c).connected = some v := by
        rcases ((State.Works.refl t).recheckCharger (c := d)).charger c with e | ⟨-, -, e⟩
        · rw [← e]; exact hconn
        · rw [e] at hconn; cases hconn
      refine ⟨hsame, fun hc => ?_⟩
      by_cases hcd : c = d
      · subst hcd
        have hparked : t.parkedAt v c = true := by
          by_contra hnot
          obtain ⟨mark, hmark⟩ := t.disconnect_charger c
          rw [State.recheckCharger, hsame] at hconn
          simp only [hnot] at hconn
          rw [if_neg (by simp), hmark, if_pos rfl] at hconn
          cases hconn
        have hunits (x : Slot) : t.units x = s.units x := by simp [State.units, hy.veh]
        rwa [State.parkedAt_congr (hy.veh v) (hy.footing v) hy.lane hunits (hcfg c)] at hparked
      · exact hrest (by simpa [hcd] using hc)
  exact (hkeep _ s (.refl s) (fun _ => rfl) h).2 (mem_upTo c)

/-- A connection that work in the yard leaves was there before. -/
theorem State.Works.connected {c : ChargerNo} (h : s.Works t) (hc : (t.charger c).connected = some v) :
    (s.charger c).connected = some v := by
  rcases h.charger c with e | ⟨-, -, e⟩
  · rw [← e]; exact hc
  · rw [e] at hc; cases hc

end

end Sys2Proof.Machine
end

section
/-! LANE_ENTRY into the lane of a reservation and LANE_EXIT at the mouth (R29, R32). -/

namespace Sys2Proof.Machine

section
variable {s t : State} {v w : Slot} {l o sh : LaneNo}

/-! ### LANE_ENTRY into the reserved lane (R29) -/

theorem awaits_of_entry {timer : Option Nat} (h : s.entry l v = some ⟨v, .expected, timer⟩) : Awaits v (s.lane l).entries :=
  ⟨_, List.mem_of_find?_eq_some h, rfl, rfl⟩

theorem State.laneEntry_reserved {timer : Option Nat} (hs : (s.veh v).state = .toBerth)
    (he : s.entry l v = some ⟨v, .expected, timer⟩) (hp : s.presentLane v = none) :
    s.laneEntry v l = s.takeReservation v l := by
  simp [State.laneEntry, State.laneEntered, State.entryKnown, hs, he, hp]

/-- The state in which an arriving vehicle stands PRESENT in the lane list, before the lane is tested. -/
def State.arrived (s : State) (v : Slot) (l : LaneNo) : State :=
  (s.writeEntries l (arrive (s.lane l).cfg.kind v (s.lane l).entries)).modVeh v fun r =>
    { r with state := .parked, location := .lane l .present none, shift := false }

theorem State.takeReservation_eq (s : State) (v : Slot) (l : LaneNo) :
    s.takeReservation v l = (s.arrived v l).testLane l := rfl

theorem State.arrived_veh (s : State) (v : Slot) (l : LaneNo) : (s.arrived v l).veh v = { s.veh v with
    state := .parked, location := .lane l .present none, shift := false } := by simp [State.arrived]

theorem State.arrived_others (s : State) (l : LaneNo) (h : w ≠ v) : (s.arrived v l).veh w = s.veh w := by
  simp [State.arrived, Ne.symm h]

theorem State.arrived_lane (s : State) (v : Slot) (l m : LaneNo) : (s.arrived v l).lane m =
    if l = m then { s.lane l with entries := arrive (s.lane l).cfg.kind v (s.lane l).entries } else s.lane m := by
  rw [State.arrived, State.modVeh_eq, State.setVeh_lane, State.writeEntries_lane]

theorem State.arrived_footing (h : Awaits v (s.lane l).entries) (hn : ((s.lane l).entries.map Entry.slot).Nodup) :
    (s.arrived v l).footing v = { s.footing v with
      entries := fun m => if l = m then [⟨v, .present, none⟩] else (s.footing v).entries m } := by
  rw [State.arrived, State.modVeh_footing, State.writeEntries_footing, arrive_self _ h hn]

theorem State.arrived_active (s : State) (v : Slot) (l : LaneNo) : (s.arrived v l).ds.active = s.ds.active := by
  rw [State.arrived, State.modVeh_eq, State.setVeh_ds, State.writeEntries_ds, State.oweStep_active]

theorem State.arrived_swap (s : State) (v : Slot) (l : LaneNo) : (s.arrived v l).ds.swap = s.ds.swap := by
  rw [State.arrived, State.modVeh_eq, State.setVeh_ds, State.writeEntries_ds, State.oweStep_swap]

/-- The end of a LANE_ENTRY into the reserved lane, with no call BLOCKED. -/
theorem laneEntry_parks {timer : Option Nat} (hs : (s.veh v).state = .toBerth)
    (he : s.entry l v = some ⟨v, .expected, timer⟩) (hp : s.presentLane v = none)
    (hn : ((s.lane l).entries.map Entry.slot).Nodup) (hb : s.NoneBlocked)
    (hx : ¬ (s.ds.swap = .pending ∧ s.anyCalled = false)) :
    ∃ t, (s.laneEntry v l).settle = t
      ∧ (t.veh v).state = .parked ∧ (t.veh v).location = .lane l .present none ∧ (t.veh v).shift = false
      ∧ t.presentIn l v = true
      ∧ (t.lane l).entries = arrive (s.lane l).cfg.kind v (s.lane l).entries
      ∧ (∀ m, m ≠ l → t.lane m = s.lane m) ∧ t.waitList = s.waitList ∧ t.stc = s.stc ∧ t.ds.active = s.ds.active
      ∧ ∀ w, w ≠ v → t.veh w = { s.veh w with misorder := (t.veh w).misorder } := by
  have hwait := awaits_of_entry he
  have htest := (s.arrived v l).testLane_remarks l
  have hactive : ((s.arrived v l).testLane l).ds.active = s.ds.active := by rw [htest.ds, State.arrived_active]
  obtain ⟨d, hd, hda, -⟩ := State.NoneBlocked.settle (s := (s.arrived v l).testLane l) (hb.of_active hactive)
    (by rw [htest.ds, State.arrived_swap, State.anyCalled, hactive]; exact hx)
  have hlane (m : LaneNo) := (htest.lane m).trans (s.arrived_lane v l m)
  have hfoot := (htest.footing v).trans (State.arrived_footing hwait hn)
  have hlist : ((s.arrived v l).testLane l).waitList = s.waitList := by
    rw [htest.waitList, State.arrived, State.modVeh_eq, State.setVeh_waitList, State.writeEntries_waitList]
  have hstc : ((s.arrived v l).testLane l).stc = s.stc := by
    rw [htest.stc, State.arrived, State.modVeh_eq, State.setVeh_stc, State.writeEntries_stc]
  obtain ⟨m, hm⟩ := htest.veh v
  rw [State.arrived_veh] at hm
  have hothers (w : Slot) (hw : w ≠ v) : ∃ n, ((s.arrived v l).testLane l).veh w = { s.veh w with misorder := n } := by
    obtain ⟨n, hn⟩ := htest.veh w
    exact ⟨n, by rw [hn, State.arrived_others _ _ hw]⟩
  rw [State.laneEntry_reserved hs he hp, State.takeReservation_eq, hd]
  generalize (s.arrived v l).testLane l = x at *
  have hveh (w : Slot) : ({ x with ds := d } : State).veh w = x.veh w := rfl
  refine ⟨_, rfl, by rw [hveh, hm], by rw [hveh, hm], by rw [hveh, hm], ?_, ?_, fun k hk => ?_, hlist, hstc,
    hda.trans hactive, fun w hw => ?_⟩
  · show x.presentIn l v = true
    simp [State.presentIn_eq_footing, hfoot]
  · show (x.lane l).entries = _
    rw [hlane, if_pos rfl]
  · show x.lane k = _
    rw [hlane, if_neg (Ne.symm hk)]
  · obtain ⟨n, hn⟩ := hothers w hw
    rw [hveh, hn]

/-! ### LANE_EXIT at the mouth (R32) -/

theorem entry_of_head {timer : Option Nat} {rest : List Entry} (h : (s.lane l).entries = ⟨v, .present, timer⟩ :: rest) :
    s.entry l v = some ⟨v, .present, timer⟩ ∧ s.entryIndex l v = 0 := by
  simp [State.entry, State.entryIndex, h, List.findIdx_cons]

theorem State.laneExit_mouth {timer : Option Nat} {rest : List Entry}
    (h : (s.lane l).entries = ⟨v, .present, timer⟩ :: rest) (hout : (s.veh v).state ≠ .out) :
    s.laneExit v l = s.exitAtMouth v l := by
  obtain ⟨he, hi⟩ := entry_of_head h
  rw [State.laneExit]
  split
  · next hs => exact absurd hs hout
  · simp [State.laneExited, he, hi]

/-- The vehicle has left the lane at its mouth, and its shunt timer runs when it has one: the chargers are not told yet. -/
def State.leftMouth (s : State) (v : Slot) (l : LaneNo) : State :=
  (((s.removeEntry l v).modVeh v afterMouthExit).startShuntTimer v)

theorem State.exitAtMouth_eq (s : State) (v : Slot) (l : LaneNo) :
    s.exitAtMouth v l = ((s.leftMouth v l).recheckChargers).retry := rfl

/-- The start of a shunt timer is a matter of the lanes alone. -/
theorem State.startShuntTimer_core (s : State) (v : Slot) :
    s.startShuntTimer v = { s with lanes := (s.startShuntTimer v).lanes } := by
  unfold State.startShuntTimer
  split <;> rfl

theorem State.leftMouth_ds (s : State) (v : Slot) (l : LaneNo) :
    (s.leftMouth v l).ds = (s.removeEntry l v).ds ∧ (s.leftMouth v l).waitList = s.waitList := by
  rw [State.leftMouth, State.startShuntTimer_core]
  exact ⟨rfl, (s.removeEntry_leaves l v).waitList⟩

theorem State.leftMouth_veh (s : State) (v : Slot) (l : LaneNo) :
    (s.leftMouth v l).veh v = afterMouthExit ((s.removeEntry l v).veh v) := by
  rw [State.leftMouth, State.startShuntTimer_core]
  show ((s.removeEntry l v).modVeh v afterMouthExit).veh v = _
  rw [State.modVeh_veh, if_pos rfl]

/-- From the mouth to the end of the event, for a vehicle that has no PRESENT entry any more. -/
theorem State.exitAtMouth_settle (hidle : ∀ m, (s.leftMouth v l).presentIn m v = false)
    (hw : ∀ w ∈ s.waitList, w.slot ≠ v) (hx : ¬ (s.ds.swap = .pending ∧ s.anyCalled = false)) :
    (s.leftMouth v l).Spares v (s.exitAtMouth v l).settle
    ∧ (s.leftMouth v l).Reserves (s.exitAtMouth v l).settle
    ∧ (s.leftMouth v l).recheckChargers.Works (s.exitAtMouth v l).settle := by
  obtain ⟨hds, hwait⟩ := s.leftMouth_ds v l
  have hleaves := s.removeEntry_leaves l v
  rw [State.exitAtMouth_eq]
  generalize s.leftMouth v l = x at *
  have hcheck : x.Spares v x.recheckChargers := x.recheckChargers_sameYard.spares v
  have hretry : x.recheckChargers.Spares v x.recheckChargers.retry :=
    State.retry_spares (by rw [State.recheckChargers_waitList, hwait]; exact hw)
  have hres : x.Reserves x.recheckChargers.retry := (State.Reserves.refl x).recheckChargers.trans (State.retry_reserves _)
  have hdue : ¬ (x.recheckChargers.retry.ds.swap = .pending ∧ x.recheckChargers.retry.anyCalled = false) := by
    rw [hres.swap, hres.anyCalled, State.anyCalled, hds, hleaves.swap, hleaves.active]
    exact hx
  have hsp := hcheck.trans hretry
  refine ⟨hsp.trans (State.settle_spares (fun m => ?_) hdue), hres.trans (State.settle_reserves hdue),
    (State.Works.refl _).retry.settle⟩
  rw [State.presentIn_congr hsp.footing]
  exact hidle m

/-- The end of a LANE_EXIT at the mouth of a bus that was PARKED or CALLED. -/
theorem laneExit_leaves {timer : Option Nat} {rest : List Entry} (hs : (s.veh v).state = .parked ∨ (s.veh v).state = .called)
    (he : (s.lane l).entries = ⟨v, .present, timer⟩ :: rest) (hr : ∀ e ∈ rest, e.slot ≠ v)
    (hw : ∀ w ∈ s.waitList, w.slot ≠ v) (hm : ∀ m, m ≠ l → s.entry m v = none)
    (hx : ¬ (s.ds.swap = .pending ∧ s.anyCalled = false)) :
    ∃ t, (s.laneExit v l).settle = t
      ∧ t.veh v = { s.veh v with
          state := if (s.veh v).state = .called then .departing else .moving, location := .enRoute none, misorder := false }
      ∧ t.inSomeLane v = false
      ∧ (t.lane l).front = (match (s.lane l).cfg.kind with
          | .deadEnd => 0
          | .through => if rest = [] then 0 else (s.lane l).front + s.units v)
      ∧ ∀ c, (t.charger c).connected ≠ some v := by
  obtain ⟨hentry, hindex⟩ := entry_of_head he
  have hout : (s.veh v).state ≠ .out := by rcases hs with h | h <;> simp [h]
  have hentries (m : LaneNo) : ((s.removeEntry l v).footing v).entries m = [] := by
    rw [State.removeEntry_footing]
    dsimp only
    split
    · rfl
    · next h =>
      rw [State.entries_eq_nil_iff]
      exact hm m fun e => h ⟨e.symm, rfl⟩
  have hlane : (s.removeEntry l v).inSomeLane v = false := State.inSomeLane_false_iff.mpr hentries
  have hremoved := State.removeEntry_veh hentry
  simp only [hlane] at hremoved
  have hleft := s.leftMouth_veh v l
  have hafter : (s.leftMouth v l).veh v = { s.veh v with
      state := if (s.veh v).state = .called then .departing else .moving, location := .enRoute none, misorder := false } := by
    rw [hleft, hremoved]
    rcases hs with h | h <;> simp [afterMouthExit, h]
  have htimer : s.leftMouth v l = (s.removeEntry l v).modVeh v afterMouthExit := by
    have hst : (((s.removeEntry l v).modVeh v afterMouthExit).veh v).state ≠ .toBerth := by
      rw [State.modVeh_veh, if_pos rfl, ← hleft, hafter]
      dsimp only
      split <;> simp
    rw [State.leftMouth, State.startShuntTimer]
    split
    · next h _ => exact absurd h hst
    · rfl
  have hfoot : (s.leftMouth v l).footing v = (s.removeEntry l v).footing v := by rw [htimer, State.modVeh_footing]
  have hnowhere : (s.leftMouth v l).inSomeLane v = false := by rw [State.inSomeLane_congr hfoot]; exact hlane
  obtain ⟨hsp, hres, hworks⟩ := State.exitAtMouth_settle (s := s) (v := v) (l := l)
    (fun m => by rw [State.presentIn_eq_footing, hfoot, hentries m]; rfl) hw hx
  refine ⟨_, rfl, ?_, ?_, ?_, fun c hc => ?_⟩
  all_goals rw [State.laneExit_mouth he hout] at *
  · rw [hsp.veh, hafter]
  · rw [State.inSomeLane_congr hsp.footing]
    exact hnowhere
  · have hfilter : (s.lane l).entries.filter (fun e => e.slot ≠ v) = rest := by
      rw [he, List.filter_cons_of_neg (by simp), List.filter_eq_self]
      simpa using hr
    rw [hres.front, htimer, State.modVeh_eq, State.setVeh_lane, State.removeEntry_lane _ hentry, if_pos rfl]
    simp only [hindex, hfilter, frontAfter]
    cases (s.lane l).cfg.kind <;> simp
  · have hparked := State.recheckChargers_connected (hworks.connected hc)
    simp only [State.parkedAt, hafter, Bool.and_eq_true, decide_eq_true_eq] at hparked
    have := hparked.1
    split at this <;> cases this

end

end Sys2Proof.Machine
end

section
/-! LANE_ENTRY of a vehicle with no entry in the lane (R7, R30, R31): a lane with room takes it, in one without it is LOST. -/

namespace Sys2Proof.Machine

section
variable {s t x : State} {v w : Slot} {l : LaneNo} {before : VehicleState} {cause : Nat}

/-! ### A lane report brings an OUT vehicle in (R7) -/

/-- The state in which a lane report reaches the yard map (R7). -/
def State.reported (s : State) (v : Slot) (cause : Nat) : State :=
  if (s.veh v).state = .out then s.bringIn v cause else s

theorem State.bringIn_veh (s : State) (v : Slot) (cause : Nat) : (s.bringIn v cause).veh v = { s.veh v with
    state := .moving, location := .enRoute none, arrival := s.ycs.minute } := by simp [State.bringIn]

theorem State.bringIn_notice (s : State) (v : Slot) (cause : Nat) : ∃ a : State, s.bringIn v cause
    = a.notify (.yardConflict (s.veh v).tag v .out cause) ∧ a.ycs = s.ycs := by
  refine ⟨(s.modVeh v fun r => { r with state := .moving, location := .enRoute none, arrival := s.ycs.minute }).raise
    .yardConflict, ?_, rfl⟩
  simp [State.bringIn, State.yardConflict]

theorem State.laneEntry_reported (h : (s.veh v).state ≠ .lost) :
    s.laneEntry v l = (s.reported v 3).laneEntered v l (s.veh v).state := by
  have hcode : kindLaneEntry.toNat = 3 := rfl
  unfold State.laneEntry State.reported
  rw [hcode]
  split
  · next hs => exact absurd hs h
  · next hs => rw [if_pos hs, hs]
  · next hs => rw [if_neg hs]

theorem State.laneExit_reported (s : State) (v : Slot) (l : LaneNo) :
    s.laneExit v l = (s.reported v 4).laneExited v l (s.veh v).state := by
  have hcode : kindLaneExit.toNat = 4 := rfl
  unfold State.laneExit State.reported
  rw [hcode]
  split
  · next hs => rw [if_pos hs, hs]
  · next hs => rw [if_neg hs]

/-- The record with which a vehicle's report reaches the yard map. -/
def State.reporter (s : State) (v : Slot) : Vehicle :=
  if (s.veh v).state = .out then
    { s.veh v with state := .moving, location := .enRoute none, arrival := s.ycs.minute }
  else s.veh v

theorem State.reported_veh (s : State) (v : Slot) (cause : Nat) : (s.reported v cause).veh v = s.reporter v := by
  unfold State.reported State.reporter
  split
  · exact s.bringIn_veh v cause
  · rfl

/-- Bringing a vehicle in touches its record, the flags and the notices. -/
theorem State.reported_core (s : State) (v : Slot) (cause : Nat) : (s.reported v cause).lanes = s.lanes
    ∧ (s.reported v cause).waitList = s.waitList ∧ (s.reported v cause).stc = s.stc ∧ (s.reported v cause).ds = s.ds
    ∧ (s.reported v cause).ycs = s.ycs ∧ s.Beside (s.reported v cause) := by
  unfold State.reported
  split
  · have h := (s.modVeh v fun r => { r with state := .moving, location := .enRoute none, arrival := s.ycs.minute }).yardConflict_sameYard
      v .out cause
    exact ⟨h.lanes, h.waitList, h.stc, h.ds, h.ycs, (State.Beside.refl s).modVeh.yardConflict⟩
  · exact ⟨rfl, rfl, rfl, rfl, rfl, .refl s⟩

theorem State.reported_footing (s : State) (v w : Slot) (cause : Nat) : (s.reported v cause).footing w = s.footing w := by
  obtain ⟨hl, hw, hs, -⟩ := s.reported_core v cause
  exact State.footing_of_eq hl hs hw w

theorem State.reported_lane (s : State) (v : Slot) (cause : Nat) (m : LaneNo) : (s.reported v cause).lane m = s.lane m := by
  simp only [State.lane, (s.reported_core v cause).1]

theorem State.reported_units (s : State) (v w : Slot) (cause : Nat) : (s.reported v cause).units w = s.units w := by
  unfold State.reported
  split
  · by_cases hw : v = w
    · subst hw; simp [State.units, State.bringIn_veh, unitsOf]
    · simp [State.units, State.bringIn, hw]
  · rfl

theorem State.reported_room (s : State) (v : Slot) (cause : Nat) (m : LaneNo) : (s.reported v cause).room m = s.room m := by
  simp only [State.room, State.unitsIn, State.reported_lane, State.reported_units]

theorem State.reported_entry (s : State) (v : Slot) (cause : Nat) (m : LaneNo) :
    (s.reported v cause).entry m v = s.entry m v := State.entry_congr (s.reported_footing v v cause) m

/-- A vehicle that was OUT is brought in with a YARD_CONFLICT and its notice (R7, R28). -/
theorem State.reported_out (h : (s.veh v).state = .out) :
    (s.reported v cause).flag .yardConflict = true
    ∧ ∃ a : State, s.reported v cause = a.notify (.yardConflict (s.veh v).tag v .out cause) ∧ a.ycs = s.ycs := by
  rw [State.reported, if_pos h]
  exact ⟨State.yardConflict_flag_self _ _ _ _, s.bringIn_notice v cause⟩

/-! ### What joining raises (R30) -/

theorem State.joinFlags_sameYard (s : State) (v : Slot) (l : LaneNo) (r : Vehicle) (before : VehicleState) :
    s.SameYard (s.joinFlags v l r before) := by
  have hwrong : s.SameYard (s.raise .wrongLane) := s.raise_sameYard _
  unfold State.joinFlags
  repeat' split
  · exact hwrong
  · exact hwrong.trans (State.yardConflict_sameYard _ _ _ _)
  · exact .refl s
  · exact hwrong
  · exact .refl s
  · exact s.yardConflict_sameYard _ _ _

theorem State.joinFlags_beside (s : State) (v : Slot) (l : LaneNo) (r : Vehicle) (before : VehicleState) :
    s.Beside (s.joinFlags v l r before) := by
  unfold State.joinFlags
  repeat' split
  · exact (State.Beside.refl s).raise
  · exact (State.Beside.refl s).raise.yardConflict
  · exact .refl s
  · exact (State.Beside.refl s).raise
  · exact .refl s
  · exact (State.Beside.refl s).yardConflict

theorem State.yardConflict_flag (s : State) (v : Slot) (b : VehicleState) (n : Nat) {f : EventFlag} (hn : f ≠ .noticeDrop)
    (hc : f ≠ .yardConflict) : (s.yardConflict v b n).flag f = s.flag f := by
  rw [State.yardConflict, State.notify_flag _ _ hn, State.raise_flag, decide_eq_false (Ne.symm hc), Bool.or_false]

/-- A reserved vehicle that comes into another lane, or one under way to another, is in the wrong lane. -/
theorem State.joinFlags_wrong {r : Vehicle} (h : r.state = .toBerth
      ∨ r.state = .moving ∧ ∃ m, m ≠ l ∧ r.location = .enRoute (some m)) :
    (s.joinFlags v l r before).flag .wrongLane = true := by
  rcases h with hs | ⟨hs, m, hm, hl⟩
  · unfold State.joinFlags
    split
    · exact State.raise_flag_self _ _
    · rw [State.yardConflict_flag _ _ _ _ (by decide) (by decide)]
      exact State.raise_flag_self _ _
    · next h _ => rw [hs] at h; cases h
    · next h _ => rw [hs] at h; cases h
    · next h _ _ _ => exact absurd hs (by tauto)
  · simp only [State.joinFlags, hs, hl, if_neg hm]
    exact State.raise_flag_self _ _

/-- A vehicle under way to this lane, or with no target, is where it may be. -/
theorem State.joinFlags_right {r : Vehicle} (hs : r.state = .moving)
    (hl : r.location = .enRoute none ∨ r.location = .enRoute (some l)) : s.joinFlags v l r before = s := by
  rcases hl with hl | hl <;> simp [State.joinFlags, hs, hl]

/-- Any other vehicle has a conflict. -/
theorem State.joinFlags_conflict {r : Vehicle} (hs : r.state ≠ .moving)
    (hl : ∀ m sh, r.state = .toBerth → r.location ≠ .lane m .expected sh) :
    ∃ a : State, s.SameYard a ∧ s.joinFlags v l r before = a.yardConflict v before 3 := by
  unfold State.joinFlags
  split
  · next h hloc => exact absurd hloc (hl _ _ h)
  · exact ⟨_, s.raise_sameYard _, rfl⟩
  · next h _ => exact absurd h hs
  · next h _ => exact absurd h hs
  · exact ⟨s, .refl s, rfl⟩

end

end Sys2Proof.Machine
end

section
/-! LANE_ENTRY of a vehicle with no entry in the lane, in a lane with room and in one without (R30, R31). -/

namespace Sys2Proof.Machine

section
variable {s t x : State} {v w : Slot} {l : LaneNo} {before : VehicleState} {cause : Nat}

/-! ### The call of a bus is undone on its way (R145) -/

/-- The call of a bus that was on call is undone. -/
def State.uncalled (s : State) (v : Slot) (call : Bool) : State := if call then s.undoCall v else s

theorem State.uncalled_unbinds (s : State) (v : Slot) (call : Bool) : s.Unbinds v (s.uncalled v call) := by
  unfold State.uncalled
  split
  · exact s.undoCall_unbinds v
  · exact .refl s v

/-- A call that is undone leaves its row PLANNED and the bus unbound, when the plan and the bus were left until then. -/
theorem State.uncalled_called {a : State} {i : Nat} {r : PlanRow} (hb : (a.veh v).boundRow = (s.veh v).boundRow)
    (ha : a.ds.active = s.ds.active) (hi : (s.veh v).boundRow = some i) (hr : s.row i = some r) (hc : r.state = .called) :
    (a.uncalled v true).row i = some r.unplanned ∧ ((a.uncalled v true).veh v).boundRow = none :=
  State.undoCall_called (hb.trans hi) (by rw [State.row, ha]; exact hr) hc

/-! ### A lane with room (R30) -/

/-- The vehicle's PRESENT entry stands at the join end of the lane, and every other place of it is given up. -/
def State.joinsAt (s : State) (v : Slot) (l : LaneNo) : State :=
  (s.addAtJoinEnd l ⟨v, .present, none⟩).withdraw v (some l)

/-- The vehicle's flags are raised, and its call is undone. -/
def State.joinedAt (s : State) (v : Slot) (l : LaneNo) (before : VehicleState) : State :=
  ((s.joinsAt v l).joinFlags v l (s.veh v) before).uncalled v (onCall (s.veh v))

theorem State.entryJoins_eq (s : State) (v : Slot) (l : LaneNo) (before : VehicleState) :
    s.entryJoins v l before = (s.joinedAt v l before).parkIn v l := by
  unfold State.entryJoins State.joinedAt State.joinsAt State.addAtJoinEnd State.uncalled
  rfl

theorem State.joinsAt_veh (s : State) (v : Slot) (l : LaneNo) :
    (s.joinsAt v l).veh v = { s.veh v with misorder := false, shift := false } := by
  rw [State.joinsAt, State.withdraw_veh, State.addAtJoinEnd_eq, State.writeEntries_veh]

theorem State.joinsAt_active (s : State) (v : Slot) (l : LaneNo) : (s.joinsAt v l).ds.active = s.ds.active := by
  rw [State.joinsAt, State.withdraw_active, State.addAtJoinEnd_eq, State.writeEntries_ds, State.oweStep_active]

theorem State.joinsAt_swap (s : State) (v : Slot) (l : LaneNo) : (s.joinsAt v l).ds.swap = s.ds.swap := by
  rw [State.joinsAt, State.withdraw_swap, State.addAtJoinEnd_eq, State.writeEntries_ds, State.oweStep_swap]

theorem State.joinsAt_flag (s : State) (v : Slot) (l : LaneNo) {f : EventFlag} (hf : f ∉ placingFlags) :
    (s.joinsAt v l).flag f = s.flag f := by
  rw [State.joinsAt, State.withdraw_flag _ _ _ hf, State.addAtJoinEnd_eq, State.writeEntries_flag]
  rintro rfl
  simp [placingFlags] at hf

theorem State.joinsAt_beside (s : State) (v : Slot) (l : LaneNo) : s.Beside (s.joinsAt v l) :=
  (State.Beside.refl s).addAtJoinEnd.withdraw

/-- The footing of a vehicle with one PRESENT entry and nothing else. -/
def Footing.parked (v : Slot) (l : LaneNo) : Footing :=
  { Footing.none with entries := fun m => if l = m then [⟨v, .present, Option.none⟩] else [] }

theorem State.joinsAt_footing (he : s.entry l v = none) : (s.joinsAt v l).footing v = .parked v l := by
  have hnone : (s.lane l).entries.filter (fun e => e.slot = v) = [] := (State.entries_eq_nil_iff l).mpr he
  rw [State.joinsAt, State.withdraw_footing, State.addAtJoinEnd_eq, State.writeEntries_footing, Footing.only, Footing.parked]
  ext1 <;> try rfl
  funext m
  by_cases hm : l = m
  · subst hm
    cases (s.lane l).cfg.kind <;> simp [hnone]
  · simp [hm]

theorem State.joinsAt_lane (s : State) (v : Slot) (l : LaneNo) : ∃ new, (s.waitList = [] → new = [])
    ∧ (s.joinsAt v l).lane l = ((s.lane l).joined [⟨v, .present, none⟩]).joined new := by
  obtain ⟨new, -, hnil, hl⟩ := (s.addAtJoinEnd l ⟨v, .present, none⟩).withdraw_keep v l
  refine ⟨new, fun hw => hnil (by rw [State.addAtJoinEnd_eq, State.writeEntries_waitList, hw]), ?_⟩
  rw [State.joinsAt, hl, State.addAtJoinEnd_eq, State.writeEntries_lane, if_pos rfl]
  rfl

/-- The state after the join, before the vehicle is PARKED. -/
theorem State.joinedAt_spec (he : s.entry l v = none) :
    (∃ b, (s.joinedAt v l before).veh v = { s.veh v with misorder := false, shift := false, boundRow := b })
    ∧ (s.joinedAt v l before).footing v = .parked v l
    ∧ (∃ new, (s.waitList = [] → new = [])
      ∧ (s.joinedAt v l before).lane l = ((s.lane l).joined [⟨v, .present, none⟩]).joined new)
    ∧ (s.NoneBlocked → (s.joinedAt v l before).NoneBlocked)
    ∧ (s.joinedAt v l before).ds.swap = s.ds.swap
    ∧ (∀ f, (s.joinedAt v l before).flag f = ((s.joinsAt v l).joinFlags v l (s.veh v) before).flag f)
    ∧ (s.joinedAt v l before).dlp = ((s.joinsAt v l).joinFlags v l (s.veh v) before).dlp
    ∧ ∀ i r, onCall (s.veh v) = true → (s.veh v).boundRow = some i → s.row i = some r → r.state = .called →
      (s.joinedAt v l before).row i = some r.unplanned ∧ ((s.joinedAt v l before).veh v).boundRow = none := by
  have hyard := (s.joinsAt v l).joinFlags_sameYard v l (s.veh v) before
  have hun := ((s.joinsAt v l).joinFlags v l (s.veh v) before).uncalled_unbinds v (onCall (s.veh v))
  have hveh := (hyard.veh v).trans (s.joinsAt_veh v l)
  have hactive := (congrArg Ds.active hyard.ds).trans (s.joinsAt_active v l)
  obtain ⟨b, hb⟩ := hun.veh
  obtain ⟨new, hnil, hlane⟩ := s.joinsAt_lane v l
  have hfoot := State.joinsAt_footing he
  have hswap := s.joinsAt_swap v l
  rw [State.joinedAt]
  generalize (s.joinsAt v l).joinFlags v l (s.veh v) before = c at *
  generalize s.joinsAt v l = a at *
  refine ⟨⟨b, by rw [hb, hveh]⟩, ?_, ⟨new, hnil, ?_⟩, fun hn => ?_, ?_, hun.flag, hun.dlp, fun i r hc hi hr hcalled => ?_⟩
  · rw [hun.footing, hyard.footing, hfoot]
  · rw [hun.lane, hyard.lane, hlane]
  · exact hun.noneBlocked (hn.of_active hactive)
  · rw [hun.swap, hyard.ds, hswap]
  · rw [hc]
    exact State.uncalled_called (by rw [hveh]) hactive hi hr hcalled

/-- A vehicle is PARKED, its lane tested and the event ended, with no call BLOCKED (R25, R30). -/
theorem State.NoneBlocked.parkIn_settle (h : x.NoneBlocked) (v : Slot) (l : LaneNo) :
    (∃ b m, (x.parkIn v l).settle.veh v = { x.veh v with
      state := .parked, location := .lane l .present none, shift := false, boundRow := b, misorder := m })
    ∧ (x.parkIn v l).settle.footing v = x.footing v ∧ (∀ m, (x.parkIn v l).settle.lane m = x.lane m)
    ∧ (∀ f, (x.parkIn v l).settle.flag f = x.flag f) ∧ (x.parkIn v l).settle.dlp = x.dlp
    ∧ ∀ i r, x.ds.swap ≠ .pending → x.row i = some r → r.state ≠ .called → (x.veh v).boundRow = none →
      (x.parkIn v l).settle.row i = some r ∧ ((x.parkIn v l).settle.veh v).boundRow = none := by
  have hveh : (x.modVeh v fun r => { r with state := .parked, location := .lane l .present none, shift := false }).veh v
      = { x.veh v with state := .parked, location := .lane l .present none, shift := false } := by simp
  have hfoot : (x.modVeh v fun r => { r with state := .parked, location := .lane l .present none, shift := false }).footing v
      = x.footing v := x.modVeh_footing v _
  have hcore : ∃ F, (x.modVeh v fun r => { r with state := .parked, location := .lane l .present none, shift := false })
      = { x with fleet := F } := ⟨_, rfl⟩
  have htest := (x.modVeh v fun r => { r with state := .parked, location := .lane l .present none, shift := false }).testLane_remarks l
  rw [State.parkIn]
  generalize (x.modVeh v fun r => { r with state := .parked, location := .lane l .present none, shift := false }) = p at *
  obtain ⟨F, rfl⟩ := hcore
  obtain ⟨n, hn⟩ := htest.veh v
  have hblocked := h.of_active (congrArg Ds.active htest.ds)
  obtain ⟨hlanes, hwait, hstc, hdlp, hflag, hrecord⟩ := hblocked.settle_spec
  obtain ⟨b, m, hrec⟩ := hrecord v
  have hmark (hp : x.ds.swap ≠ .pending) : ∃ d, (State.testLane { x with fleet := F } l).settle
      = { State.testLane { x with fleet := F } l with ds := d } := by
    obtain ⟨d, hd, -⟩ := hblocked.settle fun hx => hp ((congrArg Ds.swap htest.ds).symm.trans hx.1)
    exact ⟨d, hd⟩
  have hrow (i : Nat) (r : PlanRow) (hr : x.row i = some r) (hc : r.state ≠ .called) (hp : x.ds.swap ≠ .pending) :
      (State.testLane { x with fleet := F } l).settle.row i = some r :=
    State.settle_row ((htest.row i).trans hr) hc (by rw [htest.ds]; exact hp)
  have hlane := htest.lane
  have htfoot := htest.footing v
  have htdlp := htest.dlp
  have htflag := htest.flag
  generalize State.testLane { x with fleet := F } l = y at *
  refine ⟨⟨b, m, by rw [hrec, hn, hveh]⟩, ?_, fun k => ?_, fun f => ?_, ?_, fun i r hp hr hc hnone => ⟨hrow i r hr hc hp, ?_⟩⟩
  · rw [State.footing_of_eq hlanes hstc hwait, htfoot, hfoot]
  · rw [State.lane, hlanes]; exact hlane k
  · rw [hflag]; exact htflag f
  · rw [hdlp]; exact htdlp
  · obtain ⟨d, hd⟩ := hmark hp
    rw [hd]
    show (y.veh v).boundRow = none
    rw [hn, hveh]
    exact hnone

end

end Sys2Proof.Machine
end

section
/-! The end of a LANE_ENTRY of a vehicle with no entry in the lane (R30, R31). -/

namespace Sys2Proof.Machine

section
variable {s t x : State} {v w : Slot} {l : LaneNo} {before : VehicleState} {cause : Nat}

/-- The end of a LANE_ENTRY into a lane with room, with no call BLOCKED. -/
theorem State.entryJoins_settle (he : s.entry l v = none) (hb : s.NoneBlocked) :
    (∃ b m, (s.entryJoins v l before).settle.veh v = { s.veh v with
      state := .parked, location := .lane l .present none, shift := false, boundRow := b, misorder := m })
    ∧ (s.entryJoins v l before).settle.footing v = .parked v l
    ∧ (∃ new, (s.waitList = [] → new = [])
      ∧ (s.entryJoins v l before).settle.lane l = ((s.lane l).joined [⟨v, .present, none⟩]).joined new)
    ∧ (∀ f, (s.entryJoins v l before).settle.flag f = ((s.joinsAt v l).joinFlags v l (s.veh v) before).flag f)
    ∧ (s.entryJoins v l before).settle.dlp = ((s.joinsAt v l).joinFlags v l (s.veh v) before).dlp
    ∧ (onCall (s.veh v) = true → CallUndone s (s.entryJoins v l before).settle v) := by
  obtain ⟨⟨b, hveh⟩, hfoot, ⟨new, hnil, hlane⟩, hblocked, hswap, hflag, hdlp, hcall⟩ :=
    State.joinedAt_spec (before := before) he
  rw [State.entryJoins_eq]
  generalize s.joinedAt v l before = j at *
  obtain ⟨⟨c, m, hrec⟩, hfoot', hlane', hflag', hdlp', hrow⟩ := (hblocked hb).parkIn_settle v l
  refine ⟨⟨c, m, by rw [hrec, hveh]⟩, hfoot'.trans hfoot, ⟨new, hnil, (hlane' l).trans hlane⟩,
    fun f => (hflag' f).trans (hflag f), hdlp'.trans hdlp, fun hc i r hi hr hcalled hp => ?_⟩
  obtain ⟨hi', hnone⟩ := hcall i r hc hi hr hcalled
  exact hrow i _ (by rwa [hswap]) hi' (by simp) hnone

theorem State.laneEntered_joins (he : s.entry l v = none) (hroom : s.units v ≤ s.room l) :
    s.laneEntered v l before = s.entryJoins v l before := by
  simp [State.laneEntered, he, hroom]

theorem State.laneEntered_lost (he : s.entry l v = none) (hroom : s.room l < s.units v) :
    s.laneEntered v l before = s.entryLost v before := by
  simp [State.laneEntered, he, hroom]

theorem State.reporter_of_ne (h : (s.veh v).state ≠ .out) : s.reporter v = s.veh v := if_neg h

theorem State.reported_of_ne (h : (s.veh v).state ≠ .out) : s.reported v cause = s := if_neg h

theorem State.reporter_of_eq (h : (s.veh v).state = .out) : s.reporter v =
    { s.veh v with state := .moving, location := .enRoute none, arrival := s.ycs.minute } := if_pos h

theorem State.reported_of_onCall (h : onCall (s.veh v) = true) : s.reported v cause = s :=
  State.reported_of_ne fun hs => by simp [onCall, hs] at h

/-! ### The flags and the notice of a vehicle that joins (R28, R30) -/

/-- What a LANE_ENTRY into a lane with room raises. -/
theorem State.joinsFlags_spec (htag : (s.veh v).tag = tag) (hx : x = ((s.reported v 3).joinsAt v l).joinFlags v l
      ((s.reported v 3).veh v) (s.veh v).state) :
    ((s.veh v).state = .toBerth ∨ (s.veh v).state = .moving ∧ (∃ m, m ≠ l ∧ (s.veh v).location = .enRoute (some m)) →
      x.flag .wrongLane = true)
    ∧ ((s.veh v).state = .moving → (s.veh v).location = .enRoute none ∨ (s.veh v).location = .enRoute (some l) →
      s.flag .wrongLane = false → x.flag .wrongLane = false)
    ∧ ((s.veh v).state ≠ .moving → (∀ m sh, (s.veh v).state = .toBerth → (s.veh v).location ≠ .lane m .expected sh) →
      x.flag .yardConflict = true
      ∧ (s.ycs.mode = .normal → x.dlp.notices.length < 16 →
        .yardConflict tag v (s.veh v).state 3 ∈ x.dlp.notices)) := by
  rw [s.reported_veh] at hx
  refine ⟨fun h => ?_, fun hs hl hf => ?_, fun hs hl => ?_⟩
  · have hout : (s.veh v).state ≠ .out := by rintro e; simp [e] at h
    rw [hx, State.reporter_of_ne hout]
    exact State.joinFlags_wrong h
  · have hout : (s.veh v).state ≠ .out := by simp [hs]
    rw [hx, State.reporter_of_ne hout, State.joinFlags_right hs hl, State.joinsAt_flag _ _ _ (by decide),
      State.reported_of_ne hout]
    exact hf
  · by_cases hout : (s.veh v).state = .out
    · obtain ⟨hflag, a, ha, hycs⟩ := State.reported_out (cause := 3) hout
      have hbeside : (s.reported v 3).Beside x := by
        rw [hx]
        exact (State.joinsAt_beside _ v l).trans (State.joinFlags_beside _ _ _ _ _)
      refine ⟨hbeside.flags _ hflag, fun hm hlen => ?_⟩
      rw [hout, ← htag]
      exact State.notify_mem (by rw [← ha]; exact hbeside) (by rw [hycs]; exact hm) hlen
    · have hjoin := State.joinsAt_veh s v l
      have hycs := (State.joinsAt_beside s v l).ycs
      rw [State.reporter_of_ne hout, State.reported_of_ne hout] at hx
      generalize s.joinsAt v l = y at *
      obtain ⟨a, ha, heq⟩ := State.joinFlags_conflict (s := y) (v := v) (l := l) (before := (s.veh v).state) hs hl
      rw [hx, heq]
      refine ⟨State.yardConflict_flag_self _ _ _ _, fun hm hlen => ?_⟩
      rw [State.yardConflict] at hlen ⊢
      have htag' : (a.veh v).tag = tag := by rw [ha.veh, hjoin]; exact htag
      rw [htag'] at hlen ⊢
      exact State.notify_mem (.refl _) (by show a.ycs.mode = _; rw [ha.ycs, hycs]; exact hm) hlen

/-! ### A lane without room (R15, R31) -/

/-- The vehicle is withdrawn from everywhere, and its call undone. -/
def State.strayed (s : State) (v : Slot) : State := (s.withdraw v none).uncalled v (onCall (s.veh v))

theorem State.entryLost_eq (s : State) (v : Slot) (before : VehicleState) : s.entryLost v before =
    ((s.strayed v).modVeh v fun r => { r with state := .lost, location := .none, misorder := false, shift := false }).yardConflict
      v before 3 := rfl

theorem State.strayed_spec (s : State) (v : Slot) : (∃ b, (s.strayed v).veh v =
      { s.veh v with misorder := false, shift := false, boundRow := b })
    ∧ (s.strayed v).footing v = .none ∧ (s.strayed v).ds.swap = s.ds.swap
    ∧ ∀ i r, onCall (s.veh v) = true → (s.veh v).boundRow = some i → s.row i = some r → r.state = .called →
      (s.strayed v).row i = some r.unplanned ∧ ((s.strayed v).veh v).boundRow = none := by
  have hun := (s.withdraw v none).uncalled_unbinds v (onCall (s.veh v))
  have hveh := s.withdraw_veh v none
  have hfoot := s.withdraw_footing v none
  have hswap := s.withdraw_swap v none
  have hactive := s.withdraw_active v none
  rw [State.strayed]
  generalize s.withdraw v none = a at *
  obtain ⟨b, hb⟩ := hun.veh
  refine ⟨⟨b, by rw [hb, hveh]⟩, ?_, ?_, fun i r hc hi hr hcalled => ?_⟩
  · rw [hun.footing, hfoot, Footing.only_none]
  · rw [hun.swap, hswap]
  · rw [hc]
    exact State.uncalled_called (by rw [hveh]) hactive hi hr hcalled

/-- The end of a LANE_ENTRY into a lane without room. -/
theorem State.entryLost_settle (s : State) (v : Slot) (before : VehicleState) :
    (∃ b, (s.entryLost v before).settle.veh v = { s.veh v with
      state := .lost, location := .none, misorder := false, shift := false, boundRow := b })
    ∧ (s.entryLost v before).settle.StandsNowhere v ∧ (s.entryLost v before).settle.flag .yardConflict = true
    ∧ (onCall (s.veh v) = true → CallUndone s (s.entryLost v before).settle v) := by
  obtain ⟨⟨b, hveh⟩, hfoot, hswap, hcall⟩ := s.strayed_spec v
  rw [State.entryLost_eq]
  generalize s.strayed v = a at *
  have hlost : (a.modVeh v fun r => { r with state := .lost, location := .none, misorder := false, shift := false }).veh v
      = { s.veh v with state := .lost, location := .none, misorder := false, shift := false, boundRow := b } := by
    rw [State.modVeh_veh, if_pos rfl, hveh]
  have hrow (i : Nat) : (a.modVeh v fun r =>
      { r with state := .lost, location := .none, misorder := false, shift := false }).row i = a.row i := rfl
  have hds : (a.modVeh v fun r =>
      { r with state := .lost, location := .none, misorder := false, shift := false }).ds = a.ds := rfl
  have hlfoot : (a.modVeh v fun r =>
      { r with state := .lost, location := .none, misorder := false, shift := false }).footing v = .none := by
    rw [State.modVeh_footing, hfoot]
  generalize (a.modVeh v fun r => { r with state := .lost, location := .none, misorder := false, shift := false }) = c at *
  have hyard := c.yardConflict_sameYard v before 3
  have hflag := c.yardConflict_flag_self v before 3
  generalize c.yardConflict v before 3 = d at *
  have hdfoot : d.footing v = .none := by rw [hyard.footing, hlfoot]
  obtain ⟨hsfoot, b', hsveh⟩ := State.settle_outside (State.standsNowhere_iff.mpr hdfoot).1
  refine ⟨⟨b', ?_⟩, ?_, ?_, fun hc i r hi hr hcalled hp => ?_⟩
  · rw [hsveh, hyard.veh, hlost]
  · rw [State.standsNowhere_iff, hsfoot, hdfoot]
  · rw [State.settle_flag _ (by decide), hflag]
  · obtain ⟨hai, hnone⟩ := hcall i r hc hi hr hcalled
    have hdp : d.ds.swap ≠ .pending := by rw [hyard.ds, hds, hswap]; exact hp
    refine ⟨State.settle_row (by rw [hyard.row, hrow, hai]; rfl) (by simp) hdp, ?_⟩
    rw [(State.settle_spares (presentIn_of_nowhere hdfoot) fun h => hdp h.1).veh, hyard.veh, hlost]
    rw [hveh] at hnone
    exact hnone

end

end Sys2Proof.Machine
end

section
/-! LANE_ENTRY of a vehicle with no entry in the lane, and LANE_EXIT of one that has none, of a reservation, and from inside
(R30, R31, R33). -/

namespace Sys2Proof.Machine

section
variable {s t x : State} {v w : Slot} {l : LaneNo} {before : VehicleState} {cause : Nat} {tag : Nat}

/-- A LANE_ENTRY into a lane with room (R30). -/
theorem laneEntry_joins (htag : (s.veh v).tag = tag) (hs : (s.veh v).state ≠ .lost) (he : s.entry l v = none)
    (hroom : s.units v ≤ s.room l) (hb : s.NoneBlocked) :
    ∃ t, (s.laneEntry v l).settle = t
      ∧ (t.veh v).state = .parked ∧ (t.veh v).location = .lane l .present none ∧ (t.veh v).shift = false
      ∧ (t.veh v).arrival = (if (s.veh v).state = .out then s.ycs.minute else (s.veh v).arrival)
      ∧ t.presentIn l v = true ∧ (∀ m, m ≠ l → t.entry m v = none) ∧ t.hasTicket v = false
      ∧ (∀ w ∈ t.waitList, w.slot ≠ v)
      ∧ (s.waitList = [] → (t.lane l).entries = match (s.lane l).cfg.kind with
          | .through => (s.lane l).entries ++ [⟨v, .present, none⟩]
          | .deadEnd => ⟨v, .present, none⟩ :: (s.lane l).entries)
      ∧ ((s.veh v).state = .toBerth ∨ (s.veh v).state = .moving ∧ (∃ m, m ≠ l ∧ (s.veh v).location = .enRoute (some m)) →
          t.flag .wrongLane = true)
      ∧ ((s.veh v).state = .moving →
          (s.veh v).location = .enRoute none ∨ (s.veh v).location = .enRoute (some l) →
          s.flag .wrongLane = false → t.flag .wrongLane = false)
      ∧ ((s.veh v).state ≠ .moving → (∀ m sh, (s.veh v).state = .toBerth → (s.veh v).location ≠ .lane m .expected sh) →
          t.flag .yardConflict = true
          ∧ (s.ycs.mode = .normal → t.dlp.notices.length < 16 →
              .yardConflict tag v (s.veh v).state 3 ∈ t.dlp.notices))
      ∧ ((s.veh v).state = .called ∨ (s.veh v).state = .departing → CallUndone s t v) := by
  obtain ⟨-, hwait, -, hds, -⟩ := s.reported_core v 3
  have hentry : (s.reported v 3).entry l v = none := by rw [State.reported_entry, he]
  have hroom' : (s.reported v 3).units v ≤ (s.reported v 3).room l := by rw [State.reported_units, State.reported_room]; exact hroom
  have hlane := s.reported_lane v 3 l
  have hveh := s.reported_veh v 3
  obtain ⟨hwrong, hright, hconflict⟩ := State.joinsFlags_spec (l := l) htag rfl
  obtain ⟨⟨b, m, hrec⟩, hfoot, ⟨new, hnil, hjoined⟩, hflag, hdlp, hcall⟩ :=
    State.entryJoins_settle (before := (s.veh v).state) hentry (hb.of_active (congrArg Ds.active hds))
  have hundone : onCall (s.veh v) = true → CallUndone s ((s.reported v 3).entryJoins v l (s.veh v).state).settle v := fun hc => by
    rw [State.reported_of_onCall hc] at hcall ⊢
    exact hcall hc
  have harrival : (s.reporter v).arrival = if (s.veh v).state = .out then s.ycs.minute else (s.veh v).arrival := by
    unfold State.reporter
    split <;> rfl
  rw [State.laneEntry_reported hs, State.laneEntered_joins hentry hroom']
  generalize ((s.reported v 3).entryJoins v l (s.veh v).state).settle = t at *
  refine ⟨t, rfl, by rw [hrec], by rw [hrec], by rw [hrec], by rw [hrec, hveh]; exact harrival, ?_, fun m hm => ?_, ?_, ?_,
    fun hw => ?_, fun h => ?_, fun h1 h2 h3 => ?_, fun h1 h2 => ?_, fun h => hundone (onCall_iff.mpr h)⟩
  · simp [State.presentIn_eq_footing, hfoot, Footing.parked]
  · simp [State.entry_eq_footing, hfoot, Footing.parked, Ne.symm hm]
  · simp [State.hasTicket_false_iff, hfoot, Footing.parked, Footing.none]
  · rw [← State.waits_eq_nil_iff, hfoot]; rfl
  · rw [hjoined, hnil (by rw [hwait, hw]), Lane.joined_nil, hlane, Lane.joined]
    rfl
  · rw [hflag]; exact hwrong h
  · rw [hflag]; exact hright h1 h2 h3
  · rw [hflag, hdlp]; exact hconflict h1 h2

/-- A LANE_ENTRY into a lane without room (R31). -/
theorem laneEntry_loses (hs : (s.veh v).state ≠ .lost) (he : s.entry l v = none) (hroom : s.room l < s.units v) :
    ∃ t, (s.laneEntry v l).settle = t
      ∧ (t.veh v).state = .lost ∧ (t.veh v).location = .none ∧ (t.veh v).misorder = false ∧ (t.veh v).shift = false
      ∧ t.StandsNowhere v ∧ t.flag .yardConflict = true
      ∧ ((s.veh v).state = .called ∨ (s.veh v).state = .departing → CallUndone s t v) := by
  have hentry : (s.reported v 3).entry l v = none := by rw [State.reported_entry, he]
  have hroom' : (s.reported v 3).room l < (s.reported v 3).units v := by rw [State.reported_units, State.reported_room]; exact hroom
  obtain ⟨⟨b, hrec⟩, hnowhere, hflag, hcall⟩ := (s.reported v 3).entryLost_settle v (s.veh v).state
  rw [State.laneEntry_reported hs, State.laneEntered_lost hentry hroom']
  refine ⟨_, rfl, by rw [hrec], by rw [hrec], by rw [hrec], by rw [hrec], hnowhere, hflag, fun h => ?_⟩
  have hc := onCall_iff.mpr h
  rw [State.reported_of_onCall hc] at hcall ⊢
  exact hcall hc

/-! ### LANE_EXIT away from the mouth (R33) -/

/-- A LANE_EXIT of a bus that is not in the lane raises a conflict and no more. -/
theorem State.laneExited_none (he : s.entry l v = none) : s.laneExited v l before = s.yardConflict v before 4 := by
  rw [State.laneExited, he]
  rfl

/-- The reservation of a bus that reads its exit is given up (R33). -/
theorem State.laneExited_expected {timer : Option Nat} (he : s.entry l v = some ⟨v, .expected, timer⟩) :
    s.laneExited v l before = ((s.yardConflict v before 4).withdraw v none).setMoving v none := by
  rw [State.laneExited, he]
  rfl

theorem State.laneExited_inside {timer : Option Nat} (he : s.entry l v = some ⟨v, .present, timer⟩)
    (hi : s.entryIndex l v ≠ 0) : s.laneExited v l before = (s.yardConflict v before 4).exitFromInside v l := by
  rw [State.laneExited, he]
  dsimp only
  rw [if_neg hi]
  rfl

/-- The end of a LANE_EXIT of an OUT bus that is in no lane: it is brought in (R7, R33). -/
theorem laneExit_bringsIn (hs : (s.veh v).state = .out) (he : s.entry l v = none) (hr : s.AtRest) :
    ∃ t, (s.laneExit v l).settle = t
      ∧ t.veh v = { s.veh v with state := .moving, location := .enRoute none, arrival := s.ycs.minute }
      ∧ t.flag .yardConflict = true ∧ t.lanes = s.lanes ∧ t.waitList = s.waitList ∧ t.stc = s.stc ∧ t.ds = s.ds := by
  obtain ⟨hlanes, hwait, hstc, hds, -, -⟩ := s.reported_core v 4
  have hyard := (s.reported v 4).yardConflict_sameYard v (s.veh v).state 4
  have hflag := (s.reported v 4).yardConflict_flag_self v (s.veh v).state 4
  have hveh := s.reported_veh v 4
  rw [State.laneExit_reported, State.laneExited_none (by rw [State.reported_entry, he])]
  generalize (s.reported v 4).yardConflict v (s.veh v).state 4 = y at *
  rw [(hr.of_ds (hyard.ds.trans hds)).settle]
  refine ⟨y, rfl, ?_, hflag, hyard.lanes.trans hlanes, hyard.waitList.trans hwait, hyard.stc.trans hstc, hyard.ds.trans hds⟩
  rw [hyard.veh, hveh, State.reporter_of_eq hs]

/-- The end of a LANE_EXIT of a bus with a reservation in the lane. -/
theorem laneExit_unreserves {timer : Option Nat} (he : s.entry l v = some ⟨v, .expected, timer⟩) :
    ∃ t, (s.laneExit v l).settle = t
      ∧ (t.veh v).state = .moving ∧ (t.veh v).location = .enRoute none ∧ (t.veh v).misorder = false
      ∧ (t.veh v).shift = false ∧ t.StandsNowhere v ∧ t.flag .yardConflict = true := by
  have hflag := (s.reported v 4).yardConflict_flag_self v (s.veh v).state 4
  rw [State.laneExit_reported, State.laneExited_expected (by rw [State.reported_entry, he])]
  generalize (s.reported v 4).yardConflict v (s.veh v).state 4 = y at *
  have hveh := y.withdraw_veh v none
  have hfoot := y.withdraw_footing v none
  have hwflag := y.withdraw_flag v none (f := .yardConflict) (by decide)
  generalize y.withdraw v none = a at *
  have hmoving : (a.setMoving v none).footing v = .none := by
    rw [State.setMoving, State.modVeh_footing, hfoot, Footing.only_none]
  have hrec : (a.setMoving v none).veh v = { y.veh v with
      state := .moving, location := .enRoute none, misorder := false, shift := false } := by
    rw [State.setMoving, State.modVeh_veh, if_pos rfl, hveh]
  obtain ⟨hsfoot, b, hsveh⟩ := State.settle_outside (State.standsNowhere_iff.mpr hmoving).1
  refine ⟨_, rfl, ?_, ?_, ?_, ?_, ?_, ?_⟩
  any_goals rw [hsveh, hrec]
  · rw [State.standsNowhere_iff, hsfoot, hmoving]
  · rw [State.settle_flag _ (by decide)]
    exact hwflag.trans hflag

end

end Sys2Proof.Machine
end

section
/-! LANE_EXIT from inside a lane (R33), and of a shifted blocker at the mouth (R26, R32). -/

namespace Sys2Proof.Machine

section
variable {s t x : State} {v w : Slot} {l o sh : LaneNo} {before : VehicleState} {cause : Nat} {tag : Nat}

/-! ### From inside (R33) -/

/-- The vehicle's entry in the lane goes, and its shunt reservation with it. -/
def State.leftInside (s : State) (v : Slot) (l : LaneNo) (target : Option LaneNo) : State :=
  match target with
  | some sh => (s.removeEntry l v).removeEntry sh v
  | none => s.removeEntry l v

theorem State.leftInside_leaves (s : State) (v : Slot) (l : LaneNo) (target : Option LaneNo) :
    s.Leaves (s.leftInside v l target) v := by
  cases target with
  | none => exact s.removeEntry_leaves l v
  | some sh => exact (s.removeEntry_leaves l v).trans (State.removeEntry_leaves _ sh v)

theorem State.leftInside_footing (s : State) (v : Slot) (l : LaneNo) (target : Option LaneNo) :
    (s.leftInside v l target).footing v = { s.footing v with
      entries := fun m => if l = m ∨ target = some m then [] else (s.footing v).entries m } := by
  cases target with
  | none =>
    rw [State.leftInside, State.removeEntry_footing]
    simp
  | some sh =>
    rw [State.leftInside, State.removeEntry_footing, State.removeEntry_footing]
    ext1 <;> try rfl
    funext m
    by_cases hl : l = m <;> by_cases hsh : sh = m <;> simp [hl, hsh]

theorem State.exitFromInside_eq (s : State) (v : Slot) (l : LaneNo) : s.exitFromInside v l =
    ((((s.leftInside v l (shuntTarget (s.veh v).location)).uncalled v (decide ((s.veh v).state = .called))).setMoving v
      (shuntTarget (s.veh v).location)).recheckChargers).retry := by
  unfold State.exitFromInside State.leftInside State.uncalled
  cases shuntTarget (s.veh v).location <;> simp only [decide_eq_true_eq]

/-- From the removals of an exit from inside to the end of the event. -/
theorem State.exitFromInside_settle (hw : ∀ w ∈ s.waitList, w.slot ≠ v)
    (hm : ∀ m, m ≠ l → some m ≠ shuntTarget (s.veh v).location → s.entry m v = none) :
    ((s.exitFromInside v l).settle.veh v).state = .moving
    ∧ ((s.exitFromInside v l).settle.veh v).location = .enRoute (shuntTarget (s.veh v).location)
    ∧ (s.exitFromInside v l).settle.inSomeLane v = false
    ∧ (∀ f, f ∉ placingFlags → (s.exitFromInside v l).settle.flag f = s.flag f)
    ∧ ((s.veh v).state = .called → CallUndone s (s.exitFromInside v l).settle v) := by
  have hleaves := s.leftInside_leaves v l (shuntTarget (s.veh v).location)
  have hfoot := s.leftInside_footing v l (shuntTarget (s.veh v).location)
  rw [State.exitFromInside_eq]
  generalize s.leftInside v l (shuntTarget (s.veh v).location) = a at *
  have hun := a.uncalled_unbinds v (decide ((s.veh v).state = .called))
  have hundone (i : Nat) (r : PlanRow) (hs : (s.veh v).state = .called) (hi : (s.veh v).boundRow = some i)
      (hr : s.row i = some r) (hc : r.state = .called) :
      (a.uncalled v (decide ((s.veh v).state = .called))).row i = some r.unplanned
      ∧ ((a.uncalled v (decide ((s.veh v).state = .called))).veh v).boundRow = none := by
    obtain ⟨p, q, hpq⟩ := hleaves.veh
    rw [decide_eq_true hs]
    exact State.uncalled_called (by rw [hpq]) hleaves.active hi hr hc
  generalize a.uncalled v (decide ((s.veh v).state = .called)) = c at *
  have hveh : (c.setMoving v (shuntTarget (s.veh v).location)).veh v = { c.veh v with
      state := .moving, location := .enRoute (shuntTarget (s.veh v).location) } := by
    rw [State.setMoving, State.modVeh_veh, if_pos rfl]
  have hdfoot : (c.setMoving v (shuntTarget (s.veh v).location)).footing v = a.footing v := by
    rw [State.setMoving, State.modVeh_footing, hun.footing]
  have hdwait : (c.setMoving v (shuntTarget (s.veh v).location)).waitList = s.waitList := hun.waitList.trans hleaves.waitList
  have hdrow (i : Nat) : (c.setMoving v (shuntTarget (s.veh v).location)).row i = c.row i := rfl
  have hdswap : (c.setMoving v (shuntTarget (s.veh v).location)).ds.swap = s.ds.swap := hun.swap.trans hleaves.swap
  have hdflag (f : EventFlag) : (c.setMoving v (shuntTarget (s.veh v).location)).flag f = a.flag f := hun.flag f
  generalize c.setMoving v (shuntTarget (s.veh v).location) = d at *
  have hres : d.Reserves d.recheckChargers.retry := (State.Reserves.refl d).recheckChargers.trans (State.retry_reserves _)
  have hsp : d.Spares v d.recheckChargers.retry := (d.recheckChargers_sameYard.spares v).trans
    (State.retry_spares (by rw [State.recheckChargers_waitList, hdwait]; exact hw))
  generalize d.recheckChargers.retry = e at *
  have hentries : ∀ m, (e.footing v).entries m = [] := fun m => by
    rw [hsp.footing, hdfoot, hfoot]
    dsimp only
    split
    · rfl
    · next h =>
      rw [not_or] at h
      exact (State.entries_eq_nil_iff m).mpr (hm m (Ne.symm h.1) (Ne.symm h.2))
  have hnone := State.inSomeLane_false_iff.mpr hentries
  obtain ⟨hsfoot, b, hsveh⟩ := State.settle_outside hnone
  refine ⟨by rw [hsveh, hsp.veh, hveh], by rw [hsveh, hsp.veh, hveh], ?_, fun f hf => ?_, fun hs i r hi hr hc hp => ?_⟩
  · rw [State.inSomeLane_congr hsfoot, hnone]
  · rw [State.settle_flag _ hf, hres.flag f hf, hdflag, hleaves.flag f (by rintro rfl; simp [placingFlags] at hf)]
  · obtain ⟨hrow, hbound⟩ := hundone i r hs hi hr hc
    have hep : e.ds.swap ≠ .pending := by rw [hres.swap, hdswap]; exact hp
    have her : e.row i = some r.unplanned := hres.row (by rw [hdrow, hrow]) (by simp [PlanRow.unplanned])
    refine ⟨State.settle_row her (by simp) hep, ?_⟩
    have hidle : ∀ m, e.presentIn m v = false := fun m => by rw [State.presentIn_eq_footing, hentries m]; rfl
    rw [(State.settle_spares hidle fun h => hep h.1).veh, hsp.veh, hveh]
    exact hbound

/-- The end of a LANE_EXIT read of a bus that stands behind another (R33). -/
theorem laneExit_inside {timer : Option Nat} {target : Option LaneNo} (he : s.entry l v = some ⟨v, .present, timer⟩)
    (hi : s.entryIndex l v ≠ 0) (hs : (s.veh v).state ≠ .out) (hl : (s.veh v).location = .lane l .present target)
    (hm : ∀ m, m ≠ l → some m ≠ target → s.entry m v = none) (hw : ∀ w ∈ s.waitList, w.slot ≠ v) :
    ∃ t, (s.laneExit v l).settle = t
      ∧ (t.veh v).state = .moving ∧ (t.veh v).location = .enRoute target ∧ t.inSomeLane v = false
      ∧ t.flag .yardConflict = true
      ∧ ((s.veh v).state = .called → CallUndone s t v) := by
  have hyard := s.yardConflict_sameYard v (s.veh v).state 4
  have hflag := s.yardConflict_flag_self v (s.veh v).state 4
  have hexit : s.laneExit v l = (s.yardConflict v (s.veh v).state 4).exitFromInside v l := by
    rw [State.laneExit_reported, State.reported_of_ne hs, State.laneExited_inside he hi]
  rw [hexit]
  generalize s.yardConflict v (s.veh v).state 4 = y at *
  have htarget : shuntTarget (y.veh v).location = target := by rw [hyard.veh, hl]; rfl
  have hrow (i : Nat) := hyard.row i
  obtain ⟨hstate, hloc, hlane, hflags, hcall⟩ := State.exitFromInside_settle (s := y) (v := v) (l := l)
    (by rw [hyard.waitList]; exact hw)
    fun m hml hmt => by rw [State.entry_congr (hyard.footing v)]; exact hm m hml (by rwa [htarget] at hmt)
  rw [htarget] at hloc
  refine ⟨_, rfl, hstate, hloc, hlane, by rw [hflags _ (by decide), hflag], fun hc i r hi hr hcalled hp => ?_⟩
  exact hcall (by rw [hyard.veh]; exact hc) i r (by rw [hyard.veh]; exact hi) (by rw [hyard.row]; exact hr) hcalled
    (by rw [hyard.ds]; exact hp)

/-! ### A shifted blocker at the mouth (R26, R32) -/

/-- The end of a LANE_EXIT at the mouth of a shifted blocker: it goes on to its shunt lane, whose timer starts. -/
theorem laneExit_shunts {rest : List Entry} {timer : Option Nat} (hs : (s.veh v).state = .toBerth)
    (hl : (s.veh v).location = .lane l .present (some sh)) (hne : sh ≠ l)
    (he : (s.lane l).entries = ⟨v, .present, timer⟩ :: rest)
    (hsh : s.entry sh v = some ⟨v, .expected, none⟩) (hp : ∀ m, m ≠ l → s.presentIn m v = false)
    (hw : ∀ w ∈ s.waitList, w.slot ≠ v) (hx : ¬ (s.ds.swap = .pending ∧ s.anyCalled = false)) :
    ∃ t, (s.laneExit v l).settle = t
      ∧ (t.veh v).state = .toBerth ∧ (t.veh v).location = .lane sh .expected none ∧ (t.veh v).shift = (s.veh v).shift
      ∧ t.entry l v = none ∧ t.entry sh v = some ⟨v, .expected, some s.ss.params.arrivalTimeout⟩ := by
  obtain ⟨hentry, -⟩ := entry_of_head he
  have hremoved := State.removeEntry_veh hentry
  have hafter : (s.leftMouth v l).veh v = { (s.removeEntry l v).veh v with location := .lane sh .expected none } := by
    rw [State.leftMouth_veh]
    simp [afterMouthExit, hremoved, hs, hl]
  have hss := (s.removeEntry_leaves l v).ss
  have hfoot : (s.leftMouth v l).footing v = { (s.removeEntry l v).footing v with
      entries := fun m => if sh = m then
          ((((s.removeEntry l v).footing v).entries sh).map fun e => { e with timer := some s.ss.params.arrivalTimeout })
        else ((s.removeEntry l v).footing v).entries m } := by
    have hstate : (((s.removeEntry l v).modVeh v afterMouthExit).veh v).state = .toBerth
        ∧ (((s.removeEntry l v).modVeh v afterMouthExit).veh v).location = .lane sh .expected none := by
      rw [State.leftMouth, State.startShuntTimer_core] at hafter
      have hv : ((s.removeEntry l v).modVeh v afterMouthExit).veh v
          = { (s.removeEntry l v).veh v with location := .lane sh .expected none } := hafter
      rw [hv, hremoved]
      exact ⟨hs, rfl⟩
    have hmod : ((s.removeEntry l v).modVeh v afterMouthExit).footing v = (s.removeEntry l v).footing v :=
      State.modVeh_footing _ _ _
    have hmss : ((s.removeEntry l v).modVeh v afterMouthExit).ss = s.ss := hss
    rw [State.leftMouth, State.startShuntTimer]
    generalize (s.removeEntry l v).modVeh v afterMouthExit = y at *
    rw [hstate.1, hstate.2]
    dsimp only
    rw [State.modLane_footing, hmod, hmss]
    ext1 <;> try rfl
    funext m
    dsimp only
    split
    · have hentries := congrFun (congrArg Footing.entries hmod) sh
      rw [← hentries]
      simp only [State.footing, List.filter_map]
      rw [List.filter_congr (q := fun e => decide (e.slot = v))]
      · refine List.map_congr_left fun e he => ?_
        rw [if_pos (by simpa using (List.mem_filter.mp he).2)]
      · intro e _
        by_cases h : e.slot = v <;> simp [h]
    · rfl
  have hrfoot := s.removeEntry_footing (v := v) l v
  have hlnone : ((s.leftMouth v l).footing v).entries l = [] := by
    rw [hfoot, hrfoot]
    simp [hne]
  have hshentries : ((s.leftMouth v l).footing v).entries sh
      = ((s.footing v).entries sh).map fun e => { e with timer := some s.ss.params.arrivalTimeout } := by
    rw [hfoot, hrfoot]
    simp [Ne.symm hne]
  have hidle : ∀ m, (s.leftMouth v l).presentIn m v = false := fun m => by
    by_cases hml : m = l
    · subst hml
      rw [State.presentIn_eq_footing, hlnone]
      rfl
    · rw [← hp m hml, State.presentIn_eq_footing, State.presentIn_eq_footing, hfoot, hrfoot]
      dsimp only
      by_cases hsm : sh = m
      · subst hsm
        simp [Ne.symm hne, List.any_map, Function.comp_def]
      · rw [if_neg hsm, if_neg fun h => hml h.1.symm]
  obtain ⟨hsp, -, -⟩ := State.exitAtMouth_settle hidle hw hx
  have hout : (s.veh v).state ≠ .out := by simp [hs]
  rw [State.laneExit_mouth he hout]
  refine ⟨_, rfl, ?_, ?_, ?_, ?_, ?_⟩
  · rw [hsp.veh, hafter, hremoved]; exact hs
  · rw [hsp.veh, hafter]
  · rw [hsp.veh, hafter, hremoved]; rfl
  · rw [State.entry_congr hsp.footing, State.entry_eq_footing, hlnone]; rfl
  · rw [State.entry_congr hsp.footing, State.entry_eq_footing, hshentries, List.head?_map, ← State.entry_eq_footing, hsh]
    rfl

end

end Sys2Proof.Machine
end

section
/-! LANE_ENTRY of a shifted blocker whose LANE_EXIT was not read (R29): it is taken out of its own lane first, and no shift step
of the event moves it again. -/

namespace Sys2Proof.Machine

section
variable {s t x : State} {v w : Slot} {l o m : LaneNo} {tag : Nat}

/-! ### A lane in which no other bus is BLOCKED -/

/-- No bus PRESENT in the lane has a BLOCKED call, but the one named. -/
def State.ClearBut (s : State) (v : Slot) (l : LaneNo) : Prop :=
  ∀ e ∈ (s.lane l).entries, e.standing = .present → e.slot ≠ v → s.blockedRowOf e.slot = none

/-- What placing vehicles does to the plan blocks nobody. -/
theorem State.Reserves.blockedRowOf_none (h : s.Reserves t) (hb : (t.veh w).boundRow = (s.veh w).boundRow)
    (hn : s.blockedRowOf w = none) : t.blockedRowOf w = none := by
  rw [Option.eq_none_iff_forall_ne_some] at hn ⊢
  intro i hi
  obtain ⟨hbound, r, hr, hc, hblocked⟩ := State.blockedRowOf_eq_some.mp hi
  have hrel := h.rows i
  rw [hr] at hrel
  cases hs : s.row i with
  | none => rw [hs] at hrel; cases hrel
  | some q =>
    rw [hs] at hrel
    cases hrel with
    | some hx =>
      rcases hx with rfl | ⟨-, rfl⟩
      · exact hn i (State.blockedRowOf_eq_some.mpr ⟨hb ▸ hbound, r, hs, hc, hblocked⟩)
      · cases hblocked

theorem State.ClearBut.reserves (h : s.ClearBut v l) (hr : s.Reserves t)
    (hb : ∀ w, (t.veh w).boundRow = (s.veh w).boundRow) : t.ClearBut v l :=
  fun e he hp hne => hr.blockedRowOf_none (hb _) (h e ((hr.present_mem hp).mp he) hp hne)

/-- A retry binds and unbinds no bus. -/
theorem State.retry_boundRow (s : State) (w : Slot) : (s.retry.veh w).boundRow = (s.veh w).boundRow := by
  refine forEach_keeps (fun t => (t.veh w).boundRow = (s.veh w).boundRow) _ _ s rfl fun e _ t ht => ?_
  unfold State.tryWaiting
  split
  · next c _ =>
    by_cases hw : e.slot = w
    · subst hw; rw [State.reserve_veh]; exact ht
    · rw [((State.Spares.refl t w).reserve hw).veh]; exact ht
  · exact ht

theorem Vehicle.mayShift.boundRow {r r' : Vehicle} (h : r.mayShift r') : r'.boundRow = r.boundRow := by
  rcases h with rfl | ⟨_, rfl⟩ <;> rfl

/-- Check 1 of a shift step leaves the bus at the mouth unblocked. -/
theorem State.callAtMouth_unblocks {e : Entry} (he : (s.lane l).entries.head? = some e) (hp : e.standing = .present) :
    (s.callAtMouth l).blockedRowOf e.slot = none := by
  unfold State.callAtMouth
  rw [he]
  dsimp only
  rw [if_pos hp]
  cases hb : s.blockedRowOf e.slot with
  | none => exact hb
  | some i =>
    obtain ⟨hi, r, hr, -⟩ := State.blockedRowOf_eq_some.mp hb
    simp [hr, State.sendCall, State.blockedRowOf, hi]

theorem State.callAtMouth_lane (s : State) (l m : LaneNo) : (s.callAtMouth l).lane m = s.lane m := by
  rcases s.callAtMouth_cases l with e | ⟨e, i, r, -, -, -, -, -, -, heq⟩
  · rw [e]
  · rw [heq]; simp [State.sendCall]

/-- A shift step leaves a vehicle that stands alone in a lane where no other bus is BLOCKED. -/
theorem State.ClearBut.shiftStep_spares (h : s.ClearBut v l) (hidle : ∀ k, k ≠ l → s.presentIn k v = false) (m : LaneNo) :
    s.Spares v (s.shiftStep m) := by
  have ha := s.callAtMouth_spares m v
  have hclear : (s.callAtMouth m).ClearBut v l :=
    h.reserves (s.callAtMouth_reserves m) fun w => by rw [(s.callAtMouth_spares m w).veh]
  unfold State.shiftStep
  extract_lets a
  split
  · exact ha
  · refine ha.trans (State.shiftEntry0_spares _ _ fun hrows e he hp heq => ?_)
    have hlane : (s.callAtMouth m).lane m = s.lane m := s.callAtMouth_lane m m
    have hhead : (s.lane m).entries.head? = some e := by rw [← hlane]; exact he
    by_cases hm : m = l
    · subst hm
      refine hrows (List.filterMap_eq_nil_iff.mpr fun x hx => ?_)
      split
      · next hpx =>
        by_cases hxv : x.slot = v
        · rw [hxv, ← heq]
          exact State.callAtMouth_unblocks hhead hp
        · exact hclear x hx hpx hxv
      · rfl
    · have hpresent : s.presentIn m v = true := by
        simp only [State.presentIn, List.any_eq_true]
        exact ⟨e, List.mem_of_mem_head? hhead, by simp [heq, hp]⟩
      rw [hidle m hm] at hpresent
      cases hpresent

/-- The end of an event leaves such a vehicle, when no exchange is due. -/
theorem State.ClearBut.settle_spares (h : s.ClearBut v l) (hidle : ∀ k, k ≠ l → s.presentIn k v = false)
    (hx : ¬ (s.ds.swap = .pending ∧ s.anyCalled = false)) : s.Spares v s.settle := by
  rw [State.settle_shiftSteps hx]
  refine (s.shiftSteps_keeps (fun t => s.Spares v t ∧ t.ClearBut v l) ⟨.refl s v, h⟩ ?_ _).1
  rintro t m ⟨hsp, hclear⟩
  have hdrop : (t.dropStep m).ClearBut v l := hclear
  have hspd : s.Spares v (t.dropStep m) := hsp.trans ⟨rfl, by simp⟩
  refine ⟨hspd.trans (hdrop.shiftStep_spares (fun k hk => ?_) m), ?_⟩
  · rw [State.presentIn_congr hspd.footing, hidle k hk]
  · exact hdrop.reserves (State.shiftStep_reserves _ m) fun w => ((t.dropStep m).shiftStep_mayShift m w).boundRow

/-! ### The blocker arrives (R29) -/

/-- A repeated LANE_ENTRY is nothing (R29). -/
theorem State.laneEntry_again {timer : Option Nat} (hout : (s.veh v).state ≠ .out) (hlost : (s.veh v).state ≠ .lost)
    (he : s.entry l v = some ⟨v, .present, timer⟩) : s.laneEntry v l = s := by
  rw [State.laneEntry_reported hlost, State.reported_of_ne hout, State.laneEntered, he]
  rfl

/-- A LANE_EXIT of a bus that is in the yard, but not in the lane (R33). -/
theorem State.laneExit_absent (hs : (s.veh v).state ≠ .out) (he : s.entry l v = none) :
    s.laneExit v l = s.yardConflict v (s.veh v).state 4 := by
  rw [State.laneExit_reported, State.reported_of_ne hs, State.laneExited_none he]

/-- A LOST bus stays LOST (R31). -/
theorem State.laneEntry_lost (hs : (s.veh v).state = .lost) : s.laneEntry v l = s.yardConflict v .lost 3 := by
  have hcode : kindLaneEntry.toNat = 3 := rfl
  simp [State.laneEntry, hs, hcode]

/-- An event that raised a conflict and did no more is over (R119, R140). -/
theorem State.AtRest.conflict_settle (h : s.AtRest) (htag : (s.veh v).tag = tag) (b : VehicleState) (n : Nat) :
    (s.yardConflict v b n).settle = (s.raise .yardConflict).notify (.yardConflict tag v b n) := by
  rw [(h.of_ds (State.yardConflict_ds s v b n)).settle, State.yardConflict, htag]

theorem State.laneEntry_shifted {timer : Option Nat} (hs : (s.veh v).state = .toBerth)
    (he : s.entry l v = some ⟨v, .expected, timer⟩) (hp : s.presentLane v = some o) : s.laneEntry v l =
      ((((s.yardConflict v .toBerth 3).removeEntry o v).takeReservation v l).retry) := by
  have hcode : kindLaneEntry.toNat = 3 := rfl
  simp [State.laneEntry, State.laneEntered, State.entryKnown, hs, he, hp, hcode]

/-- In the state after the arrival of a shifted blocker it stands in its shunt lane, and not in its old one. -/
theorem State.takeReservation_spec (hwait : Awaits v (s.lane l).entries) (hn : ((s.lane l).entries.map Entry.slot).Nodup) :
    (∃ n, (s.takeReservation v l).veh v = { s.veh v with
      state := .parked, location := .lane l .present none, shift := false, misorder := n })
    ∧ (s.takeReservation v l).footing v = { s.footing v with
      entries := fun k => if l = k then [⟨v, .present, none⟩] else (s.footing v).entries k }
    ∧ (s.takeReservation v l).waitList = s.waitList ∧ (s.takeReservation v l).ds.active = s.ds.active
    ∧ (s.takeReservation v l).ds.swap = s.ds.swap
    ∧ (∀ w, ((s.takeReservation v l).veh w).boundRow = (s.veh w).boundRow)
    ∧ ((s.takeReservation v l).lane l).entries = arrive (s.lane l).cfg.kind v (s.lane l).entries
    ∧ s.Beside (s.takeReservation v l) := by
  have htest := (s.arrived v l).testLane_remarks l
  have hveh := s.arrived_veh v l
  have hothers (w : Slot) (hw : w ≠ v) := s.arrived_others l hw
  have hfoot := State.arrived_footing hwait hn
  have hbeside : s.Beside (s.arrived v l) := by
    rw [State.arrived]
    exact (State.Beside.refl s).writeEntries.modVeh
  have hwaits : (s.arrived v l).waitList = s.waitList := by
    rw [State.arrived, State.modVeh_eq, State.setVeh_waitList, State.writeEntries_waitList]
  have hactive := s.arrived_active v l
  have hswap := s.arrived_swap v l
  have hlane := s.arrived_lane v l l
  rw [State.takeReservation_eq] at *
  generalize s.arrived v l = a at *
  obtain ⟨n, hn⟩ := htest.veh v
  refine ⟨⟨n, by rw [hn, hveh]⟩, (htest.footing v).trans hfoot, htest.waitList.trans hwaits, by rw [htest.ds, hactive],
    by rw [htest.ds, hswap], fun w => ?_, ?_, hbeside.testLane⟩
  · obtain ⟨k, hk⟩ := htest.veh w
    rw [hk]
    by_cases hw : w = v
    · subst hw; rw [hveh]
    · rw [hothers w hw]
  · rw [htest.lane, hlane, if_pos rfl]

/-- The end of a LANE_ENTRY of a shifted blocker into its shunt lane, whose own LANE_EXIT was not read. -/
theorem laneEntry_shunted (htag : (s.veh v).tag = tag) (hol : o ≠ l) (hs : (s.veh v).state = .toBerth)
    (he : s.entry l v = some ⟨v, .expected, none⟩) (hp : s.presentLane v = some o)
    (hm : ∀ m, m ≠ o → s.presentIn m v = false) (hn : ((s.lane l).entries.map Entry.slot).Nodup)
    (hw : ∀ w ∈ s.waitList, w.slot ≠ v) (hb : s.blockedRowsIn l = [])
    (hx : ¬ (s.ds.swap = .pending ∧ s.anyCalled = false)) :
    ∃ t, (s.laneEntry v l).settle = t
      ∧ (t.veh v).state = .parked ∧ (t.veh v).location = .lane l .present none ∧ (t.veh v).shift = false
      ∧ t.presentIn l v = true ∧ t.entry o v = none ∧ t.flag .yardConflict = true
      ∧ (s.ycs.mode = .normal → s.dlp.notices.length < 16 →
          s.dlp.notices ++ [.yardConflict tag v .toBerth 3] <+: t.dlp.notices) := by
  rw [State.laneEntry_shifted hs he hp]
  have hyard := s.yardConflict_sameYard v .toBerth 3
  have hflag := s.yardConflict_flag_self v .toBerth 3
  have hnotices := s.yardConflict_notices v .toBerth 3
  generalize s.yardConflict v .toBerth 3 = y at *
  have hleaves := y.removeEntry_leaves o v
  have hafoot := y.removeEntry_footing (v := v) o v
  have halane : (y.removeEntry o v).lane l = s.lane l := by
    rw [← hyard.lane]
    cases hyo : y.entry o v with
    | none => rw [State.removeEntry_none _ hyo]
    | some e => rw [State.removeEntry_lane _ hyo, if_neg hol]
  have hspares (w : Slot) (h : w ≠ v) := y.removeEntry_spares o (Ne.symm h)
  have hbeside : y.Beside (y.removeEntry o v) := (State.Beside.refl y).removeEntry
  generalize y.removeEntry o v = a at *
  have haentry : a.entry l v = some ⟨v, .expected, none⟩ := by
    rw [State.entry_eq_footing, hafoot]
    dsimp only
    rw [if_neg (by tauto), ← State.entry_eq_footing, State.entry_congr (hyard.footing v), he]
  have habound (w : Slot) : (a.veh w).boundRow = (s.veh w).boundRow := by
    by_cases hwv : w = v
    · obtain ⟨p, q, hpq⟩ := hleaves.veh
      rw [hwv, hpq, hyard.veh]
    · rw [(hspares w hwv).veh, hyard.veh]
  obtain ⟨⟨n, hrec⟩, hcfoot, hcwait, hcactive, hcswap, hcbound, hclist, hcbeside⟩ :=
    State.takeReservation_spec (awaits_of_entry haentry) (by rw [halane]; exact hn)
  have hactive : (a.takeReservation v l).ds.active = s.ds.active := by rw [hcactive, hleaves.active, hyard.ds]
  have hswap : (a.takeReservation v l).ds.swap = s.ds.swap := by rw [hcswap, hleaves.swap, hyard.ds]
  have hwaits : (a.takeReservation v l).waitList = s.waitList := by rw [hcwait, hleaves.waitList, hyard.waitList]
  rw [halane] at hclist
  have hclear : (a.takeReservation v l).ClearBut v l := by
    intro e hmem hpe hne
    rw [hclist] at hmem
    have hmem' := (arrive_perm _ (awaits_of_entry he) hn).mem_iff.mp hmem
    rw [List.mem_cons] at hmem'
    rcases hmem' with rfl | hmem'
    · exact absurd rfl hne
    · have hrow := List.filterMap_eq_nil_iff.mp hb e (List.mem_filter.mp hmem').1
      rw [if_pos hpe] at hrow
      rw [← hrow]
      simp only [State.blockedRowOf, State.row, hcbound, habound, hactive]
  generalize a.takeReservation v l = c at *
  have hres := c.retry_reserves
  have hsp : c.Spares v c.retry := State.retry_spares (by rw [hwaits]; exact hw)
  have hrbeside : c.Beside c.retry := (State.Beside.refl c).retry
  have hrclear : c.retry.ClearBut v l := hclear.reserves hres c.retry_boundRow
  generalize c.retry = d at *
  have hdfoot := hsp.footing.trans hcfoot
  have hidle (k : LaneNo) (hk : k ≠ l) : d.presentIn k v = false := by
    rw [State.presentIn_eq_footing, hdfoot]
    dsimp only
    rw [if_neg (Ne.symm hk), hafoot]
    dsimp only
    by_cases hko : k = o
    · rw [if_pos ⟨hko.symm, rfl⟩]; rfl
    · rw [if_neg fun h => hko h.1.symm, ← State.presentIn_eq_footing, State.presentIn_congr (hyard.footing v), hm k hko]
  have hend := hrclear.settle_spares hidle (by rwa [hres.swap, hswap, hres.anyCalled, State.anyCalled, hactive])
  have hsbeside : y.Beside d.settle := ((hbeside.trans hcbeside).trans hrbeside).settle
  refine ⟨_, rfl, ?_, ?_, ?_, ?_, ?_, hsbeside.flags _ hflag, fun hmode hlen => ?_⟩
  · rw [hend.veh, hsp.veh, hrec]
  · rw [hend.veh, hsp.veh, hrec]
  · rw [hend.veh, hsp.veh, hrec]
  · rw [State.presentIn_congr hend.footing, State.presentIn_eq_footing, hdfoot]
    simp
  · rw [State.entry_congr hend.footing, State.entry_eq_footing, hdfoot]
    simp [Ne.symm hol, hafoot]
  · rw [← htag, ← hnotices hmode hlen]
    exact hsbeside.notices

end

end Sys2Proof.Machine

namespace Sys2Proof.Proofs
open Sys2Proof.Machine

/-- Settles O26: a report of a lane reader, case by case of what the lane list and the record say of the bus. -/
theorem laneEntryAndExit : Obligations.LaneEntryAndExit := by
  unfold Obligations.LaneEntryAndExit
  refine ⟨?_, ?_, ?_, ?_, ?_⟩
  · rintro s src tag v l timer hd ht hv rfl hs he hp hn hb
    have hrest := hd.2.2.2.2
    have hwait := awaits_of_entry he
    obtain ⟨t, ht', hstate, hloc, hshift, hpresent, hentries, hlanes, hlist, hstc, hactive, hothers⟩ :=
      laneEntry_parks (s := s.replied src) hs he hp hn hb hrest
    change (t.lane (s.laneOf src)).entries
      = arrive (s.lane (s.laneOf src)).cfg.kind v (s.lane (s.laneOf src)).entries at hentries
    refine ⟨t, by rw [hd.laneEntry ht hv, ht'], hstate, hloc, hshift, hpresent, ?_, fun hk => ?_, fun hk => ?_,
      hlanes, hlist, hstc, hactive, hothers⟩
    · rw [hentries, arrive_length _ hwait hn]
    · rw [hentries, hk]; rfl
    · rw [hentries, hk]
      exact ⟨arriveThrough_first hwait, fun i e hi hpe => arriveThrough_keeps hi hpe,
        by rw [arrive, arriveThrough_filter hwait hn]; rfl⟩
  · rintro s src tag v l rest timer hd ht hv rfl hs he hr hw hm
    obtain ⟨t, ht', hspec⟩ := laneExit_leaves (s := s.replied src) hs he hr hw hm hd.2.2.2.2
    exact ⟨t, by rw [hd.laneExit ht hv, ht'], hspec⟩
  · rintro s src tag v l hd ht hv rfl
    refine ⟨fun hs => ?_, fun hs he hroom hb => ?_, fun hs he hroom => ?_⟩
    · rw [hd.laneEntry ht hv, State.laneEntry_lost (s := s.replied src) hs,
        hd.2.2.2.conflict_settle (s := s.replied src) (State.slotOf_some hv)]
    · obtain ⟨t, ht', hspec⟩ := laneEntry_joins (s := s.replied src) (State.slotOf_some hv) hs he hroom hb
      exact ⟨t, by rw [hd.laneEntry ht hv, ht'], hspec⟩
    · obtain ⟨t, ht', hspec⟩ := laneEntry_loses (s := s.replied src) hs he hroom
      exact ⟨t, by rw [hd.laneEntry ht hv, ht'], hspec⟩
  · rintro s src tag v l hd ht hv rfl
    refine ⟨fun he hs => ?_, fun he hs => ?_, fun timer he => ?_, fun timer sh he hi hs hl hm hw => ?_,
      fun sh rest timer hs hl hne he _ hsh hm hw => ?_⟩
    · rw [hd.laneExit ht hv, State.laneExit_absent (s := s.replied src) hs he,
        hd.2.2.2.conflict_settle (s := s.replied src) (State.slotOf_some hv), State.replied_veh]
    · obtain ⟨t, ht', hspec⟩ := laneExit_bringsIn (s := s.replied src) hs he hd.2.2.2
      exact ⟨t, by rw [hd.laneExit ht hv, ht'], hspec⟩
    · obtain ⟨t, ht', hspec⟩ := laneExit_unreserves (s := s.replied src) he
      exact ⟨t, by rw [hd.laneExit ht hv, ht'], hspec⟩
    · obtain ⟨t, ht', hspec⟩ := laneExit_inside (s := s.replied src) he hi hs hl hm hw
      exact ⟨t, by rw [hd.laneExit ht hv, ht'], hspec⟩
    · obtain ⟨t, ht', hspec⟩ := laneExit_shunts (s := s.replied src) hs hl hne he hsh hm hw hd.2.2.2.2
      exact ⟨t, by rw [hd.laneExit ht hv, ht'], hspec⟩
  · rintro s src tag v l hd ht hv rfl
    refine ⟨fun timer hout hlost he => ?_, fun o hol hs _ he hp hm hn hw hb => ?_⟩
    · rw [hd.laneEntry ht hv, State.laneEntry_again (s := s.replied src) hout hlost he, State.AtRest.settle (s := s.replied src) hd.2.2.2]
    · obtain ⟨t, ht', hspec⟩ := laneEntry_shunted (s := s.replied src) (State.slotOf_some hv) hol hs he hp hm hn hw hb
        hd.2.2.2.2
      exact ⟨t, by rw [hd.laneEntry ht hv, ht'], hspec⟩

end Sys2Proof.Proofs
end

section
/-! A law of the yard is kept by every command when every owner keeps it: one principle over the commands, in which the lines,
the requests and the event register have no part. -/

namespace Sys2Proof.Machine

/-- `t` has the vehicles, lanes, wait list, tickets, chargers, feeders, plan and stations of `s`. -/
structure State.SameCore (s t : State) : Prop where
  fleet : t.fleet = s.fleet
  lanes : t.lanes = s.lanes
  waitList : t.waitList = s.waitList
  stc : t.stc = s.stc
  ca : t.ca = s.ca
  ds : t.ds = s.ds
  stations : t.blc.stations = s.blc.stations

theorem State.SameCore.byRfl {s t : State} (hf : t.fleet = s.fleet := by rfl) (hl : t.lanes = s.lanes := by rfl)
    (hw : t.waitList = s.waitList := by rfl) (hs : t.stc = s.stc := by rfl) (hc : t.ca = s.ca := by rfl)
    (hd : t.ds = s.ds := by rfl) (hb : t.blc.stations = s.blc.stations := by rfl) : s.SameCore t :=
  ⟨hf, hl, hw, hs, hc, hd, hb⟩

/-- What the owners of the reports, the requests, the orders and the expiries have to keep, for `P` to be kept by every
command that starts where `Q` holds. -/
structure OwnersKeep (Q P : State → Prop) : Prop where
  start : ∀ {s}, Q s → P s
  frame : ∀ {s t}, s.SameCore t → P s → P t
  startUp : ∀ {s} straps, Q s → P (s.startUp straps)
  softReset : ∀ {s}, Q s → P s.softReset
  endLoad : ∀ {s}, Q s → P s.endLoad
  advance : ∀ {s} order, Q s → P (s.advance order)
  missPoll : ∀ {s} a, P s → P (s.missPoll a)
  heardFrom : ∀ {s} a, P s → P (s.heardFrom a)
  settle : ∀ {s}, P s → P s.settle
  gateIn : ∀ {s} v, (s.veh v).tag ≠ 0 → P s → P (s.gateIn v).settle
  gateOut : ∀ {s} v, (s.veh v).tag ≠ 0 → P s → P (s.gateOut v).settle
  laneEntry : ∀ {s} v l, (s.veh v).tag ≠ 0 → P s → P (s.laneEntry v l).settle
  laneExit : ∀ {s} v l, (s.veh v).tag ≠ 0 → P s → P (s.laneExit v l).settle
  bayArrive : ∀ {s} b v, (s.veh v).tag ≠ 0 → P s → P (s.bayArrive b v).settle
  bayDone : ∀ {s} b, P s → P (s.bayDone b).settle
  bayFault : ∀ {s} b, P s → P (s.bayFault b).settle
  chargerReport : ∀ {s} c tagged slot soc power fault, (∀ v, slot = some v → (s.veh v).tag ≠ 0) → P s →
    P (s.chargerReport c tagged slot soc power fault).settle
  meterReport : ∀ {s} f draw, P s → P (s.meterReport f draw).settle
  putStation : ∀ {s} a p, P s → P (s.putStationRow a p).2
  putLane : ∀ {s} l p, P s → P (s.putLaneRow l p).2
  putCharger : ∀ {s} c p, P s → P (s.putChargerRow c p).2
  putFeeder : ∀ {s} f p, P s → P (s.putFeederRow f p).2
  putBay : ∀ {s} b p, P s → P (s.putBayRow b p).2
  putFleet : ∀ {s} v p, P s → P (s.putFleetRow v p).2
  putActive : ∀ {s} i p, P s → P (s.putActiveRow i p).2
  putStandby : ∀ {s} i p, P s → P (s.putStandbyRow i p).2
  swapNow : ∀ {s}, s.ds.swap = .none → P s → P s.swapNow.2
  swapAtRollover : ∀ {s}, s.ds.swap = .none → P s → P s.swapAtRollover.2
  cancelSwap : ∀ {s}, P s → P s.cancelSwap.2
  cancelRow : ∀ {s} i, P s → P (s.cancelRow i).2
  hold : ∀ {s} v, P s → P (settled (s.hold v)).2
  unhold : ∀ {s} v, P s → P (s.unhold v).2
  yardSet : ∀ {s} v l, P s → P (settled (s.yardSet v l)).2
  yardSetOut : ∀ {s} v, P s → P (settled (s.yardSetOut v)).2
  openLane : ∀ {s} l, P s → P (settled (s.openLane l)).2
  closeLane : ∀ {s} l, P s → P (s.closeLane l).2
  openBay : ∀ {s} b, P s → P (s.openBay b).2
  closeBay : ∀ {s} b, P s → P (s.closeBay b).2
  clearBay : ∀ {s} b, P s → P (s.clearBay b).2
  clearFeeder : ∀ {s} f, P s → P (s.clearFeeder f).2
  setClock : ∀ {s} minute, P s → P (s.setClock minute).2
  arrivalLapse : ∀ {s} v l, P s → P (s.arrivalLapse v l).settle
  noShow : ∀ {s} b, P s → P (s.noShow b).settle
  retryBay : ∀ {s} b, P s → P (s.retryBay b)
  overstayed : ∀ {s} b, P s → P (s.overstayed b)

section
variable {Q P : State → Prop} {s t : State}

/-! ### Frames on the berth line -/

theorem State.raise_sameCore (s : State) (f : EventFlag) : s.SameCore (s.raise f) := .byRfl

theorem State.endTransaction_sameCore (s : State) : s.SameCore s.endTransaction := by
  unfold State.endTransaction
  split <;> exact .byRfl

theorem State.forward_sameCore (s : State) (r : Forwarded) : s.SameCore (s.forward r) := by
  rcases s.forward_cases r with ⟨-, e⟩ | ⟨-, e⟩ <;> rw [e] <;> exact .byRfl

theorem State.lookUp_sameCore (s : State) (x : Telegram) : s.SameCore (s.lookUp x) := by
  unfold State.lookUp
  split
  · exact s.raise_sameCore _
  · exact .byRfl

/-- A slot that holds a tag is not empty (R1, R7). -/
theorem State.tag_of_slotOf {tag : Nat} {v : Slot} (h : s.slotOf tag = some v) : (s.veh v).tag ≠ 0 := by
  unfold State.slotOf at h
  split at h
  · cases h
  · next hne =>
    have := List.find?_some h
    simp only [decide_eq_true_eq] at this
    rwa [this]

theorem OwnersKeep.resolved (h : OwnersKeep Q P) (hp : P s) (tag : Nat) {act : Slot → State}
    (ha : ∀ v, (s.veh v).tag ≠ 0 → P (act v).settle) : P (s.resolved tag act).settle := by
  unfold State.resolved
  split
  · next v hv => exact ha v (State.tag_of_slotOf hv)
  · exact h.settle hp

/-- Every report's owner keeps the law (R157). -/
theorem OwnersKeep.own (h : OwnersKeep Q P) (hp : P s) (x : Telegram) : P (s.own x).settle := by
  unfold State.own
  extract_lets tag
  split
  · exact h.resolved hp tag fun v hv => h.gateIn v hv hp
  split
  · exact h.resolved hp tag fun v hv => h.gateOut v hv hp
  split
  · exact h.resolved hp tag fun v hv => h.laneEntry v _ hv hp
  split
  · exact h.resolved hp tag fun v hv => h.laneExit v _ hv hp
  split
  · exact h.resolved hp tag fun v hv => h.bayArrive _ v hv hp
  split
  · exact h.bayDone _ hp
  split
  · exact h.bayFault _ hp
  split
  · exact h.chargerReport _ _ _ _ _ _ (fun v hv => State.tag_of_slotOf hv) hp
  split
  · exact h.meterReport _ _ hp
  · exact h.settle hp

theorem OwnersKeep.route (h : OwnersKeep Q P) (hp : P s) (x : Telegram) : P (s.route x) := by
  have hlook : P (s.lookUp x) := h.frame (s.lookUp_sameCore x) hp
  unfold State.route
  split
  · exact hp
  · extract_lets action a b
    have hb : P b := by
      unfold b
      split
      · exact h.own hlook x
      · exact hlook
    split
    · exact h.frame (b.forward_sameCore _) hb
    · exact hb

theorem OwnersKeep.heardInTurn (h : OwnersKeep Q P) (hp : P s) : P s.heardInTurn := by
  unfold State.heardInTurn
  split
  · exact h.heardFrom _ hp
  · exact hp

/-- A frame on the berth line keeps what the owners of its reports keep (R156, R157). -/
theorem OwnersKeep.receiveFrame (h : OwnersKeep Q P) (hp : P s) (frame : Option Telegram) : P (s.receiveFrame frame) := by
  unfold State.receiveFrame
  split
  · exact h.route (h.frame (State.endTransaction_sameCore _) (h.heardInTurn hp)) _
  · exact hp
  · next flag ends heard _ =>
    unfold State.discardFrame
    extract_lets a b
    have ha : P a := h.frame (s.raise_sameCore flag) hp
    have hb : P b := by
      unfold b
      split
      · exact h.heardInTurn ha
      · exact ha
    split
    · exact h.frame (State.endTransaction_sameCore _) hb
    · exact hb
  · exact hp

/-! ### Requests -/

/-- Taking a request and answering it touches the depot link and the event register only. -/
theorem OwnersKeep.takeAndAnswer (h : OwnersKeep Q P) (hp : P s) (asked : Asked) {handle : Request → State → Reply × State}
    (hh : ∀ r u, P u → P (handle r u).2) : P (s.takeAndAnswer asked handle) := by
  unfold State.takeAndAnswer
  split
  · split
    · exact h.frame .byRfl (hh _ _ (h.frame .byRfl hp))
    · exact hp
  · exact hp

theorem OwnersKeep.takeOrder (h : OwnersKeep Q P) (hp : P s) (k : OrderKind) {owner : Request → State → Outcome × State}
    (ho : ∀ r u, u.inFlight k = false → P u → P (owner r u).2) : P (s.takeOrder k owner) := by
  refine h.takeAndAnswer hp _ fun r u hu => ?_
  unfold State.answerOrder
  split
  · exact hu
  · split
    · exact hu
    · next hf => exact ho r u (by simpa using hf) hu

theorem OwnersKeep.putRow (h : OwnersKeep Q P) (hp : P s) (asked : Asked) {rule : Request → State → Outcome × State}
    (hr : ∀ r u, P u → P (rule r u).2) : P (s.takeAndAnswer asked fun r u => u.answerPut (rule r u)) := by
  refine h.takeAndAnswer hp _ fun r u hu => ?_
  unfold State.answerPut
  split
  · exact h.frame .byRfl (hr r u hu)
  · exact hu

theorem keeps_withSlot {n : Nat} {owner : Slot → Outcome × State} (hp : P s) (ho : ∀ v, P (owner v).2) :
    P (s.withSlot n owner).2 := by
  unfold State.withSlot
  split
  · exact ho _
  · exact hp

theorem keeps_withLane {n : Nat} {owner : LaneNo → Outcome × State} (hp : P s) (ho : ∀ l, P (owner l).2) :
    P (s.withLane n owner).2 := by
  unfold State.withLane
  split
  · exact ho _
  · exact hp

theorem keeps_withBay {n : Nat} {owner : BayNo → Outcome × State} (hp : P s) (ho : ∀ b, P (owner b).2) :
    P (s.withBay n owner).2 := by
  unfold State.withBay
  split
  · exact ho _
  · exact hp

theorem keeps_withFeeder {n : Nat} {owner : FeederNo → Outcome × State} (hp : P s) (ho : ∀ f, P (owner f).2) :
    P (s.withFeeder n owner).2 := by
  unfold State.withFeeder
  split
  · exact ho _
  · exact hp

theorem settled_withSlot {n : Nat} {owner : Slot → Outcome × State} :
    settled (s.withSlot n owner) = s.withSlot n fun v => settled (owner v) := by
  unfold State.withSlot
  split <;> rfl

theorem settled_withLane {n : Nat} {owner : LaneNo → Outcome × State} :
    settled (s.withLane n owner) = s.withLane n fun l => settled (owner l) := by
  unfold State.withLane
  split <;> rfl

/-! ### Commands -/

theorem superviseFrom_sameCore (s : State) (src : Addr) : s.SameCore (s.superviseFrom src) := by
  unfold State.superviseFrom
  split <;> exact .byRfl

theorem checkDirective_sameCore (s : State) (d : Directive) : s.SameCore (s.checkDirective d) := by
  unfold State.checkDirective
  split
  · rcases s.forwardDirective_cases d with ⟨-, e⟩ | ⟨-, e⟩ <;> rw [e] <;> exact .byRfl
  · exact s.raise_sameCore _

theorem sendDirective_sameCore (s : State) : s.SameCore s.sendDirective.afterDirectiveTurn := by
  have take (d : Directive) (rest : List Directive) : s.SameCore (s.takeOrigin d rest).afterDirectiveTurn := by
    unfold State.takeOrigin
    extract_lets a
    split <;> exact .byRfl
  unfold State.sendDirective
  split
  · exact .byRfl
  · exact take _ _
  · exact .byRfl
  · exact take _ _
  · exact .byRfl

theorem callInTurn_sameCore (s : State) (answering : List Addr) : s.SameCore (s.callInTurn answering) := by
  unfold State.callInTurn
  extract_lets a
  split <;> exact .byRfl

theorem transmitFrom_sameCore (s : State) (source : Source) {send : State → State} (h : s.SameCore (send s)) :
    s.SameCore (s.transmitFrom source send) := by
  unfold State.transmitFrom
  split
  · exact h
  · exact .byRfl

theorem endStore_sameCore (s : State) (verified : Bool) : s.SameCore (s.endStore verified) := by
  unfold State.endStore State.placeFault
  split
  · exact .byRfl
  · split <;> exact .byRfl

theorem advanceLatch_sameCore (s : State) : s.SameCore s.advanceLatch := by
  unfold State.advanceLatch
  extract_lets table row
  split <;> exact .byRfl

/-- What every owner keeps, every command keeps. -/
theorem OwnersKeep.exec (h : OwnersKeep Q P) {c : Instr} (hq : Q s) (ht : exec c s = .next t) : P t := by
  have hp := h.start hq
  cases c <;> injection ht with ht <;> subst ht
  case powerOn straps => exact h.startUp straps hq
  case softReset =>
    split
    · exact h.softReset hq
    · exact hp
  case poll => exact h.frame (by split <;> exact .byRfl) hp
  case idleTurn => exact h.frame (by split <;> exact .byRfl) hp
  case replyTimeout =>
    split
    · exact h.frame .byRfl (h.missPoll _ hp)
    · exact hp
  case directiveTurn =>
    split
    · exact h.frame (sendDirective_sameCore s) hp
    · exact hp
  case callIn answering =>
    split
    · exact h.frame (callInTurn_sameCore s answering) hp
    · exact hp
  case callInTimeout => exact h.frame (by split <;> exact .byRfl) hp
  case berthFrameRejected frame =>
    split
    · exact hp
    · exact h.receiveFrame hp _
  case nothing | gateIn | gateOut | laneEntry | laneExit | bayArrive | bayDone | bayFault | chargerReport | meterReport =>
    exact h.receiveFrame hp _
  case linkFrameCheckFail frame => exact h.frame (by split <;> exact .byRfl) hp
  case linkTelegramDiscarded src dest kind payload =>
    split
    · exact h.frame (State.raise_sameCore _ _) (h.frame (superviseFrom_sameCore s src) hp)
    · exact hp
  case serverDirective src dest kind payload =>
    split
    · exact hp
    · exact h.frame (checkDirective_sameCore _ _) (h.frame (superviseFrom_sameCore s src) hp)
  case requestReceived src kind payload =>
    refine h.frame ?_ (h.frame (superviseFrom_sameCore s src) hp)
    unfold State.bufferRequest
    split <;> exact .byRfl
  case requestFormatRefused => exact h.takeAndAnswer hp _ fun _ _ hu => hu
  case select =>
    refine h.takeAndAnswer hp _ fun r u hu => h.frame ?_ hu
    unfold State.answerSelect
    repeat' split
    all_goals exact .byRfl
  case fetch =>
    refine h.takeAndAnswer hp _ fun r u hu => h.frame ?_ hu
    unfold State.answerFetch
    split
    · exact advanceLatch_sameCore u
    · exact .byRfl
  case clear =>
    refine h.takeAndAnswer hp _ fun r u hu => h.frame ?_ hu
    unfold State.answerClear
    split <;> exact .byRfl
  case ident => exact h.takeAndAnswer hp _ fun _ _ hu => hu
  case putStation => exact h.putRow hp _ fun r u hu => h.putStation _ _ hu
  case putLane => exact h.putRow hp _ fun r u hu => h.putLane _ _ hu
  case putCharger => exact h.putRow hp _ fun r u hu => h.putCharger _ _ hu
  case putFeeder => exact h.putRow hp _ fun r u hu => h.putFeeder _ _ hu
  case putBay => exact h.putRow hp _ fun r u hu => h.putBay _ _ hu
  case putParams =>
    refine h.putRow hp _ fun r u hu => h.frame ?_ hu
    unfold State.putParamsRow
    repeat' split
    all_goals exact .byRfl
  case putFleet => exact h.putRow hp _ fun r u hu => h.putFleet _ _ hu
  case putActive => exact h.putRow hp _ fun r u hu => h.putActive _ _ hu
  case putStandby => exact h.putRow hp _ fun r u hu => h.putStandby _ _ hu
  case putReadOnly => exact h.takeAndAnswer hp _ fun _ _ hu => hu
  case swapNow => exact h.takeOrder hp _ fun r u hf hu => h.swapNow (by simpa [State.inFlight] using hf) hu
  case swapAtRollover => exact h.takeOrder hp _ fun r u hf hu => h.swapAtRollover (by simpa [State.inFlight] using hf) hu
  case cancelSwap => exact h.takeOrder hp _ fun r u _ hu => h.cancelSwap hu
  case cancelRow => exact h.takeOrder hp _ fun r u _ hu => h.cancelRow _ hu
  case hold =>
    refine h.takeOrder hp _ fun r u _ hu => ?_
    rw [settled_withSlot]
    exact keeps_withSlot hu fun v => h.hold v hu
  case unhold => exact h.takeOrder hp _ fun r u _ hu => keeps_withSlot hu fun v => h.unhold v hu
  case yardSet =>
    refine h.takeOrder hp _ fun r u _ hu => ?_
    rw [settled_withLane]
    refine keeps_withLane hu fun l => ?_
    rw [settled_withSlot]
    exact keeps_withSlot hu fun v => h.yardSet v l hu
  case yardSetOut =>
    refine h.takeAndAnswer hp _ fun r u hu => ?_
    unfold State.answerOrder
    repeat' split
    · exact hu
    · exact hu
    · rw [settled_withSlot]
      exact keeps_withSlot hu fun v => h.yardSetOut v hu
  case openLane =>
    refine h.takeOrder hp _ fun r u _ hu => ?_
    rw [settled_withLane]
    exact keeps_withLane hu fun l => h.openLane l hu
  case closeLane => exact h.takeOrder hp _ fun r u _ hu => keeps_withLane hu fun l => h.closeLane l hu
  case openBay => exact h.takeOrder hp _ fun r u _ hu => keeps_withBay hu fun b => h.openBay b hu
  case closeBay => exact h.takeOrder hp _ fun r u _ hu => keeps_withBay hu fun b => h.closeBay b hu
  case clearBay => exact h.takeOrder hp _ fun r u _ hu => keeps_withBay hu fun b => h.clearBay b hu
  case clearFeeder => exact h.takeOrder hp _ fun r u _ hu => keeps_withFeeder hu fun f => h.clearFeeder f hu
  case clockSet => exact h.takeOrder hp _ fun r u _ hu => h.setClock _ hu
  case store =>
    refine h.takeOrder hp _ fun r u _ hu => h.frame ?_ hu
    unfold State.startStore
    split <;> exact .byRfl
  case load =>
    refine h.takeOrder hp _ fun r u _ hu => h.frame ?_ hu
    unfold State.startLoad
    repeat' split
    all_goals exact .byRfl
  case reset => exact h.takeOrder hp _ fun r u _ hu => h.frame .byRfl hu
  case transmitAnswer =>
    refine h.frame (transmitFrom_sameCore s _ ?_) hp
    unfold State.sendAnswer
    split <;> exact .byRfl
  case transmitNotice =>
    refine h.frame (transmitFrom_sameCore s _ ?_) hp
    unfold State.sendNotice
    split <;> exact .byRfl
  case transmitForward =>
    refine h.frame (transmitFrom_sameCore s _ ?_) hp
    unfold State.sendForward
    split <;> exact .byRfl
  case minuteAdvance order => exact h.advance order hq
  case supervisionTimeout =>
    refine h.frame ?_ hp
    unfold State.lapse
    split <;> exact .byRfl
  case arrivalTimeout lane slot => exact h.arrivalLapse slot lane hp
  case noShowTimeout bay => exact h.noShow bay hp
  case retryTimeout bay => exact h.retryBay bay hp
  case overstayTimeout bay => exact h.overstayed bay hp
  case storeComplete verified =>
    split
    · exact h.frame (endStore_sameCore s verified) hp
    · exact hp
  case loadComplete =>
    split
    · exact h.endLoad hq
    · exact hp

/-- What every owner keeps, every step keeps. -/
theorem OwnersKeep.step (h : OwnersKeep Q P) (hpend : ∀ rest, Q s → Q (s.withPending rest)) (hq : Q s)
    (ht : step s = .next t) : P t := by
  unfold Machine.step at ht
  split at ht
  · injection ht with ht
    exact ht ▸ h.start hq
  · exact h.exec (hpend _ hq) ht

end

end Sys2Proof.Machine
end

section
/-! The law of the grants (R89, R98, R102) is kept by every step: outside a round grants only fall, and a round shares out no
more than its budget. -/

namespace Sys2Proof.Machine

/-! ### Sums over the records of a block -/

theorem upTo_eq_finRange (n : Nat) [NeZero n] : upTo n = List.finRange n := by
  refine List.ext_getElem (by simp [upTo]) fun i h1 h2 => ?_
  have hi : i < n := by simpa [upTo] using h1
  simp [upTo, Fin.ext_iff, Nat.mod_eq_of_lt hi]

theorem upTo_nodup (n : Nat) [NeZero n] : (upTo n).Nodup := upTo_eq_finRange n ▸ List.nodup_finRange n

theorem sum_upTo {n : Nat} [NeZero n] (f : Fin n → Nat) : ((upTo n).map f).sum = ∑ i, f i := by
  rw [upTo_eq_finRange, Fin.sum_univ_def]

/-- What a charger's grant takes of a feeder's budget. -/
def State.share (s : State) (f : FeederNo) (c : ChargerNo) : Nat :=
  if (s.charger c).cfg.feeder = f then (s.charger c).grant else 0

theorem State.grantSum_eq (s : State) (f : FeederNo) : s.grantSum f = ∑ c, s.share f c := by
  rw [← sum_upTo, State.grantSum]
  generalize upTo 64 = list
  induction list with
  | nil => rfl
  | cons c rest ih =>
    by_cases h : (s.charger c).cfg.feeder = f
    · rw [List.filter_cons_of_pos (by simpa using h), List.map_cons, List.sum_cons, ih]
      simp [State.share, h]
    · rw [List.filter_cons_of_neg (by simpa using h), ih]
      simp [State.share, h]

section
variable {s t u : State}

/-! ### The law, charger by charger -/

/-- The law of the grants at one charger (R89, R98, R102). -/
def State.GrantSound (s : State) (c : ChargerNo) : Prop :=
  (s.charger c).grant ≤ (s.charger c).cfg.pMax ∧ (s.charger c).grant % 10 = 0
    ∧ (0 < (s.charger c).grant → s.isCandidate c = true)

/-- From `s` to `t` the charger keeps its grant as the grant of a candidate of the same feeder, or has none. -/
def State.EasesAt (s t : State) (c : ChargerNo) : Prop :=
  (t.charger c).grant = 0 ∨ (t.charger c).grant = (s.charger c).grant
    ∧ (t.charger c).cfg.feeder = (s.charger c).cfg.feeder
    ∧ ((t.charger c).grant ≤ (s.charger c).cfg.pMax → (t.charger c).grant ≤ (t.charger c).cfg.pMax)
    ∧ (s.isCandidate c = true → t.isCandidate c = true)

theorem State.EasesAt.trans {c : ChargerNo} (h : s.EasesAt t c) (k : t.EasesAt u c) : s.EasesAt u c := by
  rcases k with k | ⟨k1, k2, k3, k4⟩
  · exact .inl k
  · rcases h with h | ⟨h1, h2, h3, h4⟩
    · exact .inl (k1.trans h)
    · exact .inr ⟨k1.trans h1, k2.trans h2, fun hle => k3 (k1 ▸ h3 (k1 ▸ hle)), fun hc => k4 (h4 hc)⟩

theorem State.GrantSound.eases {c : ChargerNo} (h : s.GrantSound c) (e : s.EasesAt t c) : t.GrantSound c := by
  obtain ⟨hmax, hten, hcand⟩ := h
  rcases e with e | ⟨e1, -, e3, e4⟩
  · exact ⟨by omega, by simp [e], by simp [e]⟩
  · exact ⟨e3 (e1 ▸ hmax), e1 ▸ hten, fun hpos => e4 (hcand (e1 ▸ hpos))⟩

theorem State.grantSum_eases {f : FeederNo} (e : ∀ c, s.EasesAt t c) : t.grantSum f ≤ s.grantSum f := by
  rw [State.grantSum_eq, State.grantSum_eq]
  refine Finset.sum_le_sum fun c _ => ?_
  unfold State.share
  rcases e c with e | ⟨e1, e2, -, -⟩
  · simp [e]
  · rw [e1, e2]

/-- `s.Eases t`: grants only fall, and no feeder loses budget or trips. -/
structure State.Eases (s t : State) : Prop where
  charger : ∀ c, s.EasesAt t c
  budget : ∀ f, (t.feeder f).budget = (s.feeder f).budget
  tripped : ∀ f, (t.feeder f).state = .tripped → (s.feeder f).state = .tripped

theorem State.Eases.trans (h : s.Eases t) (k : t.Eases u) : s.Eases u :=
  ⟨fun c => (h.charger c).trans (k.charger c), fun f => (k.budget f).trans (h.budget f),
    fun f hf => h.tripped f (k.tripped f hf)⟩

theorem State.GrantLaw.eases (h : s.GrantLaw) (e : s.Eases t) : t.GrantLaw := by
  obtain ⟨hc, hf⟩ := h
  refine ⟨fun c => State.GrantSound.eases (hc c) (e.charger c), fun f => ?_⟩
  have hsum := State.grantSum_eases (f := f) e.charger
  obtain ⟨hbudget, htrip⟩ := hf f
  refine ⟨by rw [e.budget f]; omega, fun ht => ?_⟩
  have := htrip (e.tripped f ht)
  omega

/-! ### When grants only fall -/

/-- A charger that stays as it is at a station that is not newly SILENT. -/
theorem State.EasesAt.of_eq {c : ChargerNo} (hc : t.charger c = s.charger c)
    (hs : s.heard (s.charger c).cfg.station = true → t.heard (s.charger c).cfg.station = true) : s.EasesAt t c := by
  refine .inr ⟨by rw [hc], by rw [hc], fun h => by rwa [hc] at h ⊢, fun h => ?_⟩
  unfold State.isCandidate at h ⊢
  rw [hc]
  simp only [Bool.and_eq_true] at h ⊢
  exact ⟨h.1, hs h.2⟩

theorem State.heard_of_stations (h : t.blc.stations = s.blc.stations) (a : Option Addr) : t.heard a = s.heard a := by
  cases a <;> simp [State.heard, State.silent, State.station, h]

theorem State.Works.eases (h : s.Works t) : s.Eases t where
  charger := fun c => by
    rcases h.charger c with e | ⟨-, hgrant, -⟩
    · exact .of_eq e fun hh => by rwa [State.heard_of_stations h.stations]
    · exact .inl hgrant
  budget := fun f => by simp [State.feeder, h.feeders]
  tripped := fun f hf => by simpa [State.feeder, h.feeders] using hf

theorem State.SameCore.eases (h : s.SameCore t) : s.Eases t :=
  State.Works.eases (.of_eq h.ca h.stations h.fleet)

/-- A station table in which no station is newly SILENT. -/
theorem State.Eases.of_heard (hc : t.ca = s.ca) (hs : ∀ a, s.heard a = true → t.heard a = true) : s.Eases t where
  charger := fun c => .of_eq (by simp [State.charger, hc]) (hs _)
  budget := fun f => by simp [State.feeder, hc]
  tripped := fun f hf => by simpa [State.feeder, hc] using hf

theorem State.heard_setStation {a : Addr} {r : Station} (hr : r.silent = true → (s.station a).silent = true)
    {x : Option Addr} (h : s.heard x = true) : (s.setStation a r).heard x = true := by
  cases x with
  | none => cases h
  | some b =>
    simp only [State.heard, State.silent, State.setStation_station, Bool.not_eq_true'] at h ⊢
    split
    · next hab => subst hab; cases hx : r.silent <;> simp_all
    · exact h

theorem State.setStation_eases {a : Addr} {r : Station} (hr : r.silent = true → (s.station a).silent = true) :
    s.Eases (s.setStation a r) :=
  .of_heard rfl fun _ => State.heard_setStation hr

/-- A state without any grant. -/
theorem State.GrantLaw.of_zero (h : ∀ c, (t.charger c).grant = 0) : t.GrantLaw := by
  refine ⟨fun c => ⟨by simp [h c], by simp [h c], by simp [h c]⟩, fun f => ?_⟩
  have : t.grantSum f = 0 := by simp [State.grantSum_eq, State.share, h]
  simp [this]

end

end Sys2Proof.Machine
end

section
/-! The allocation round (R92 to R104) keeps the law of the grants. -/

namespace Sys2Proof.Machine

section
variable {s t u : State}

/-! ### Series of changes to chargers -/

/-- The chargers of a feeder, each once. -/
theorem State.chargersOf_nodup (s : State) (f : FeederNo) : (s.chargersOf f).Nodup := (upTo_nodup 64).filter _

theorem State.mem_chargersOf {f : FeederNo} {c : ChargerNo} : c ∈ s.chargersOf f ↔ (s.charger c).cfg.feeder = f := by
  simp [State.chargersOf, mem_upTo]

/-- A set-point touches resend marks only. -/
structure State.Resends (s t : State) : Prop where
  charger : ∀ c, ∃ mark, t.charger c = { s.charger c with resend := mark }
  feeders : t.ca.feeders = s.ca.feeders
  stations : t.blc.stations = s.blc.stations

theorem State.Resends.refl (s : State) : s.Resends s := ⟨fun c => ⟨(s.charger c).resend, rfl⟩, rfl, rfl⟩

theorem State.Resends.setpoint (h : s.Resends t) {c : ChargerNo} {kw : Nat} {placed : Bool} :
    s.Resends (t.setpoint c kw placed) where
  charger := fun d => by
    obtain ⟨mark, hmark⟩ := t.setpoint_charger c kw placed
    obtain ⟨old, hold⟩ := h.charger d
    rw [hmark, hold]
    split
    · exact ⟨mark, rfl⟩
    · exact ⟨old, rfl⟩
  feeders := (t.setpoint_feeders _ _ _).trans h.feeders
  stations := (t.setpoint_stations _ _ _).trans h.stations

theorem State.sendSetpoints_resends (s : State) (f : FeederNo) (before : State) : s.Resends (s.sendSetpoints f before) := by
  refine forEach_keeps s.Resends _ _ s (.refl s) fun c _ v hv => ?_
  unfold State.setpointIfChanged
  split
  · exact hv.setpoint
  · exact hv

theorem State.Resends.eases (h : s.Resends t) : s.Eases t where
  charger := fun c => by
    obtain ⟨mark, hmark⟩ := h.charger c
    refine .inr ⟨by rw [hmark], by rw [hmark], fun hle => by rwa [hmark] at hle ⊢, fun hc => ?_⟩
    unfold State.isCandidate at hc ⊢
    rw [hmark, State.heard_of_stations h.stations]
    exact hc
  budget := fun f => by simp [State.feeder, h.feeders]
  tripped := fun f hf => by simpa [State.feeder, h.feeders] using hf

/-! ### Steps 1 to 3: the budget (R93 to R97) -/

/-- What the first three steps of a round leave: of chargers only grants and holds fall, and other feeders stay. -/
structure State.Prepares (s t : State) (f : FeederNo) : Prop where
  charger : ∀ c, s.EasesAt t c
  feeder : ∀ g, g ≠ f → t.feeder g = s.feeder g
  stations : t.blc.stations = s.blc.stations

theorem State.Prepares.refl (s : State) (f : FeederNo) : s.Prepares s f :=
  ⟨fun _ => .of_eq rfl id, fun _ _ => rfl, rfl⟩

theorem State.Prepares.modFeeder {f : FeederNo} (h : s.Prepares t f) {x : Feeder → Feeder} : s.Prepares (t.modFeeder f x) f where
  charger := fun c => (h.charger c).trans (.of_eq rfl id)
  feeder := fun g hg => by
    rw [State.modFeeder_feeder, if_neg (Ne.symm hg)]
    exact h.feeder g hg
  stations := h.stations

theorem State.Prepares.eases {f : FeederNo} (h : s.Prepares t f) (e : ∀ c, t.EasesAt u c) (hf : u.ca.feeders = t.ca.feeders)
    (hs : u.blc.stations = t.blc.stations) : s.Prepares u f where
  charger := fun c => (h.charger c).trans (e c)
  feeder := fun g hg => (by simp [State.feeder, hf] : u.feeder g = t.feeder g).trans (h.feeder g hg)
  stations := hs.trans h.stations

theorem State.Prepares.withdrawGrant {f : FeederNo} (h : s.Prepares t f) {c : ChargerNo} :
    s.Prepares (t.withdrawGrant c) f := by
  refine h.eases (fun d => ?_) (by simp) (by simp)
  obtain ⟨mark, hmark⟩ := t.withdrawGrant_charger c
  by_cases hd : c = d
  · exact .inl (by rw [hmark, if_pos hd])
  · exact .of_eq (by rw [hmark, if_neg hd]) fun hh => by
      rwa [State.heard_of_stations (t.withdrawGrant_stations c)]

theorem State.Prepares.cancelHolds {f : FeederNo} (h : s.Prepares t f) : s.Prepares (t.cancelHolds f) f := by
  refine forEach_keeps (s.Prepares · f) _ _ t h fun c _ v hv => hv.eases (fun d => ?_) rfl rfl
  have hd : (v.modCharger c fun r => { r with hold := 0 }).charger d = { v.charger d with
      hold := if c = d then 0 else (v.charger d).hold } := by
    rw [State.modCharger_charger]
    split <;> rfl
  refine .inr ⟨by rw [hd], by rw [hd], fun hle => by rwa [hd] at hle ⊢, fun hc => ?_⟩
  unfold State.isCandidate at hc ⊢
  rw [hd]
  exact hc

theorem State.Prepares.roundStep2 {f : FeederNo} (h : s.Prepares t f) {drawn : Nat} : s.Prepares (t.roundStep2 f drawn) f := by
  unfold State.roundStep2
  extract_lets r after a
  have ha : s.Prepares a f := h.modFeeder
  have quiet {v : State} (hv : s.Prepares v f) (n : Notice) (x : EventFlag) : s.Prepares ((v.raise x).notify n) f :=
    hv.eases (fun c => State.Works.eases (.notify (.raise (.refl v))) |>.charger c) (by simp) (by simp)
  split
  · exact h
  · rcases after with _ | _ | _
    · exact ha.cancelHolds
    · exact quiet ha.cancelHolds _ _
    · exact quiet (forEach_keeps (s.Prepares · f) _ _ _ ha.cancelHolds fun c _ v hv => hv.withdrawGrant) _ _

/-- The state of a round in which the budget has been stored (R93 to R97). -/
def State.budgeted (s : State) (f : FeederNo) : State :=
  ((s.roundStep1 f).roundStep2 f (s.drawnAndBase f).1).roundStep3 f

theorem State.round_eq (s : State) (f : FeederNo) : s.round f = (s.budgeted f).roundGrants f := rfl

theorem State.budgeted_prepares (s : State) (f : FeederNo) : s.Prepares (s.budgeted f) f := by
  have h1 : s.Prepares (s.roundStep1 f) f := State.Prepares.modFeeder (.refl s f)
  unfold State.budgeted State.roundStep3
  exact h1.roundStep2.modFeeder

/-- A TRIPPED feeder has no budget (R97). -/
theorem State.budgeted_tripped (s : State) (f : FeederNo) (h : ((s.budgeted f).feeder f).state = .tripped) :
    ((s.budgeted f).feeder f).budget = 0 := by
  simp only [State.budgeted, State.roundStep3, State.modFeeder_feeder, if_true] at h ⊢
  rw [h]
  cases ((s.roundStep1 f).roundStep2 f (s.drawnAndBase f).1).ycs.mode <;> simp [budgetOf, stepTen]

/-! ### Step 6: the walk (R101, R102) -/

theorem grantOf_spec (r : ChargerCfg) (deficit remaining : Nat) :
    grantOf r deficit remaining ≤ r.pMax ∧ grantOf r deficit remaining ≤ remaining ∧ grantOf r deficit remaining % 10 = 0 := by
  unfold grantOf stepTen
  extract_lets g
  split <;> omega

@[simp] theorem grantedCharger_grant (r : Charger) (g turnLength : Nat) : (grantedCharger r g turnLength).grant = g := by
  unfold grantedCharger
  split
  · rfl
  · next h => simp only; omega

@[simp] theorem grantedCharger_cfg (r : Charger) (g turnLength : Nat) : (grantedCharger r g turnLength).cfg = r.cfg := by
  unfold grantedCharger; split <;> rfl

@[simp] theorem grantedCharger_connected (r : Charger) (g turnLength : Nat) :
    (grantedCharger r g turnLength).connected = r.connected := by
  unfold grantedCharger; split <;> rfl

theorem grantedCharger_state (r : Charger) (g turnLength : Nat) : (grantedCharger r g turnLength).state ≠ .fault := by
  unfold grantedCharger; split <;> simp

/-- A charger whose grant a walk has decided: some grant of its own, from some remaining budget. -/
def GrantedIn (s t : State) (a : Candidate) : Prop :=
  ∃ remaining turnLength, t.charger a.charger
    = grantedCharger (s.charger a.charger) (grantOf (s.charger a.charger).cfg a.deficit remaining) turnLength

/-- The walk decides the grant of each charger of its list once, within what remains, and leaves the others. -/
theorem State.walk_spec (remaining : Nat) (list : List Candidate) (s : State) (hn : (list.map Candidate.charger).Nodup) :
    (∀ c, c ∉ list.map Candidate.charger → (s.walk remaining list).charger c = s.charger c)
      ∧ (∀ a ∈ list, GrantedIn s (s.walk remaining list) a)
      ∧ (list.map fun a => ((s.walk remaining list).charger a.charger).grant).sum ≤ remaining
      ∧ (s.walk remaining list).ca.feeders = s.ca.feeders ∧ (s.walk remaining list).blc = s.blc := by
  induction list generalizing s remaining with
  | nil => exact ⟨fun _ _ => rfl, by simp, by simp, rfl, rfl⟩
  | cons a rest ih =>
    rw [List.map_cons, List.nodup_cons] at hn
    obtain ⟨ha, hn⟩ := hn
    simp only [State.walk]
    set g := grantOf (s.charger a.charger).cfg a.deficit remaining with hg
    set s1 := s.modCharger a.charger fun r => grantedCharger r g s.ss.params.turnLength with hs1
    obtain ⟨hsame, hgranted, hsum, hfeeders, hblc⟩ := ih (remaining - g) s1 hn
    have hne : ∀ b ∈ rest, a.charger ≠ b.charger := fun b hb e => ha (e ▸ List.mem_map_of_mem hb)
    have hmine : (s1.walk (remaining - g) rest).charger a.charger = grantedCharger (s.charger a.charger) g
        s.ss.params.turnLength := by rw [hsame _ ha, hs1, State.modCharger_charger, if_pos rfl]
    refine ⟨fun c hc => ?_, fun b hb => ?_, ?_, hfeeders, hblc⟩
    · rw [List.map_cons, List.mem_cons, not_or] at hc
      rw [hsame c hc.2, hs1, State.modCharger_charger, if_neg (Ne.symm hc.1)]
    · rcases List.mem_cons.mp hb with rfl | hb
      · exact ⟨remaining, _, hmine⟩
      · obtain ⟨rem', tl, hrem⟩ := hgranted b hb
        rw [hs1, State.modCharger_charger, if_neg (hne b hb)] at hrem
        exact ⟨rem', tl, hrem⟩
    · rw [List.map_cons, List.sum_cons, hmine, grantedCharger_grant]
      have := (grantOf_spec (s.charger a.charger).cfg a.deficit remaining).2.1
      omega

/-! ### Steps 4 and 5: the candidates (R98 to R100) -/

theorem insertCandidate_perm (a : Candidate) (list : List Candidate) : (insertCandidate a list).Perm (a :: list) := by
  induction list with
  | nil => rfl
  | cons b rest ih =>
    unfold insertCandidate
    split
    · rfl
    · exact (ih.cons b).trans (.swap a b rest)

/-- Ordering the candidates loses none and adds none. -/
theorem orderCandidates_perm (list : List Candidate) : (orderCandidates list).Perm list := by
  suffices ∀ (list done : List Candidate), (list.foldl (fun done a => insertCandidate a done) done).Perm (list ++ done) by
    simpa [orderCandidates] using this list []
  intro list
  induction list with
  | nil => intro done; rfl
  | cons a rest ih =>
    intro done
    exact (ih _).trans (((insertCandidate_perm a done).append_left rest).trans List.perm_middle)

/-- A candidate record is that of its charger, which is a candidate with a deficit. -/
theorem State.candidateOf_spec {c : ChargerNo} {a : Candidate} (h : s.candidateOf c = some a) :
    a.charger = c ∧ s.isCandidate c = true := by
  unfold State.candidateOf at h
  extract_lets r at h
  split at h
  · cases h
  · extract_lets d slack at h
    split at h
    · next hc =>
      injection h with h
      subst h
      simp only [Bool.and_eq_true] at hc
      exact ⟨rfl, hc.1⟩
    · cases h

/-- Whether step 4 makes a charger FULL: it is a candidate without a deficit (R98). -/
def State.needsNone (s : State) (c : ChargerNo) : Bool :=
  match (s.charger c).connected with
  | some v => s.isCandidate c && s.deficit v = 0
  | none => false

/-- A candidate has a deficit and a record, or none and becomes FULL. -/
theorem State.candidateOf_isSome_or {c : ChargerNo} (h : s.isCandidate c = true) :
    (∃ a, s.candidateOf c = some a) ∨ s.needsNone c = true := by
  have hconn : (s.charger c).connected.isSome = true := by
    simp only [State.isCandidate, Bool.and_eq_true] at h
    exact h.1.1
  obtain ⟨v, hv⟩ := Option.isSome_iff_exists.mp hconn
  by_cases hd : s.deficit v = 0
  · exact .inr (by simp [State.needsNone, hv, h, hd])
  · refine .inl ?_
    unfold State.candidateOf
    simp only [hv]
    rw [if_pos (by simp [h]; omega)]
    exact ⟨_, rfl⟩

theorem State.markFull_spec (s : State) (f : FeederNo) :
    (∀ c, (s.markFull f).charger c
        = if c ∈ s.chargersOf f ∧ s.needsNone c = true then fullCharger (s.charger c) else s.charger c)
      ∧ (s.markFull f).ca.feeders = s.ca.feeders ∧ (s.markFull f).blc = s.blc := by
  suffices ∀ (list : List ChargerNo) (t : State), list.Nodup → (∀ c ∈ list, t.charger c = s.charger c) →
      t.fleet = s.fleet → t.ds = s.ds → t.ycs = s.ycs → t.blc = s.blc →
      let m := forEach list (fun c s => match (s.charger c).connected with
        | some v => if s.isCandidate c && s.deficit v = 0 then s.modCharger c fullCharger else s
        | none => s) t
      (∀ c, m.charger c = if c ∈ list ∧ s.needsNone c = true then fullCharger (s.charger c) else t.charger c)
        ∧ m.ca.feeders = t.ca.feeders ∧ m.blc = s.blc from
    this _ s (s.chargersOf_nodup f) (fun _ _ => rfl) rfl rfl rfl rfl
  intro list
  induction list with
  | nil => exact fun t _ _ _ _ _ hb => ⟨fun c => by simp, rfl, hb⟩
  | cons d rest ih =>
    intro t hn hsame hfleet hds hycs hblc
    rw [List.nodup_cons] at hn
    have hd := hsame d (by simp)
    have hneeds : t.needsNone d = s.needsNone d := by
      have hdeficit : ∀ v, t.deficit v = s.deficit v := fun v => by
        simp [State.deficit, State.chargingRow, State.boundPlan, State.veh, hfleet, hycs]
        rw [show t.row = s.row from funext fun i => by simp [State.row, hds]]
      simp only [State.needsNone, State.isCandidate, hd, hdeficit,
        State.heard_of_stations (show t.blc.stations = s.blc.stations by rw [hblc])]
    have hstep : (match (t.charger d).connected with
        | some v => if t.isCandidate d && t.deficit v = 0 then t.modCharger d fullCharger else t
        | none => t) = if s.needsNone d = true then t.modCharger d fullCharger else t := by
      rw [← hneeds, State.needsNone]
      split <;> simp
    simp only [forEach_cons, hstep]
    by_cases hnd : s.needsNone d = true
    · simp only [hnd, if_true]
      obtain ⟨hc, hf, hb⟩ := ih (t.modCharger d fullCharger) hn.2 (fun c hc => by
        have hdc : d ≠ c := fun e => hn.1 (e ▸ hc)
        rw [State.modCharger_charger, if_neg hdc, hsame c (by simp [hc])]) hfleet hds hycs hblc
      refine ⟨fun c => ?_, hf, hb⟩
      rw [hc, State.modCharger_charger]
      by_cases hdc : d = c
      · subst hdc
        simp [hn.1, hnd, hd]
      · simp [hdc, Ne.symm hdc]
    · simp only [hnd, Bool.false_eq_true, if_false]
      obtain ⟨hc, hf, hb⟩ := ih t hn.2 (fun c hc => hsame c (by simp [hc])) hfleet hds hycs hblc
      refine ⟨fun c => ?_, hf, hb⟩
      rw [hc]
      by_cases hdc : c = d
      · subst hdc; simp [hn.1, hnd]
      · simp [hdc]

/-! ### The round and the law -/

/-- The candidates of a feeder in the order of the walk. -/
def State.walkOrder (s : State) (f : FeederNo) : List Candidate :=
  orderCandidates ((s.chargersOf f).filterMap s.candidateOf)

theorem State.mem_walkOrder {f : FeederNo} {a : Candidate} :
    a ∈ s.walkOrder f ↔ (s.charger a.charger).cfg.feeder = f ∧ s.candidateOf a.charger = some a := by
  rw [State.walkOrder, (orderCandidates_perm _).mem_iff, List.mem_filterMap]
  constructor
  · rintro ⟨c, hc, ha⟩
    obtain ⟨rfl, -⟩ := State.candidateOf_spec ha
    exact ⟨State.mem_chargersOf.mp hc, ha⟩
  · rintro ⟨hf, ha⟩
    exact ⟨a.charger, State.mem_chargersOf.mpr hf, ha⟩

theorem State.walkOrder_nodup (s : State) (f : FeederNo) : ((s.walkOrder f).map Candidate.charger).Nodup := by
  have hmap : ∀ list : List ChargerNo, ((list.filterMap s.candidateOf).map Candidate.charger).Sublist list := by
    intro list
    induction list with
    | nil => exact .slnil
    | cons c rest ih =>
      cases hc : s.candidateOf c with
      | none => rw [List.filterMap_cons_none hc]; exact ih.cons c
      | some a =>
        rw [List.filterMap_cons_some hc, List.map_cons, (State.candidateOf_spec hc).1]
        exact ih.cons_cons c
  exact (((orderCandidates_perm _).map _).nodup_iff).mpr ((hmap _).nodup (s.chargersOf_nodup f))

/-- Steps 4 to 7 before their set-points: FULL chargers, then the walk. -/
def State.shared (s : State) (f : FeederNo) : State := (s.markFull f).walk (s.feeder f).budget (s.walkOrder f)

theorem State.roundGrants_eq (s : State) (f : FeederNo) :
    s.roundGrants f = (s.shared f).sendSetpoints f (s.markFull f) := rfl

/-- What sharing out the budget makes of each charger. -/
theorem State.shared_charger (hs : ∀ c, s.GrantSound c) (f : FeederNo) (c : ChargerNo) :
    (∃ a ∈ s.walkOrder f, a.charger = c ∧ ∃ remaining turnLength,
        (s.shared f).charger c = grantedCharger (s.charger c) (grantOf (s.charger c).cfg a.deficit remaining) turnLength)
      ∨ c ∉ (s.walkOrder f).map Candidate.charger ∧ ((s.shared f).charger c).cfg = (s.charger c).cfg
        ∧ (((s.shared f).charger c).grant = 0 ∨ (s.shared f).charger c = s.charger c ∧ (s.charger c).cfg.feeder ≠ f) := by
  obtain ⟨hfull, -, -⟩ := s.markFull_spec f
  obtain ⟨hsame, hgranted, -, -, -⟩ := State.walk_spec (s.feeder f).budget (s.walkOrder f) (s.markFull f) (s.walkOrder_nodup f)
  by_cases hc : c ∈ (s.walkOrder f).map Candidate.charger
  · obtain ⟨a, ha, rfl⟩ := List.mem_map.mp hc
    obtain ⟨remaining, turnLength, h⟩ := hgranted a ha
    obtain ⟨-, hcand⟩ := State.mem_walkOrder.mp ha
    have hneeds : s.needsNone a.charger ≠ true := fun hn => by
      unfold State.candidateOf at hcand
      unfold State.needsNone at hn
      cases hconn : (s.charger a.charger).connected with
      | none => simp [hconn] at hn
      | some v =>
        simp only [hconn, Bool.and_eq_true, decide_eq_true_eq] at hn hcand
        rw [if_neg (by omega)] at hcand
        cases hcand
    rw [hfull, if_neg fun h => hneeds h.2] at h
    exact .inl ⟨a, ha, rfl, remaining, turnLength, h⟩
  · refine .inr ⟨hc, ?_⟩
    have hsh : (s.shared f).charger c = (s.markFull f).charger c := hsame c hc
    rw [hsh, hfull]
    split
    · exact ⟨rfl, .inl rfl⟩
    · next hno =>
      refine ⟨rfl, ?_⟩
      by_cases hf : (s.charger c).cfg.feeder = f
      · left
        by_contra hpos
        rcases State.candidateOf_isSome_or ((hs c).2.2 (Nat.pos_of_ne_zero hpos)) with ⟨a, ha⟩ | hn
        · obtain ⟨rfl, -⟩ := State.candidateOf_spec ha
          exact hc (List.mem_map_of_mem (State.mem_walkOrder.mpr ⟨hf, ha⟩))
        · exact hno ⟨State.mem_chargersOf.mpr hf, hn⟩
      · exact .inr ⟨rfl, hf⟩

theorem State.shared_feeders (s : State) (f : FeederNo) : (s.shared f).ca.feeders = s.ca.feeders := by
  obtain ⟨-, hfeeders, -⟩ := s.markFull_spec f
  obtain ⟨-, -, -, h, -⟩ := State.walk_spec (s.feeder f).budget (s.walkOrder f) (s.markFull f) (s.walkOrder_nodup f)
  exact h.trans hfeeders

theorem State.shared_blc (s : State) (f : FeederNo) : (s.shared f).blc = s.blc := by
  obtain ⟨-, -, hblc⟩ := s.markFull_spec f
  obtain ⟨-, -, -, -, h⟩ := State.walk_spec (s.feeder f).budget (s.walkOrder f) (s.markFull f) (s.walkOrder_nodup f)
  exact h.trans hblc

theorem State.shared_grantSound (hs : ∀ c, s.GrantSound c) (f : FeederNo) (c : ChargerNo) : (s.shared f).GrantSound c := by
  rcases State.shared_charger hs f c with ⟨a, ha, rfl, remaining, turnLength, h⟩ | ⟨-, -, h | ⟨h, -⟩⟩
  · obtain ⟨-, hcand⟩ := State.candidateOf_spec (State.mem_walkOrder.mp ha).2
    obtain ⟨hmax, -, hten⟩ := grantOf_spec (s.charger a.charger).cfg a.deficit remaining
    refine ⟨by rw [h]; simpa using hmax, by rw [h]; simpa using hten, fun _ => ?_⟩
    unfold State.isCandidate at hcand ⊢
    rw [h, grantedCharger_connected, grantedCharger_cfg, State.heard_of_stations (congrArg Blc.stations (s.shared_blc f))]
    simp only [Bool.and_eq_true] at hcand ⊢
    exact ⟨⟨hcand.1.1, decide_eq_true (grantedCharger_state _ _ _)⟩, hcand.2⟩
  · exact ⟨by omega, by omega, fun hpos => by omega⟩
  · exact (hs c).eases (.of_eq h fun hh => by
      rwa [State.heard_of_stations (congrArg Blc.stations (s.shared_blc f))])

/-- What is shared out on the feeder of the round is within its budget. -/
theorem State.shared_grantSum (hs : ∀ c, s.GrantSound c) (f : FeederNo) : (s.shared f).grantSum f ≤ (s.feeder f).budget := by
  obtain ⟨-, -, hsum, -, -⟩ := State.walk_spec (s.feeder f).budget (s.walkOrder f) (s.markFull f) (s.walkOrder_nodup f)
  refine le_trans ?_ hsum
  rw [State.grantSum_eq]
  set granted := (s.walkOrder f).map Candidate.charger with hgranted
  have hlist : ((s.walkOrder f).map fun a => ((s.shared f).charger a.charger).grant).sum
      = ∑ c ∈ granted.toFinset, ((s.shared f).charger c).grant := by
    rw [List.sum_toFinset _ (s.walkOrder_nodup f), List.map_map]
    rfl
  have hzero : ∀ c, c ∉ granted.toFinset → (s.shared f).share f c = 0 := fun c hc => by
    rcases State.shared_charger hs f c with ⟨a, ha, rfl, -⟩ | ⟨-, hcfg, h⟩
    · exact absurd (List.mem_toFinset.mpr (List.mem_map_of_mem ha)) hc
    · unfold State.share
      split
      · next hf =>
        rcases h with h | ⟨-, hne⟩
        · exact h
        · exact absurd (hcfg ▸ hf) hne
      · rfl
  calc ∑ c, (s.shared f).share f c
      = ∑ c ∈ granted.toFinset, (s.shared f).share f c :=
        (Finset.sum_subset (Finset.subset_univ _) fun c _ hc => hzero c hc).symm
    _ ≤ ∑ c ∈ granted.toFinset, ((s.shared f).charger c).grant := Finset.sum_le_sum fun c _ => by
        unfold State.share
        split <;> omega
    _ = _ := hlist.symm

/-- Sharing out a feeder's budget takes nothing of another feeder's. -/
theorem State.shared_grantSum_other (hs : ∀ c, s.GrantSound c) {f g : FeederNo} (hg : g ≠ f) :
    (s.shared f).grantSum g ≤ s.grantSum g := by
  rw [State.grantSum_eq, State.grantSum_eq]
  refine Finset.sum_le_sum fun c _ => ?_
  unfold State.share
  rcases State.shared_charger hs f c with ⟨a, ha, rfl, remaining, turnLength, h⟩ | ⟨-, hcfg, h | ⟨h, -⟩⟩
  · rw [h, grantedCharger_cfg, (State.mem_walkOrder.mp ha).1, if_neg (Ne.symm hg)]
    exact Nat.zero_le _
  · rw [h]
    split <;> omega
  · rw [h]

/-- A round keeps the law of the grants (R97, R101, R102). -/
theorem State.GrantLaw.round (h : s.GrantLaw) (f : FeederNo) : (s.round f).GrantLaw := by
  rw [State.round_eq, State.roundGrants_eq]
  refine State.GrantLaw.eases ?_ (State.sendSetpoints_resends _ f _).eases
  have hprep := s.budgeted_prepares f
  have hsound : ∀ c, (s.budgeted f).GrantSound c := fun c => State.GrantSound.eases (h.1 c) (hprep.charger c)
  have hfeeder (g : FeederNo) : ((s.budgeted f).shared f).feeder g = (s.budgeted f).feeder g := by
    simp [State.feeder, State.shared_feeders]
  refine ⟨State.shared_grantSound hsound f, fun g => ?_⟩
  rw [hfeeder]
  by_cases hg : g = f
  · subst hg
    have hsum := State.shared_grantSum hsound g
    refine ⟨hsum, fun htrip => ?_⟩
    have := s.budgeted_tripped g htrip
    omega
  · obtain ⟨hbudget, htrip⟩ := h.2 g
    have hsum := (State.shared_grantSum_other hsound hg).trans (State.grantSum_eases hprep.charger)
    rw [hprep.feeder g hg]
    refine ⟨hsum.trans hbudget, fun ht => ?_⟩
    have := htrip ht
    omega

end

end Sys2Proof.Machine
end

section
/-! Every owner keeps the law of the grants. -/

namespace Sys2Proof.Machine

section
variable {s t u : State}

theorem State.Eases.of_ca (hc : t.ca = s.ca) (hb : t.blc.stations = s.blc.stations) : s.Eases t :=
  .of_heard hc fun a h => by rwa [State.heard_of_stations hb]

theorem State.Eases.refl (s : State) : s.Eases s := .of_ca rfl rfl

/-- A change of feeders that takes no budget and trips none. -/
theorem State.Eases.modFeeder {f : FeederNo} {x : Feeder → Feeder} (hb : ∀ r, (x r).budget = r.budget)
    (ht : ∀ r, (x r).state = .tripped → r.state = .tripped) : s.Eases (s.modFeeder f x) where
  charger := fun c => .of_eq rfl id
  budget := fun g => by
    rw [State.modFeeder_feeder]
    split
    · exact hb _
    · rfl
  tripped := fun g hg => by
    rw [State.modFeeder_feeder] at hg
    split at hg
    · exact ht _ hg
    · exact hg

/-- A change of one charger. -/
theorem State.Eases.modCharger {c : ChargerNo} {x : Charger → Charger} (h : s.EasesAt (s.modCharger c x) c) :
    s.Eases (s.modCharger c x) where
  charger := fun d => by
    by_cases hd : c = d
    · exact hd ▸ h
    · exact .of_eq (by rw [State.modCharger_charger, if_neg hd]) id
  budget := fun _ => rfl
  tripped := fun _ h => h

theorem State.withdrawGrant_eases (s : State) (c : ChargerNo) : s.Eases (s.withdrawGrant c) where
  charger := fun d => by
    obtain ⟨mark, hmark⟩ := s.withdrawGrant_charger c
    by_cases hd : c = d
    · exact .inl (by rw [hmark, if_pos hd])
    · exact .of_eq (by rw [hmark, if_neg hd]) fun hh => by rwa [State.heard_of_stations (s.withdrawGrant_stations c)]
  budget := fun f => by simp [State.feeder]
  tripped := fun f hf => by simpa [State.feeder] using hf

theorem State.withdrawGrant_grant (s : State) (c : ChargerNo) : ((s.withdrawGrant c).charger c).grant = 0 := by
  obtain ⟨mark, hmark⟩ := s.withdrawGrant_charger c
  rw [hmark, if_pos rfl]

theorem State.disconnect_grant (s : State) (c : ChargerNo) : ((s.disconnect c).charger c).grant = 0 := by
  obtain ⟨mark, hmark⟩ := s.disconnect_charger c
  rw [hmark, if_pos rfl]

/-! ### A charger with a new static part (R82) -/

theorem State.moveCharger_eases {c : ChargerNo} {cfg : ChargerCfg} (h : (s.charger c).grant ≤ cfg.pMax) :
    s.Eases (s.moveCharger c cfg) := by
  unfold State.moveCharger
  split
  · refine (State.Works.eases (.disconnect (.refl s))).trans (.modCharger (.inl ?_))
    rw [State.modCharger_charger, if_pos rfl]
    exact s.disconnect_grant c
  · next hm =>
    have hsame : (s.charger c).cfg.station = cfg.station ∧ (s.charger c).cfg.feeder = cfg.feeder := by
      simp only [chargerMoved, Bool.or_eq_true, decide_eq_true_eq, not_or, not_not] at hm
      exact ⟨hm.1.1.1, hm.2⟩
    refine .modCharger (.inr ?_)
    simp only [State.modCharger_charger, if_true, State.isCandidate, hsame.1, hsame.2, true_and]
    exact ⟨fun _ => h, fun hc => hc⟩

/-- A charger that takes a new static part keeps no grant above its new P_max (R82; log 37). -/
theorem State.writeCharger_eases (s : State) (c : ChargerNo) (cfg : ChargerCfg) : s.Eases (s.writeCharger c cfg) := by
  unfold State.writeCharger
  split
  · exact (s.withdrawGrant_eases c).trans (State.moveCharger_eases (by rw [s.withdrawGrant_grant c]; exact Nat.zero_le _))
  · exact State.moveCharger_eases (by omega)

/-! ### Reports (R86, R87) -/

theorem State.connect_spec (s : State) (c : ChargerNo) (x : Connection) :
    s.Eases (s.connect c x) ∧ (x ≠ .kept → ((s.connect c x).charger c).grant = 0)
      ∧ (x = .kept → s.connect c x = s) := by
  unfold State.connect
  cases x with
  | kept => exact ⟨.refl s, fun h => absurd rfl h, fun _ => rfl⟩
  | cleared => exact ⟨State.Works.eases (.disconnect (.refl s)), fun _ => s.disconnect_grant c, fun h => by cases h⟩
  | changed v =>
    have hzero : ((((s.modCharger c fun r => { r with connected := some v }).withdrawGrant c).modCharger c fun r =>
        { r with turnAge := 0, hold := 0 }).charger c).grant = 0 := by
      rw [State.modCharger_charger, if_pos rfl]
      exact State.withdrawGrant_grant _ c
    refine ⟨?_, fun _ => hzero, fun h => by cases h⟩
    refine (State.Eases.modCharger (.inr ?_)).trans ((State.withdrawGrant_eases _ c).trans (.modCharger (.inl hzero)))
    simp only [State.modCharger_charger, if_true, State.isCandidate, true_and]
    simp only [Option.isSome_some, Bool.and_eq_true, decide_eq_true_eq, true_and]
    exact ⟨fun h => h, fun hc => ⟨hc.1.2, hc.2⟩⟩

/-- A CHARGER_REPORT that leaves a grant leaves charger and connection as they were (R87). -/
theorem State.chargerReport_eases (hs : s.GrantLaw) (c : ChargerNo) (tagged : Bool) (slot : Option Slot) (soc power : Nat)
    (fault : Bool) : s.Eases (s.chargerReport c tagged slot soc power fault) := by
  unfold State.chargerReport
  extract_lets a b before connection d e f
  have hda : s.Eases a := .modCharger (.inr (by
    simp only [State.modCharger_charger, if_true, State.isCandidate, true_and]
    exact ⟨fun h => h, fun hc => hc⟩))
  have hb : a.Eases b := by
    unfold b
    split
    · exact .of_ca rfl rfl
    · exact .refl a
  have hd : b.Eases d := by
    unfold d
    split
    · exact .of_ca rfl rfl
    · exact .refl b
  have hchain : s.Eases d := (hda.trans hb).trans hd
  obtain ⟨he, hzero, hkept⟩ := d.connect_spec c connection
  have hf : e.Eases f := by
    unfold f
    split
    · exact e.withdrawGrant_eases c
    · exact .refl e
  refine (hchain.trans (he.trans hf)).trans (.modCharger ?_)
  by_cases hg : (f.charger c).grant = 0
  · exact .inl (by rw [State.modCharger_charger, if_pos rfl]; exact hg)
  · have hfault : fault = false := by
      cases hfault : fault with
      | false => rfl
      | true => exact absurd (by simp only [f, hfault, if_true]; exact e.withdrawGrant_grant c) hg
    have hfe : f = e := by simp [f, hfault]
    have hk : connection = .kept := by
      by_contra hk
      exact hg (hfe ▸ hzero hk)
    have hed : e = d := hkept hk
    have hdb : d.charger c = b.charger c := by
      simp only [d]
      split <;> rfl
    have hcand : d.isCandidate c = true := ((hs.eases hchain).1 c).2.2 (by
      rw [hfe, hed] at hg
      omega)
    have hstate : stateAfterReport before connection (f.charger c).connected.isSome fault = before := by
      have hbefore : before ≠ .fault := by
        simp only [State.isCandidate, Bool.and_eq_true, decide_eq_true_eq] at hcand
        rw [hdb] at hcand
        exact hcand.1.2
      simp [stateAfterReport, hfault, hbefore, hk]
    refine .of_eq ?_ id
    rw [State.modCharger_charger, if_pos rfl, hstate, hfe, hed, hdb]

/-! ### SILENT marks (R91) -/

/-- The chargers at a station that became SILENT lose their grants, and the others stay (R91). -/
theorem State.silenced_charger (a : Addr) (list : List ChargerNo) (s : State) (d : ChargerNo) :
    ((forEach list (fun c s => if (s.charger c).cfg.station = some a then s.modCharger c silencedCharger else s) s).charger
        d).grant = 0
      ∨ (forEach list (fun c s => if (s.charger c).cfg.station = some a then s.modCharger c silencedCharger else s) s).charger d
          = s.charger d ∧ (d ∈ list → (s.charger d).cfg.station ≠ some a) := by
  induction list generalizing s with
  | nil => exact .inr ⟨rfl, by simp⟩
  | cons c rest ih =>
    rw [forEach_cons]
    split
    · next hc =>
      rcases ih (s.modCharger c silencedCharger) with h | ⟨h, hst⟩
      · exact .inl h
      · by_cases hcd : c = d
        · subst hcd
          exact .inl (by rw [h, State.modCharger_charger, if_pos rfl]; rfl)
        · rw [State.modCharger_charger, if_neg hcd] at h hst
          exact .inr ⟨h, fun hd => hst (by simpa [Ne.symm hcd] using hd)⟩
    · next hc =>
      refine (ih s).imp id fun h => ⟨h.1, fun hd => ?_⟩
      rcases List.mem_cons.mp hd with rfl | hd
      · exact hc
      · exact h.2 hd

/-- The allocator has taken the grants of the chargers at a SILENT station (R91). -/
def State.silence (s : State) (a : Addr) : State :=
  forEach (upTo 64) (fun c s => if (s.charger c).cfg.station = some a then s.modCharger c silencedCharger else s) s

theorem State.silence_charger (s : State) (a : Addr) (d : ChargerNo) : ((s.silence a).charger d).grant = 0
    ∨ (s.silence a).charger d = s.charger d ∧ (s.charger d).cfg.station ≠ some a := by
  have h := State.silenced_charger a (upTo 64) s d
  unfold State.silence
  exact h.imp id fun h => ⟨h.1, h.2 (mem_upTo d)⟩

theorem State.silence_core (s : State) (a : Addr) : (s.silence a).blc = s.blc ∧ (s.silence a).ca.feeders = s.ca.feeders := by
  unfold State.silence
  refine forEach_keeps (fun t => t.blc = s.blc ∧ t.ca.feeders = s.ca.feeders) _ _ s ⟨rfl, rfl⟩ fun c _ t ht => ?_
  split <;> exact ht

theorem State.chargingSilenced_eq (s : State) (a : Addr) : s.chargingSilenced a = forEach (upTo 4) (fun f s =>
    if (s.feeder f).cfg.meter = some a then s.modFeeder f fun r => { r with reading := none } else s) (s.silence a) := rfl

/-- What is told to the allocator of a SILENT station leaves budgets, states and stations (R91). -/
theorem State.chargingSilenced_spec (s : State) (a : Addr) : (s.chargingSilenced a).blc = s.blc
    ∧ (∀ f, ((s.chargingSilenced a).feeder f).budget = (s.feeder f).budget
      ∧ ((s.chargingSilenced a).feeder f).state = (s.feeder f).state)
    ∧ ∀ d, ((s.chargingSilenced a).charger d).grant = 0 ∨ (s.chargingSilenced a).charger d = s.charger d
      ∧ (s.charger d).cfg.station ≠ some a := by
  have hchargers := s.silence_charger a
  obtain ⟨hblc, hfeeders⟩ := s.silence_core a
  rw [State.chargingSilenced_eq]
  generalize s.silence a = m at *
  have hreadings := forEach_keeps (fun t => t.blc = m.blc ∧ t.ca.chargers = m.ca.chargers
    ∧ ∀ f, (t.feeder f).budget = (m.feeder f).budget ∧ (t.feeder f).state = (m.feeder f).state) (upTo 4)
    (fun f s => if (s.feeder f).cfg.meter = some a then s.modFeeder f fun r => { r with reading := none } else s) m
    ⟨rfl, rfl, fun _ => ⟨rfl, rfl⟩⟩ fun f _ t ht => ?_
  · obtain ⟨hb, hc, hf⟩ := hreadings
    refine ⟨hb.trans hblc, fun f => ?_, fun d => ?_⟩
    · have hm : m.feeder f = s.feeder f := by simp [State.feeder, hfeeders]
      rw [(hf f).1, (hf f).2, hm]
      exact ⟨rfl, rfl⟩
    · rw [State.charger, hc]
      exact hchargers d
  · obtain ⟨hb, hc, hf⟩ := ht
    split
    · refine ⟨hb, hc, fun g => ?_⟩
      rw [State.modFeeder_feeder]
      split
      · next hg => subst hg; exact hf f
      · exact hf g
    · exact ⟨hb, hc, hf⟩

/-- A station that becomes SILENT takes the grants of its chargers with it (R91). -/
theorem State.becomeSilent_eases (s : State) (a : Addr) : s.Eases (s.becomeSilent a) := by
  unfold State.becomeSilent
  extract_lets p q
  have hca : q.ca = s.ca := by simp [q, p, State.modStation]
  have hstations : q.blc.stations = p.blc.stations := by simp [q]
  obtain ⟨hblc, hfeeder, hcharger⟩ := q.chargingSilenced_spec a
  have hheard (x : Option Addr) (hx : x ≠ some a) (h : s.heard x = true) : (q.chargingSilenced a).heard x = true := by
    rw [State.heard_of_stations ((congrArg Blc.stations hblc).trans hstations)]
    cases x with
    | none => cases h
    | some b =>
      have hb : a ≠ b := fun e => hx (by rw [e])
      simpa [State.heard, State.silent, p, State.modStation, hb] using h
  refine ⟨fun c => ?_, fun f => ?_, fun f hf => ?_⟩
  · rcases hcharger c with h | ⟨h, hst⟩
    · exact .inl h
    · have hq : q.charger c = s.charger c := by simp [State.charger, hca]
      rw [hq] at h hst
      exact .of_eq h (hheard _ hst)
  · rw [(hfeeder f).1]; simp [State.feeder, hca]
  · rw [(hfeeder f).2] at hf; simpa [State.feeder, hca] using hf

theorem State.missPoll_eases (s : State) (a : Addr) : s.Eases (s.missPoll a) := by
  unfold State.missPoll
  extract_lets m
  have hm : s.Eases m := State.setStation_eases fun h => h
  split
  · exact hm.trans (m.becomeSilent_eases a)
  · exact hm

end

end Sys2Proof.Machine
end

section
/-! Every owner keeps the law of the grants, so every step does. -/

namespace Sys2Proof.Machine

section
variable {s t u : State}

theorem State.GrantLaw.works (h : s.GrantLaw) (e : s.Works t) : t.GrantLaw := h.eases e.eases

theorem settled_works {r : Outcome × State} (h : s.Works r.2) : s.Works (settled r).2 := by
  unfold settled
  split
  · exact .settle h
  · exact h

/-! ### Recoveries (R154) -/

theorem State.reportRecovery_works (s t : State) (recovered : Addr → Bool) : t.Works (State.reportRecovery s t recovered) := by
  unfold State.reportRecovery
  extract_lets a
  have ha : t.Works a := by
    unfold a
    split
    · exact .retry (.refl t)
    · exact .refl t
  refine .forEach ha fun b _ u hu => ?_
  repeat' split
  · exact .choose hu
  · exact hu
  · exact hu

theorem State.recover_eases (s : State) (a : Addr) : s.Eases (s.recover a) := by
  unfold State.recover
  split
  · refine State.Eases.trans (t := s.modStation a fun r => { r with silent := false }) ?_ (State.reportRecovery_works s _ _).eases
    exact State.setStation_eases fun h => by cases h
  · exact .refl s

theorem State.heardFrom_eases (s : State) (a : Addr) : s.Eases (s.heardFrom a) := by
  have h1 : s.Eases (s.modStation a fun r => { r with misses := 0 }) := State.setStation_eases fun h => h
  exact (h1.trans (State.recover_eases _ a)).trans (State.Works.eases (.settle (.refl _)))

theorem State.writeStation_eases (s : State) (a : Addr) (cfg : StationCfg) : s.Eases (s.writeStation a cfg) := by
  unfold State.writeStation
  extract_lets t
  have ht : s.Eases t := State.setStation_eases fun h => h
  split
  · exact ht.trans (t.heardFrom_eases a)
  · exact ht

/-! ### The plan and the fleet -/

theorem State.unbindRewritten_works (s : State) (i : Nat) (b : Option Slot) : s.Works (s.unbindRewritten i b) := by
  unfold State.unbindRewritten
  repeat' split
  · exact .refl s
  · exact .clearBinding (.refl s)
  · exact .refl s
  · exact .refl s

theorem State.bindWritten_works (s : State) (i : Nat) (b : Option Slot) : s.Works (s.bindWritten i b) := by
  unfold State.bindWritten
  split
  · exact .modVeh (.refl s) fun _ => rfl
  · exact .refl s

theorem State.putActiveRow_works (s : State) (i : Nat) (p : List Byte) : s.Works (s.putActiveRow i p).2 := by
  unfold State.putActiveRow
  split
  · exact .refl s
  split
  · exact .refl s
  split
  · exact .refl s
  split
  · exact .refl s
  split
  · exact .refl s
  split
  · exact .refl s
  unfold State.writeActive
  extract_lets a b
  exact (State.Works.ds (s.unbindRewritten_works _ _)).trans (State.bindWritten_works _ _ _)

/-! ### The end of a LOAD (R186) -/

/-- The chargers have taken the static parts of the image (R82, R186). -/
def State.rewired (s : State) (c : Configuration) : State :=
  forEach (upTo 64) (fun n s => s.writeCharger n (c.chargers.get n)) s

theorem State.rewired_eases (s : State) (c : Configuration) : s.Eases (s.rewired c) := by
  unfold State.rewired
  exact forEach_keeps s.Eases _ _ s (.refl s) fun n _ t ht => ht.trans (t.writeCharger_eases n _)

/-- What a LOAD installs besides the chargers (R186). -/
def State.installed (s : State) (c : Configuration) : State :=
  { s with
    lanes := Vector.zipWith loadedLane s.lanes c.lanes
    stc := { s.stc with bays := Vector.zipWith loadedBay s.stc.bays c.bays }
    ca := { s.ca with feeders := Vector.zipWith (fun r cfg => { r with cfg := cfg }) s.ca.feeders c.feeders }
    blc := { s.blc with stations := c.stations.map fun cfg => { cfg := cfg }, place := none, cycleCount := 0 }
    ss := { s.ss with params := c.params } }

theorem State.install_eq (s : State) (c : Configuration) : s.install c = (s.rewired c).installed c := by
  simp only [State.install, State.installed, State.rewired]

/-- It leaves grants, budgets and feeder states, and clears every SILENT mark (R161, R186). -/
theorem State.installed_eases (s : State) (c : Configuration) : s.Eases (s.installed c) where
  charger d := .of_eq rfl fun h => by
    generalize (s.charger d).cfg.station = x at *
    cases x with
    | none => cases h
    | some a => simp [State.installed, State.heard, State.silent, State.station, Vector.get_eq_getElem]
  budget f := by simp [State.installed, State.feeder, Vector.get_eq_getElem]
  tripped f hf := by simpa [State.installed, State.feeder, Vector.get_eq_getElem] using hf

theorem State.install_eases (s : State) (c : Configuration) : s.Eases (s.install c) := by
  rw [State.install_eq]
  exact (s.rewired_eases c).trans (State.installed_eases _ c)

theorem State.placeFault_sameCore (s : State) (c : FaultCode) : s.SameCore (s.placeFault c) := by
  unfold State.placeFault
  split <;> exact .byRfl

theorem State.endLoad_grantLaw (h : s.GrantLaw) : s.endLoad.GrantLaw := by
  have hm : s.Eases { s with ss := { s.ss with loading := false } } := .of_ca rfl rfl
  unfold State.endLoad
  generalize { s with ss := { s.ss with loading := false } } = m at *
  dsimp only
  split
  · exact h.eases (hm.trans (m.placeFault_sameCore _).eases)
  · next c _ =>
    have hc : m.Eases (m.install c) := m.install_eases c
    generalize m.install c = i at *
    exact h.eases ((hm.trans hc).trans (State.Works.eases (.settle (.chooseAll (.retry (.refl i))))))

/-! ### The minute advance (R180) -/

theorem State.armedSwap_eases (s : State) : s.Eases s.armedSwap := by
  unfold State.armedSwap
  split
  · split
    · exact State.Eases.trans (t := { s with ds := { s.ds with swap := .pending } }) (.of_ca rfl rfl)
        (State.Works.eases (.exchangeIfDue (.refl _)))
    · exact State.Eases.trans (t := { s with ds := { s.ds with swap := .none } }) (.of_ca rfl rfl)
        (State.placeFault_sameCore _ _).eases
  · exact .refl s

theorem State.departureAdvance_eases (s : State) : s.Eases s.departureAdvance := by
  unfold State.departureAdvance
  split
  · split
    · exact ((State.Works.eases (.rollRows (.refl s))).trans (State.armedSwap_eases _)).trans
        (State.Works.eases (.callScan (.refl _)))
    · exact State.Works.eases (.callScan (.refl s))
  · exact State.Works.eases (.shiftRetries (.refl s))

theorem State.takeAdvance_grantLaw (h : s.GrantLaw) (x : AdvanceTaker) : (s.takeAdvance x).GrantLaw := by
  cases x with
  | yardMap => exact h
  | placement => exact h.works (.settle (.retry (.refl s)))
  | service => exact h.works (.settle (.serviceAdvance (.refl s)))
  | departures => exact h.eases s.departureAdvance_eases
  | round f => exact h.round f

theorem State.advance_grantLaw (h : s.GrantLaw) (order : List AdvanceTaker) : (s.advance order).GrantLaw := by
  have hminute : s.Works s.nextMinute := .of_eq rfl rfl rfl
  have hstart : s.Works ((s.nextMinute.requeueWrapped .fuel).requeueWrapped .wash) := hminute.requeueWrapped.requeueWrapped
  exact forEach_keeps State.GrantLaw _ _ _ (h.works hstart) fun x _ t ht => State.takeAdvance_grantLaw ht x

/-! ### Start-up and soft reset (R108, R177) -/

theorem State.softReset_grantLaw (s : State) : s.softReset.GrantLaw := by
  have h (c : ChargerNo) : (s.softly.charger c).grant = 0 := by
    simp [State.softly, State.charger, Vector.get_eq_getElem]
  refine .of_zero fun c => ?_
  unfold State.softReset
  split <;> exact h c

/-- A state built from a configuration has no grants. -/
theorem State.ofConfiguration_grant (c : Configuration) (d : ChargerNo) : ((State.ofConfiguration c).charger d).grant = 0 := by
  simp [State.ofConfiguration, State.charger, Vector.get_eq_getElem]

theorem State.startUp_grantLaw (s : State) (straps : Addr) : (s.startUp straps).GrantLaw := by
  refine .of_zero fun c => ?_
  have h := State.ofConfiguration_grant (s.ss.flash.getD {}) c
  have hd : ((State.ofConfiguration (s.ss.flash.getD {})).defaulted s.ss.flash).ca
      = (State.ofConfiguration (s.ss.flash.getD {})).ca := by
    unfold State.defaulted
    split <;> rfl
  show ((((State.ofConfiguration (s.ss.flash.getD {})).defaulted s.ss.flash).ca).chargers.get c).grant = 0
  rw [hd]
  exact h

/-! ### Requests and orders -/

theorem State.putStationRow_eases (s : State) (a : Addr) (p : List Byte) : s.Eases (s.putStationRow a p).2 := by
  unfold State.putStationRow
  repeat' split
  · exact .refl s
  · exact .refl s
  · exact s.writeStation_eases a _

theorem State.putLaneRow_works (s : State) (l : LaneNo) (p : List Byte) : s.Works (s.putLaneRow l p).2 := by
  unfold State.putLaneRow State.writeLane
  repeat' split
  · exact .refl s
  · exact .refl s
  · exact .refl s
  · dsimp only
    split
    · exact .settle (.retry (.modLane (.refl s)))
    · exact .modLane (.refl s)

theorem State.putChargerRow_eases (s : State) (c : ChargerNo) (p : List Byte) : s.Eases (s.putChargerRow c p).2 := by
  unfold State.putChargerRow
  repeat' split
  · exact .refl s
  · exact .refl s
  · exact .refl s
  · exact s.writeCharger_eases c _

theorem State.putFeederRow_eases (s : State) (f : FeederNo) (p : List Byte) : s.Eases (s.putFeederRow f p).2 := by
  unfold State.putFeederRow
  repeat' split
  · exact .refl s
  · exact .refl s
  · exact State.Eases.modFeeder (x := fun r => feederWith r _) (fun _ => rfl) fun _ h => h

theorem State.putBayRow_works (s : State) (b : BayNo) (p : List Byte) : s.Works (s.putBayRow b p).2 := by
  unfold State.putBayRow
  repeat' split
  · exact .refl s
  · exact .refl s
  · exact .refl s
  · exact .choose (.modBay (.refl s))

theorem State.putFleetRow_eases (s : State) (v : Slot) (p : List Byte) : s.Eases (s.putFleetRow v p).2 := by
  unfold State.putFleetRow
  split
  · exact .refl s
  · extract_lets old
    repeat' split
    · exact .refl s
    · exact .refl s
    · exact .refl s
    · exact .of_ca rfl rfl

theorem State.putStandbyRow_works (s : State) (i : Nat) (p : List Byte) : s.Works (s.putStandbyRow i p).2 := by
  unfold State.putStandbyRow
  repeat' split
  · exact .refl s
  · exact .refl s
  · exact .refl s
  · exact .ds (.refl s)

theorem State.swapNow_works (s : State) : s.Works s.swapNow.2 := by
  unfold State.swapNow
  repeat' split
  · exact .refl s
  · exact .ds (.refl s)
  · exact .exchange (.refl s)

theorem State.swapAtRollover_works (s : State) : s.Works s.swapAtRollover.2 := by
  unfold State.swapAtRollover
  split
  · exact .refl s
  · exact .ds (.refl s)

theorem State.cancelRow_works (s : State) (i : Nat) : s.Works (s.cancelRow i).2 := by
  unfold State.cancelRow
  split
  · exact .refl s
  · split
    · exact .modRow (.refl s)
    · exact .modRow (.refl s)
    · dsimp only
      split
      · exact .clearBinding (.modRow (.refl s))
      · exact .modRow (.refl s)
    · exact .refl s
    · exact .refl s
    · exact .refl s
    · exact .refl s

/-- The held mark has no part in charging. -/
theorem State.modVeh_eases (s : State) (v : Slot) (f : Vehicle → Vehicle) : s.Eases (s.modVeh v f) := .of_ca rfl rfl

theorem State.hold_eases (s : State) (v : Slot) : s.Eases (s.hold v).2 := by
  unfold State.hold
  split
  · exact .refl s
  · split
    · exact .refl s
    · extract_lets call m
      have hm : s.Eases m := s.modVeh_eases v _
      dsimp only
      split
      · exact hm.trans (State.Works.eases (.modVeh (.undoCall (.refl m)) endedCall_badge))
      · exact hm.trans (State.Works.eases (.unbindBound (.refl m)))

theorem State.unhold_eases (s : State) (v : Slot) : s.Eases (s.unhold v).2 := by
  unfold State.unhold
  split
  · exact .refl s
  · exact s.modVeh_eases v fun r => { r with held := false }

theorem State.yardSet_works (s : State) (v : Slot) (l : LaneNo) : s.Works (s.yardSet v l).2 := by
  unfold State.yardSet
  split
  · exact .refl s
  split
  · exact .refl s
  split
  · exact .refl s
  split
  · exact .refl s
  · extract_lets wasOut a b c d
    have hb : s.Works b := .withdraw (.addAtTail (.refl s))
    have hc : s.Works c := by
      unfold c
      split
      · exact .modVeh hb fun _ => rfl
      · exact hb
    have hd : s.Works d := .modVeh hc fun _ => rfl
    exact hd.testLane

theorem State.yardSetOut_works (s : State) (v : Slot) : s.Works (s.yardSetOut v).2 := by
  unfold State.yardSetOut
  split
  · exact .refl s
  split
  · exact .refl s
  split
  · exact .refl s
  · exact .setOut (.unbindBound (.withdraw (.refl s)))

theorem State.orderSetState_works (s : State) (l : LaneNo) (x : SetState) : s.Works (s.orderSetState l x) := by
  unfold State.orderSetState
  extract_lets t
  split
  · exact .retry (.modLane (.refl s))
  · exact .modLane (.refl s)

theorem State.openLane_works (s : State) (l : LaneNo) : s.Works (s.openLane l).2 := by
  unfold State.openLane
  split
  · exact .refl s
  · exact s.orderSetState_works l _

theorem State.openBay_works (s : State) (b : BayNo) : s.Works (s.openBay b).2 := by
  unfold State.openBay
  split
  · exact .refl s
  · exact .refl s
  · exact .refl s
  · exact .refl s
  · exact .refl s
  · exact .choose (.releaseBay (.refl s))

theorem State.closeBay_works (s : State) (b : BayNo) : s.Works (s.closeBay b).2 := by
  unfold State.closeBay
  split
  · exact .releaseBay (.refl s)
  · exact .releaseBay (.refl s)
  · have hback : s.Works (s.returnTicket b) := .returnTicket (.refl s)
    generalize s.returnTicket b = u at *
    dsimp only
    exact hback.releaseBay.chooseKind
  · exact .refl s
  · exact .refl s
  · exact .refl s

theorem State.clearBay_works (s : State) (b : BayNo) : s.Works (s.clearBay b).2 := by
  unfold State.clearBay
  split
  · exact .refl s
  · exact .refl s
  · exact .refl s
  · exact .refl s
  · exact .choose (.releaseBay (.refl s))
  · exact .refl s

theorem State.clearFeeder_eases (s : State) (f : FeederNo) : s.Eases (s.clearFeeder f).2 := by
  unfold State.clearFeeder
  exact State.Eases.modFeeder (x := fun r => { r with state := .normal, accumulator := 0 }) (fun _ => rfl) fun _ h => by cases h

theorem State.meterReport_eases (s : State) (f : FeederNo) (draw : Nat) : s.Eases (s.meterReport f draw).settle := by
  have h : s.Eases (s.meterReport f draw) := by
    unfold State.meterReport
    exact .modFeeder (fun _ => rfl) fun _ h => h
  generalize s.meterReport f draw = m at *
  exact h.trans (State.Works.eases (.settle (.refl m)))

theorem State.setClock_eases (s : State) (minute : Nat) : s.Eases (s.setClock minute).2 := by
  have h : s.Eases { s with ycs := { s.ycs with minute := min 1439 minute, clockSet := true } } := .of_ca rfl rfl
  unfold State.setClock
  dsimp only
  generalize { s with ycs := { s.ycs with minute := min 1439 minute, clockSet := true } } = m at *
  exact h.trans (State.Works.eases (.callScan (.refl m)))

theorem settled_eases {r : Outcome × State} (h : s.Eases r.2) : s.Eases (settled r).2 :=
  h.trans (settled_works (.refl _)).eases

/-! ### Every owner -/

/-- The owners of the reports, requests, orders and expiries keep the law of the grants. -/
theorem grantLaw_ownersKeep : OwnersKeep State.GrantLaw State.GrantLaw where
  start h := h
  frame e h := h.eases e.eases
  startUp straps _ := State.startUp_grantLaw _ straps
  softReset _ := State.softReset_grantLaw _
  endLoad h := State.endLoad_grantLaw h
  advance order h := State.advance_grantLaw h order
  missPoll a h := h.eases (State.missPoll_eases _ a)
  heardFrom a h := h.eases (State.heardFrom_eases _ a)
  settle h := h.works (.settle (.refl _))
  gateIn _ _ h := h.works (.settle (.gateIn (.refl _)))
  gateOut _ _ h := h.works (.settle (.gateOut (.refl _)))
  laneEntry _ _ _ h := h.works (.settle (.laneEntry (.refl _)))
  laneExit _ _ _ h := h.works (.settle (.laneExit (.refl _)))
  bayArrive _ _ _ h := h.works (.settle (.bayArrive (.refl _)))
  bayDone _ h := h.works (.settle (.bayDone (.refl _)))
  bayFault _ h := h.works (.settle (.bayFault (.refl _)))
  chargerReport c tagged slot soc power fault _ h :=
    (h.eases (State.chargerReport_eases h c tagged slot soc power fault)).works (.settle (.refl _))
  meterReport f draw h := h.eases (State.meterReport_eases _ f draw)
  putStation a p h := h.eases (State.putStationRow_eases _ a p)
  putLane l p h := h.works (State.putLaneRow_works _ l p)
  putCharger c p h := h.eases (State.putChargerRow_eases _ c p)
  putFeeder f p h := h.eases (State.putFeederRow_eases _ f p)
  putBay b p h := h.works (State.putBayRow_works _ b p)
  putFleet v p h := h.eases (State.putFleetRow_eases _ v p)
  putActive i p h := h.works (State.putActiveRow_works _ i p)
  putStandby i p h := h.works (State.putStandbyRow_works _ i p)
  swapNow _ h := h.works (State.swapNow_works _)
  swapAtRollover _ h := h.works (State.swapAtRollover_works _)
  cancelSwap h := h.eases (.of_ca rfl rfl)
  cancelRow i h := h.works (State.cancelRow_works _ i)
  hold v h := h.eases (settled_eases (State.hold_eases _ v))
  unhold v h := h.eases (State.unhold_eases _ v)
  yardSet v l h := h.works (settled_works (State.yardSet_works _ v l))
  yardSetOut v h := h.works (settled_works (State.yardSetOut_works _ v))
  openLane l h := h.works (settled_works (State.openLane_works _ l))
  closeLane l h := h.works (State.orderSetState_works _ l _)
  openBay b h := h.works (State.openBay_works _ b)
  closeBay b h := h.works (State.closeBay_works _ b)
  clearBay b h := h.works (State.clearBay_works _ b)
  clearFeeder f h := h.eases (State.clearFeeder_eases _ f)
  setClock minute h := h.eases (State.setClock_eases _ minute)
  arrivalLapse _ _ h := h.works (.settle (.arrivalLapse (.refl _)))
  noShow _ h := h.works (.settle (.noShow (.refl _)))
  retryBay _ h := h.works (.retryBay (.refl _))
  overstayed _ h := h.works (.overstayed (.refl _))

end

end Sys2Proof.Machine
end

section
/-! The laws of the yard in the form in which the operations keep them: what state and location record say of the footing of a
vehicle, with a set of vehicles under way between two places, to which that does not apply yet. -/

namespace Sys2Proof.Machine

/-! ### Footings (R5, R6) -/

/-- One entry in one lane. -/
def Footing.lone (l : LaneNo) (e : Entry) : Footing :=
  { Footing.none with entries := fun m => if l = m then [e] else [] }

/-- A shifted blocker: PRESENT in its lane, with a reservation in a shunt lane. -/
def Footing.shifted (v : Slot) (l m : LaneNo) : Footing :=
  { Footing.none with entries := fun k =>
      if l = k then [⟨v, .present, Option.none⟩] else if m = k then [⟨v, .expected, Option.none⟩] else [] }

/-- A ticket in a queue. -/
def Footing.queued (k : QueueKind) (t : Ticket) : Footing :=
  { Footing.none with tickets := fun j => if k = j then [t] else [] }

/-- A ticket that a bay holds. -/
def Footing.served (b : BayNo) (t : Ticket) : Footing :=
  { Footing.none with bays := fun c => if b = c then some t else Option.none }

/-- An entry in the wait list. -/
def Footing.waiting (w : WaitEntry) : Footing := { Footing.none with waits := [w] }

/-- The footings that go with a vehicle's state and location record (the tables of R5 and R6), the arrival timers included
(R26). -/
inductive Fits (v : Slot) : VehicleState → Location → Footing → Prop
  | out : Fits v .out .none .none
  | lost : Fits v .lost .none .none
  | moving (target : Option LaneNo) : Fits v .moving (.enRoute target) .none
  | departing : Fits v .departing (.enRoute none) .none
  | inbound (w : WaitEntry) : Fits v .inbound .gate (.waiting w)
  | queued (k : QueueKind) (t : Ticket) : Fits v .service (.queue k) (.queued k t)
  | served (b : BayNo) (t : Ticket) : Fits v .service (.bay b) (.served b t)
  | reserved (l : LaneNo) (n : Nat) : Fits v .toBerth (.lane l .expected none) (.lone l ⟨v, .expected, some n⟩)
  | shifted (l m : LaneNo) (h : l ≠ m) : Fits v .toBerth (.lane l .present (some m)) (.shifted v l m)
  | parked (l : LaneNo) : Fits v .parked (.lane l .present none) (.parked v l)
  | called (l : LaneNo) : Fits v .called (.lane l .present none) (.parked v l)

section
variable {v : Slot} {st : VehicleState} {loc : Location} {f : Footing}

theorem Footing.parked_eq (v : Slot) (l : LaneNo) : Footing.parked v l = .lone l ⟨v, .present, Option.none⟩ := rfl

/-- A vehicle with a wait-list entry is INBOUND and stands nowhere else. -/
theorem Fits.of_waits (h : Fits v st loc f) (hw : f.waits ≠ []) : st = .inbound ∧ loc = .gate ∧ ∃ w, f = .waiting w := by
  cases h
  case inbound w => exact ⟨rfl, rfl, w, rfl⟩
  all_goals exact absurd rfl hw

/-- A vehicle with a WAITING ticket is at its queue and stands nowhere else. -/
theorem Fits.of_ticket (h : Fits v st loc f) {k : QueueKind} {t : Ticket} (ht : t ∈ f.tickets k) :
    st = .service ∧ loc = .queue k ∧ f = .queued k t := by
  cases h
  case queued j u =>
    by_cases hk : j = k
    · subst hk
      obtain rfl : t = u := by simpa [Footing.queued] using ht
      exact ⟨rfl, rfl, rfl⟩
    · simp [Footing.queued, hk] at ht
  all_goals exact absurd ht (by simp [Footing.none, Footing.waiting, Footing.served, Footing.lone, Footing.shifted, Footing.parked])

/-- A vehicle whose ticket a bay holds is at that bay and stands nowhere else. -/
theorem Fits.of_bay (h : Fits v st loc f) {b : BayNo} {t : Ticket} (ht : f.bays b = some t) :
    st = .service ∧ loc = .bay b ∧ f = .served b t := by
  cases h
  case served c u =>
    by_cases hb : c = b
    · subst hb
      obtain rfl : u = t := by simpa [Footing.served] using ht
      exact ⟨rfl, rfl, rfl⟩
    · simp [Footing.served, hb] at ht
  all_goals exact absurd ht (by simp [Footing.none, Footing.waiting, Footing.queued, Footing.lone, Footing.shifted, Footing.parked])

/-- A vehicle with a PRESENT entry is PARKED or CALLED there, or a shifted blocker. -/
theorem Fits.of_present (h : Fits v st loc f) {l : LaneNo} {e : Entry} (he : e ∈ f.entries l) (hp : e.standing = .present) :
    (st = .parked ∨ st = .called) ∧ loc = .lane l .present none ∧ f = .parked v l
      ∨ st = .toBerth ∧ ∃ m, l ≠ m ∧ loc = .lane l .present (some m) ∧ f = .shifted v l m := by
  cases h
  case parked m =>
    by_cases hm : m = l
    · subst hm; exact .inl ⟨.inl rfl, rfl, rfl⟩
    · simp [Footing.parked, hm] at he
  case called m =>
    by_cases hm : m = l
    · subst hm; exact .inl ⟨.inr rfl, rfl, rfl⟩
    · simp [Footing.parked, hm] at he
  case shifted o m hne =>
    by_cases ho : o = l
    · subst ho; exact .inr ⟨rfl, m, hne, rfl, rfl⟩
    · by_cases hm : m = l
      · subst hm
        obtain rfl : e = ⟨v, .expected, none⟩ := by simpa [Footing.shifted, ho] using he
        cases hp
      · simp [Footing.shifted, ho, hm] at he
  case reserved m n =>
    by_cases hm : m = l
    · subst hm
      obtain rfl : e = ⟨v, .expected, some n⟩ := by simpa [Footing.lone] using he
      cases hp
    · simp [Footing.lone, hm] at he
  all_goals exact absurd he (by simp [Footing.none, Footing.waiting, Footing.queued, Footing.served])

/-- A vehicle with an EXPECTED entry is TO_BERTH: it has that reservation alone, or is a shifted blocker. -/
theorem Fits.of_expected (h : Fits v st loc f) {l : LaneNo} {e : Entry} (he : e ∈ f.entries l) (hp : e.standing = .expected) :
    st = .toBerth ∧ ((∃ n, loc = .lane l .expected none ∧ e = ⟨v, .expected, some n⟩ ∧ f = .lone l e)
      ∨ ∃ o, o ≠ l ∧ loc = .lane o .present (some l) ∧ e = ⟨v, .expected, none⟩ ∧ f = .shifted v o l) := by
  cases h
  case reserved m n =>
    by_cases hm : m = l
    · subst hm
      obtain rfl : e = ⟨v, .expected, some n⟩ := by simpa [Footing.lone] using he
      exact ⟨rfl, .inl ⟨n, rfl, rfl, rfl⟩⟩
    · simp [Footing.lone, hm] at he
  case shifted o m hne =>
    by_cases ho : o = l
    · subst ho
      obtain rfl : e = ⟨v, .present, none⟩ := by simpa [Footing.shifted] using he
      cases hp
    · by_cases hm : m = l
      · subst hm
        obtain rfl : e = ⟨v, .expected, none⟩ := by simpa [Footing.shifted, ho] using he
        exact ⟨rfl, .inr ⟨o, ho, rfl, rfl, rfl⟩⟩
      · simp [Footing.shifted, ho, hm] at he
  case parked m | called m =>
    by_cases hm : m = l
    · subst hm
      obtain rfl : e = ⟨v, .present, none⟩ := by simpa [Footing.parked] using he
      cases hp
    · simp [Footing.parked, hm] at he
  all_goals exact absurd he (by simp [Footing.none, Footing.waiting, Footing.queued, Footing.served])

end

/-! ### The parts of the invariant -/

/-- The bound row of a vehicle is a CALLED one. -/
def State.CallHeld (s : State) (v : Slot) : Prop := ∃ r, s.boundPlan v = some r ∧ r.state = .called

/-- A vehicle is where its record says, and its record is sound (R1, R4 to R6, R27, R56). -/
structure State.Stands (s : State) (v : Slot) : Prop where
  fits : Fits v (s.veh v).state (s.veh v).location (s.footing v)
  empty : (s.veh v).tag = 0 → s.veh v = {}
  shift : (s.veh v).shift = true → (s.veh v).state = .toBerth
  blocker : ∀ l m, (s.veh v).location = .lane l .present (some m) → (s.veh v).shift = true
  misorder : s.inSomeLane v = false → (s.veh v).misorder = false
  call : (s.veh v).state = .called ∨ (s.veh v).state = .departing ↔ s.CallHeld v

/-- The lane lists fit their lanes (R22, R24). -/
structure State.LanesFit (s : State) : Prop where
  nodup : ∀ l, ((s.lane l).entries.map Entry.slot).Nodup
  room : ∀ l, s.unitsIn (s.lane l).entries + (s.lane l).front ≤ (s.lane l).cfg.capacity
  front : ∀ l, (s.lane l).cfg.kind = .deadEnd ∨ (s.lane l).entries = [] → (s.lane l).front = 0

/-- Every connected vehicle stands PARKED at its charger (R87, R90). -/
def State.Connects (s : State) : Prop := ∀ c v, (s.charger c).connected = some v → s.parkedAt v c = true

/-- The vehicles with a ticket of a kind, in its queue or in a bay (R60). -/
def State.takenUp (s : State) (k : QueueKind) : Set Slot :=
  { v | (∃ T ∈ s.queue k, T.slot = v) ∨ ∃ b T, (s.bay b).ticket = some T ∧ T.kind = k ∧ T.slot = v }

/-- A bay may hold a ticket, by its kind and its state (R59, R64). -/
def Bay.Suits (r : Bay) (T : Ticket) : Prop :=
  T.kind = r.cfg.kind ∧ T.noShows ≤ 1 ∧ (T.state = .calledToBay ↔ r.state = .calling)
    ∧ (T.state = .inBay ↔ r.state = .busy ∨ r.state = .faultWait)

/-- Queues and bays hold tickets as R59, R60 and R64 say. The limit of R60 is on the vehicles with a ticket, which are as many
as the tickets while each has one. -/
structure State.DeskHolds (s : State) : Prop where
  queued : ∀ k, ∀ t ∈ s.queue k, t.kind = k ∧ t.state = .waiting ∧ t.noShows ≤ 1
  held : ∀ b, (s.bay b).ticket.isSome = true → inUse (s.bay b).state = true
  taken : ∀ b T, (s.bay b).ticket = some T → (s.bay b).Suits T
  limit : ∀ k, (s.takenUp k).ncard ≤ 64

/-- A row of the ACTIVE bank has its bound slot and its marks as its state says (R111, R128, R137). -/
structure PlanRow.Sound (r : PlanRow) : Prop where
  names : r.state = .bound ∨ r.state = .called ∨ r.state = .gone → r.bound.isSome = true
  unnamed : r.state = .planned ∨ r.state = .short ∨ r.state = .cancelled → r.bound = none
  marks : r.blocked = true ∨ r.carried = true → r.state = .called

/-- The plan: bindings agree (R112), a held bus is not bound (R16), and the rows of both banks are sound (R111, R113, R116). -/
structure State.PlanHolds (s : State) : Prop where
  bound : ∀ v i, (s.veh v).boundRow = some i ↔ ∃ r, s.row i = some r ∧ r.binds v = true
  unheld : ∀ v, (s.veh v).held = true → (s.veh v).boundRow = none
  active : ∀ r ∈ s.ds.active, r.Sound
  standby : ∀ r ∈ s.ds.standby, (r.state = .planned ∨ r.state = .bound) ∧ (r.state = .bound ↔ r.bound.isSome = true)
    ∧ (r.blocked || r.carried) = false ∧ ∀ v, r.bound = some v → (s.veh v).tag ≠ 0
  pending : s.ds.swap = .pending → validBank s.ds.standby = true

/-- The invariant of the yard: every vehicle but those of `X`, which are under way, is where its record says; a lane's shift
record names the blocker that has been shifted out of it, or, after that one has left, the lane is owed a shift step or is
one of `L`, whose step is being taken. -/
structure State.Sound (X : Set Slot) (L : Set LaneNo) (s : State) : Prop where
  tags : ∀ v ∈ X, (s.veh v).tag ≠ 0
  stands : ∀ v, v ∉ X → s.Stands v
  blocks : ∀ v, v ∉ X → ∀ l m, (s.veh v).location = .lane l .present (some m) → s.shiftRecord l = .shifting v
  shifts : ∀ l v, s.shiftRecord l = .shifting v →
    s.presentIn l v = true ∧ (v ∉ X → ∃ m, (s.veh v).location = .lane l .present (some m))
    ∨ s.presentIn l v = false ∧ (l ∈ s.ds.stepDue ∨ l ∈ L)
  lanes : s.LanesFit
  connects : s.Connects
  desk : s.DeskHolds
  plan : s.PlanHolds

/-- `t` has the plan and the shift records of `s`, and owes the shift steps that `s` owes. -/
structure State.SamePlan (s t : State) : Prop where
  active : t.ds.active = s.ds.active
  standby : t.ds.standby = s.ds.standby
  swap : t.ds.swap = s.ds.swap
  shifts : t.ds.shifts = s.ds.shifts
  due : ∀ l ∈ s.ds.stepDue, l ∈ t.ds.stepDue
  boundRow : ∀ v, (t.veh v).boundRow = (s.veh v).boundRow

section
variable {s t u : State} {v w : Slot} {l m : LaneNo} {X : Set Slot} {L : Set LaneNo}

/-! ### The plan left alone -/

theorem State.SamePlan.refl (s : State) : s.SamePlan s := ⟨rfl, rfl, rfl, rfl, fun _ h => h, fun _ => rfl⟩

theorem State.SamePlan.trans (h : s.SamePlan t) (k : t.SamePlan u) : s.SamePlan u :=
  ⟨k.active.trans h.active, k.standby.trans h.standby, k.swap.trans h.swap, k.shifts.trans h.shifts,
    fun l hl => k.due l (h.due l hl), fun v => (k.boundRow v).trans (h.boundRow v)⟩

theorem State.SamePlan.of_ds (hd : t.ds = s.ds) (hb : ∀ v, (t.veh v).boundRow = (s.veh v).boundRow) : s.SamePlan t :=
  ⟨by rw [hd], by rw [hd], by rw [hd], by rw [hd], fun l hl => by rw [hd]; exact hl, hb⟩

theorem State.SamePlan.row (h : s.SamePlan t) (i : Nat) : t.row i = s.row i := by simp [State.row, h.active]

theorem State.SamePlan.shiftRecord (h : s.SamePlan t) (l : LaneNo) : t.shiftRecord l = s.shiftRecord l := by
  simp [State.shiftRecord, h.shifts]

theorem State.SamePlan.boundPlan (h : s.SamePlan t) (v : Slot) : t.boundPlan v = s.boundPlan v := by
  have : t.row = s.row := funext h.row
  simp [State.boundPlan, h.boundRow, this]

theorem State.SamePlan.callHeld (h : s.SamePlan t) (v : Slot) : t.CallHeld v ↔ s.CallHeld v := by
  simp [State.CallHeld, h.boundPlan]

theorem State.Works.tag (h : s.Works t) (v : Slot) : (t.veh v).tag = (s.veh v).tag := congrArg Prod.fst (h.badge v)

theorem State.Works.held (h : s.Works t) (v : Slot) : (t.veh v).held = (s.veh v).held :=
  congrArg (fun x => x.2.2.2) (h.badge v)

theorem State.Works.units (h : s.Works t) (v : Slot) : t.units v = s.units v := by
  have : (t.veh v).length = (s.veh v).length := congrArg (fun x => x.2.2.1) (h.badge v)
  simp [State.units, unitsOf, this]

theorem State.Works.cfg (h : s.Works t) (c : ChargerNo) : (t.charger c).cfg = (s.charger c).cfg := by
  rcases h.charger c with e | ⟨e, -, -⟩
  · rw [e]
  · exact e

theorem State.PlanHolds.same (h : s.PlanHolds) (k : s.SamePlan t) (hw : s.Works t) : t.PlanHolds where
  bound v i := by rw [k.boundRow, k.row]; exact h.bound v i
  unheld v := by rw [hw.held, k.boundRow]; exact h.unheld v
  active := by rw [k.active]; exact h.active
  standby := by
    rw [k.standby]
    intro r hr
    obtain ⟨hs, hb, hm, ht⟩ := h.standby r hr
    exact ⟨hs, hb, hm, fun v hv => by rw [hw.tag]; exact ht v hv⟩
  pending := by rw [k.swap, k.standby]; exact h.pending

/-! ### A vehicle, the lanes, the chargers and the desk left alone -/

theorem State.Stands.spared (h : s.Stands v) (k : s.Spares v t) (hc : t.CallHeld v ↔ s.CallHeld v) : t.Stands v where
  fits := by rw [k.veh, k.footing]; exact h.fits
  empty := by rw [k.veh]; exact h.empty
  shift := by rw [k.veh]; exact h.shift
  blocker := by rw [k.veh]; exact h.blocker
  misorder := by rw [k.veh, State.inSomeLane_congr k.footing]; exact h.misorder
  call := by rw [k.veh, hc]; exact h.call

theorem State.unitsIn_congr (hu : ∀ x, t.units x = s.units x) (es : List Entry) : t.unitsIn es = s.unitsIn es := by
  simp [State.unitsIn, hu]

theorem State.LanesFit.congr (h : s.LanesFit) (hl : ∀ m, t.lane m = s.lane m) (hu : ∀ x, t.units x = s.units x) :
    t.LanesFit where
  nodup m := by rw [hl]; exact h.nodup m
  room m := by rw [hl, State.unitsIn_congr hu]; exact h.room m
  front m := by rw [hl]; exact h.front m

theorem State.covers_congr (hl : ∀ m, t.lane m = s.lane m) (hu : ∀ x, t.units x = s.units x) : t.covers = s.covers := by
  funext m x p
  have hpres : t.presentIn m x = s.presentIn m x := by simp [State.presentIn, hl]
  have hfirst (i : Nat) : t.firstPosition m i = s.firstPosition m i := by
    simp only [State.firstPosition, State.unitsIn, hl, hu]
  have hindex : t.entryIndex m x = s.entryIndex m x := by simp only [State.entryIndex, hl]
  simp only [State.covers, hpres, hfirst, hindex, hu]

/-- Connections stand while the lanes stay and the connected vehicles stay PARKED. -/
theorem State.Connects.keep (h : s.Connects) (hw : s.Works t) (hl : t.lanes = s.lanes)
    (hp : ∀ v, (s.veh v).state = .parked → (t.veh v).state = .parked ∨ ∀ c, (t.charger c).connected ≠ some v) :
    t.Connects := by
  intro c v hc
  have hs := h c v (hw.connected hc)
  have hcov := State.covers_congr (fun m => (by simp [State.lane, hl] : t.lane m = s.lane m)) hw.units
  simp only [State.parkedAt, Bool.and_eq_true, decide_eq_true_eq] at hs ⊢
  refine ⟨(hp v hs.1).resolve_right fun hn => hn c hc, ?_⟩
  rw [hcov, hw.cfg]
  exact hs.2

/-- After the check of R90 every connection stands. -/
theorem State.recheckChargers_connects (s : State) : s.recheckChargers.Connects := by
  intro c v hc
  have hs := State.recheckChargers_connected hc
  have hw : s.Works s.recheckChargers := .recheckChargers (.refl s)
  have hy := s.recheckChargers_sameYard
  rw [← hs]
  exact State.parkedAt_congr (hy.veh v) (hy.footing v) hy.lane hw.units (hw.cfg c)

theorem State.DeskHolds.kinds (h : s.DeskHolds) (k : QueueKind) (T : Ticket) (hT : T ∈ s.queue k) : T.kind = k :=
  (h.queued k T hT).1

theorem State.DeskHolds.of_stc (h : s.DeskHolds) (hs : t.stc = s.stc) : t.DeskHolds := by
  have hq (k : QueueKind) : t.queue k = s.queue k := by cases k <;> simp [State.queue, hs]
  have hb (b : BayNo) : t.bay b = s.bay b := by simp [State.bay, hs]
  refine ⟨fun k => by rw [hq]; exact h.queued k, fun b => by rw [hb]; exact h.held b, fun b => by rw [hb]; exact h.taken b,
    fun k => ?_⟩
  have : t.takenUp k = s.takenUp k := by simp only [State.takenUp, hq, hb]
  rw [this]
  exact h.limit k

/-! ### A vehicle under way -/

/-- A vehicle that stands may be treated as under way. -/
theorem State.Sound.lift (h : s.Sound X L) (ht : (s.veh v).tag ≠ 0) : s.Sound (insert v X) L where
  tags w hw := by
    rcases hw with rfl | hw
    · exact ht
    · exact h.tags w hw
  stands w hw := h.stands w fun k => hw (.inr k)
  blocks w hw := h.blocks w fun k => hw (.inr k)
  shifts l w hw := by
    rcases h.shifts l w hw with ⟨hp, hloc⟩ | hgone
    · exact .inl ⟨hp, fun hx => hloc fun k => hx (.inr k)⟩
    · exact .inr hgone
  lanes := h.lanes
  connects := h.connects
  desk := h.desk
  plan := h.plan

/-- A vehicle that was under way stands again. -/
theorem State.Sound.land (h : s.Sound (insert v X) L) (hv : s.Stands v)
    (hb : ∀ l m, (s.veh v).location = .lane l .present (some m) → s.shiftRecord l = .shifting v)
    (hs : ∀ l, s.shiftRecord l = .shifting v → s.presentIn l v = true →
      ∃ m, (s.veh v).location = .lane l .present (some m)) : s.Sound X L where
  tags w hw := h.tags w (.inr hw)
  stands w hw := by
    by_cases e : w = v
    · exact e ▸ hv
    · exact h.stands w fun k => k.elim e hw
  blocks w hw := by
    by_cases e : w = v
    · subst e; exact hb
    · exact h.blocks w fun k => k.elim e hw
  shifts l w hw := by
    rcases h.shifts l w hw with ⟨hp, hloc⟩ | hgone
    · refine .inl ⟨hp, fun hx => ?_⟩
      by_cases e : w = v
      · subst e; exact hs l hw hp
      · exact hloc fun k => k.elim e hx
    · exact .inr hgone
  lanes := h.lanes
  connects := h.connects
  desk := h.desk
  plan := h.plan

/-- Turns of vehicles that are under way: the others, the plan and the shift records are left alone. -/
theorem State.Sound.turns (h : s.Sound X L) (hw : s.Works t) (hk : ∀ w, w ∉ X → s.Spares w t) (hp : s.SamePlan t)
    (hpres : ∀ v ∈ X, ∀ l, s.presentIn l v = true → t.presentIn l v = true ∨ l ∈ t.ds.stepDue)
    (hlanes : t.LanesFit) (hconn : t.Connects) (hdesk : t.DeskHolds) : t.Sound X L where
  tags w hx := by rw [hw.tag]; exact h.tags w hx
  stands w hx := (h.stands w hx).spared (hk w hx) (hp.callHeld w)
  blocks w hx l m hloc := by
    rw [(hk w hx).veh] at hloc
    rw [hp.shiftRecord]
    exact h.blocks w hx l m hloc
  shifts l w hr := by
    rw [hp.shiftRecord] at hr
    have hdue : l ∈ s.ds.stepDue ∨ l ∈ L → l ∈ t.ds.stepDue ∨ l ∈ L := fun k => k.imp (hp.due l) id
    by_cases hx : w ∈ X
    · by_cases ht : t.presentIn l w = true
      · exact .inl ⟨ht, fun hn => absurd hx hn⟩
      · refine .inr ⟨by simpa using ht, ?_⟩
        rcases h.shifts l w hr with ⟨hs, -⟩ | ⟨-, hd⟩
        · exact .inl ((hpres w hx l hs).resolve_left ht)
        · exact hdue hd
    · rw [State.presentIn_congr (hk w hx).footing, (hk w hx).veh]
      exact (h.shifts l w hr).imp id fun k => ⟨k.1, hdue k.2⟩
  lanes := hlanes
  connects := hconn
  desk := hdesk
  plan := h.plan.same hp hw

/-- What touches no vehicle, no lane, no ticket and no plan. -/
theorem State.Sound.quiet (h : s.Sound X L) (hy : s.SameYard t) (hw : s.Works t) : t.Sound X L where
  tags v hx := by rw [hy.veh]; exact h.tags v hx
  stands v hx := (h.stands v hx).spared (hy.spares v) ((State.SamePlan.of_ds hy.ds fun v => by rw [hy.veh]).callHeld v)
  blocks v hx l m := by rw [hy.veh, hy.shiftRecord]; exact h.blocks v hx l m
  shifts l v := by
    rw [hy.shiftRecord, State.presentIn_congr (hy.footing v), hy.veh, hy.ds]
    exact h.shifts l v
  lanes := h.lanes.congr hy.lane hw.units
  connects := h.connects.keep hw hy.lanes fun v hp => .inl (by rw [hy.veh]; exact hp)
  desk := h.desk.of_stc hy.stc
  plan := h.plan.same (State.SamePlan.of_ds hy.ds fun v => by rw [hy.veh]) hw

theorem State.Sound.raise (h : s.Sound X L) {f : EventFlag} : (s.raise f).Sound X L :=
  h.quiet (s.raise_sameYard f) (.raise (.refl s))

theorem State.Sound.notify (h : s.Sound X L) {n : Notice} : (s.notify n).Sound X L :=
  h.quiet (s.notify_sameYard n) (.notify (.refl s))

theorem State.Sound.direct (h : s.Sound X L) {a : Option Addr} {k : DirectiveKind} {p : List Byte} :
    (s.direct a k p).Sound X L := h.quiet (s.direct_sameYard a k p) (.direct (.refl s))

theorem State.Sound.yardConflict (h : s.Sound X L) {x : Slot} {b : VehicleState} {n : Nat} :
    (s.yardConflict x b n).Sound X L := h.quiet (s.yardConflict_sameYard x b n) (.yardConflict (.refl s))

theorem State.Sound.recheckChargers (h : s.Sound X L) : s.recheckChargers.Sound X L :=
  h.quiet s.recheckChargers_sameYard (.recheckChargers (.refl s))

end

end Sys2Proof.Machine
end

section
/-! What the steps of a vehicle under way keep: its record, its entries, its tickets and its place in the wait list may be
written while the others stand (R10, R26, R27, R60). -/

namespace Sys2Proof.Machine

/-- `t` meets the invariant and was reached from `s` by moving vehicles about, the plan being left alone. -/
structure State.Keeps (s : State) (X : Set Slot) (L : Set LaneNo) (t : State) : Prop where
  sound : t.Sound X L
  plan : s.SamePlan t
  works : s.Works t

section
variable {s t u : State} {v w : Slot} {l m : LaneNo} {X : Set Slot} {L : Set LaneNo}

theorem State.Sound.keeps (h : s.Sound X L) : s.Keeps X L s := ⟨h, .refl s, .refl s⟩

theorem State.Keeps.trans (h : s.Keeps X L t) {Y : Set Slot} {K : Set LaneNo} (k : t.Keeps Y K u) : s.Keeps Y K u :=
  ⟨k.sound, h.plan.trans k.plan, h.works.trans k.works⟩

theorem State.Keeps.quiet (h : s.Keeps X L t) (hy : t.SameYard u) (hw : t.Works u) : s.Keeps X L u :=
  ⟨h.sound.quiet hy hw, h.plan.trans (.of_ds hy.ds fun v => by rw [hy.veh]), h.works.trans hw⟩

theorem State.Keeps.raise (h : s.Keeps X L t) {f : EventFlag} : s.Keeps X L (t.raise f) :=
  h.quiet (t.raise_sameYard f) (.raise (.refl t))

theorem State.Keeps.notify (h : s.Keeps X L t) {n : Notice} : s.Keeps X L (t.notify n) :=
  h.quiet (t.notify_sameYard n) (.notify (.refl t))

theorem State.Keeps.direct (h : s.Keeps X L t) {a : Option Addr} {k : DirectiveKind} {p : List Byte} :
    s.Keeps X L (t.direct a k p) := h.quiet (t.direct_sameYard a k p) (.direct (.refl t))

theorem State.Keeps.yardConflict (h : s.Keeps X L t) {x : Slot} {b : VehicleState} {n : Nat} :
    s.Keeps X L (t.yardConflict x b n) := h.quiet (t.yardConflict_sameYard x b n) (.yardConflict (.refl t))

theorem State.Keeps.recheckChargers (h : s.Keeps X L t) : s.Keeps X L t.recheckChargers :=
  h.quiet t.recheckChargers_sameYard (.recheckChargers (.refl t))

/-- A turn of one vehicle that is under way. -/
theorem State.Keeps.turn (h : s.Keeps X L t) (hv : v ∈ X) (hw : t.Works u) (hk : ∀ w, w ≠ v → t.Spares w u)
    (hp : t.SamePlan u) (hpres : ∀ l, t.presentIn l v = true → u.presentIn l v = true ∨ l ∈ u.ds.stepDue)
    (hlanes : u.LanesFit) (hconn : u.Connects) (hdesk : u.DeskHolds) : s.Keeps X L u := by
  refine ⟨h.sound.turns hw (fun w hx => hk w fun e => hx (e ▸ hv)) hp (fun w _ l hl => ?_) hlanes hconn hdesk,
    h.plan.trans hp, h.works.trans hw⟩
  by_cases e : w = v
  · exact e ▸ hpres l (e ▸ hl)
  · exact .inl (by rwa [State.presentIn_congr (hk w e).footing])

theorem State.Keeps.lift (h : s.Keeps X L t) (ht : (t.veh v).tag ≠ 0) : s.Keeps (insert v X) L t :=
  ⟨h.sound.lift ht, h.plan, h.works⟩

theorem State.Keeps.land (h : s.Keeps (insert v X) L t) (hv : t.Stands v)
    (hb : ∀ l m, (t.veh v).location = .lane l .present (some m) → t.shiftRecord l = .shifting v)
    (hs : ∀ l, t.shiftRecord l = .shifting v → t.presentIn l v = true →
      ∃ m, (t.veh v).location = .lane l .present (some m)) : s.Keeps X L t :=
  ⟨h.sound.land hv hb hs, h.plan, h.works⟩

/-! ### Connections of a vehicle (R87, R90) -/

/-- A vehicle that stands PRESENT nowhere is connected to no charger. -/
theorem State.Connects.absent (h : s.Connects) (hp : ∀ l, s.presentIn l v = false) (c : ChargerNo) :
    (s.charger c).connected ≠ some v := by
  intro hc
  have := h c v hc
  simp [State.parkedAt, State.covers, hp] at this

theorem State.presentIn_false_of_entries {f : Footing} (h : s.footing v = f) (hl : ∀ l, f.entries l = []) (l : LaneNo) :
    s.presentIn l v = false := by
  rw [State.presentIn_eq_footing, h, hl]
  rfl

/-! ### The record of a vehicle under way -/

theorem State.modVeh_samePlan {f : Vehicle → Vehicle} (hb : (f (s.veh v)).boundRow = (s.veh v).boundRow) :
    s.SamePlan (s.modVeh v f) :=
  .of_ds rfl fun w => by
    rw [State.modVeh_veh]
    split
    · next e => rw [← e]; exact hb
    · rfl

theorem State.modVeh_spares {f : Vehicle → Vehicle} (h : w ≠ v) : s.Spares w (s.modVeh v f) :=
  ⟨by rw [State.modVeh_veh, if_neg (Ne.symm h)], by simp⟩

theorem State.modVeh_works {f : Vehicle → Vehicle} (hf : (f (s.veh v)).badge = (s.veh v).badge) : s.Works (s.modVeh v f) :=
  ⟨rfl, rfl, fun _ => .inl rfl, fun w => by
    rw [State.modVeh_veh]
    split
    · next e => rw [← e]; exact hf
    · rfl⟩

/-- The record of a vehicle under way may be written but for what names it; one that leaves PARKED has let its charger go. -/
theorem State.Keeps.modVeh (h : s.Keeps X L t) (hv : v ∈ X) {f : Vehicle → Vehicle}
    (hf : (f (t.veh v)).badge = (t.veh v).badge) (hb : (f (t.veh v)).boundRow = (t.veh v).boundRow)
    (hp : (f (t.veh v)).state = .parked ∨ ∀ c, (t.charger c).connected ≠ some v) : s.Keeps X L (t.modVeh v f) := by
  have hw : t.Works (t.modVeh v f) := State.modVeh_works hf
  refine h.turn hv hw (fun w hne => State.modVeh_spares hne) (State.modVeh_samePlan hb)
    (fun l hl => .inl (by rwa [State.presentIn_congr (t.modVeh_footing v f)])) (h.sound.lanes.congr (fun _ => rfl) hw.units)
    (h.sound.connects.keep hw rfl fun w hpark => ?_) (h.sound.desk.of_stc rfl)
  by_cases e : v = w
  · subst e
    rw [State.modVeh_veh, if_pos rfl]
    exact hp
  · rw [State.modVeh_veh, if_neg e]
    exact .inl hpark

/-- A record written with its state kept. -/
theorem State.Keeps.modMarks (h : s.Keeps X L t) (hv : v ∈ X) {f : Vehicle → Vehicle}
    (hf : (f (t.veh v)).badge = (t.veh v).badge) (hb : (f (t.veh v)).boundRow = (t.veh v).boundRow)
    (hs : (f (t.veh v)).state = (t.veh v).state) : s.Keeps X L (t.modVeh v f) := by
  refine h.modVeh hv hf hb ?_
  by_cases hp : (t.veh v).state = .parked
  · exact .inl (hs.trans hp)
  · refine .inr fun c hc => hp ?_
    have := h.sound.connects c v hc
    simp only [State.parkedAt, Bool.and_eq_true, decide_eq_true_eq] at this
    exact this.1

/-! ### Owed shift steps -/

theorem State.oweStep_samePlan (s : State) (l : LaneNo) : s.SamePlan (s.oweStep l) :=
  ⟨by simp, by simp, by simp, by simp, fun m hm => (s.oweStep_stepDue l m).mpr (.inr hm), by simp⟩

theorem State.Sound.grow (h : s.Sound X L) (hf : t.fleet = s.fleet) (hl : t.lanes = s.lanes) (hs : t.stc = s.stc)
    (hw : t.waitList = s.waitList) (hp : s.SamePlan t) (hworks : s.Works t) : t.Sound X L where
  tags v hx := by rw [hworks.tag]; exact h.tags v hx
  stands v hx := (h.stands v hx).spared ⟨by simp [State.veh, hf], State.footing_of_eq hl hs hw v⟩ (hp.callHeld v)
  blocks v hx l m hloc := by
    rw [hp.shiftRecord]
    exact h.blocks v hx l m (by simpa [State.veh, hf] using hloc)
  shifts l v hr := by
    rw [hp.shiftRecord] at hr
    have hv : t.veh v = s.veh v := by simp [State.veh, hf]
    rw [State.presentIn_congr (State.footing_of_eq hl hs hw v), hv]
    exact (h.shifts l v hr).imp id fun k => ⟨k.1, k.2.imp (hp.due l) id⟩
  lanes := h.lanes.congr (fun m => by simp [State.lane, hl]) hworks.units
  connects := h.connects.keep hworks hl fun v hpark => .inl (by simpa [State.veh, hf] using hpark)
  desk := h.desk.of_stc hs
  plan := h.plan.same hp hworks

theorem State.Keeps.oweStep (h : s.Keeps X L t) {l : LaneNo} : s.Keeps X L (t.oweStep l) := by
  have hp := t.oweStep_samePlan l
  have hw : t.Works (t.oweStep l) := .oweStep (.refl t)
  exact ⟨h.sound.grow (by simp) (by simp) (by simp) (by simp) hp hw, h.plan.trans hp, h.works.trans hw⟩

theorem State.Keeps.oweStepAt (h : s.Keeps X L t) {l : Option LaneNo} : s.Keeps X L (t.oweStepAt l) := by
  cases l
  · exact h
  · exact h.oweStep

/-! ### Entries of a vehicle under way -/

/-- The list of a lane is written for a vehicle under way: the entries of the others stay, and the list fits. -/
theorem State.Keeps.relist (h : s.Keeps X L t) (hv : v ∈ X) {es : List Entry} {front : Nat} (hw : t.Works u)
    (hk : ∀ w, w ≠ v → t.Spares w u) (hp : t.SamePlan u) (hself : ∀ m, m ≠ l → u.presentIn m v = t.presentIn m v)
    (hl : ∀ m, u.lane m = if l = m then { t.lane l with front := front, entries := es } else t.lane m)
    (hdue : l ∈ u.ds.stepDue) (hs : u.stc = t.stc) (hc : u.Connects) (hn : (es.map Entry.slot).Nodup)
    (hroom : t.unitsIn es + front ≤ (t.lane l).cfg.capacity)
    (hfront : (t.lane l).cfg.kind = .deadEnd ∨ es = [] → front = 0) : s.Keeps X L u := by
  refine h.turn hv hw hk hp (fun m hm => ?_) ⟨fun m => ?_, fun m => ?_, fun m => ?_⟩ hc (h.sound.desk.of_stc hs)
  · by_cases e : m = l
    · exact .inr (e ▸ hdue)
    · exact .inl (by rw [hself m e]; exact hm)
  all_goals
    rw [hl]
    split
  · exact hn
  · exact h.sound.lanes.nodup m
  · rw [State.unitsIn_congr hw.units]; exact hroom
  · rw [State.unitsIn_congr hw.units]; exact h.sound.lanes.room m
  · exact hfront
  · exact h.sound.lanes.front m

theorem State.writeEntries_connects (s : State) (l : LaneNo) (es : List Entry) : (s.writeEntries l es).Connects :=
  State.recheckChargers_connects _

theorem State.writeEntries_samePlan (s : State) (l : LaneNo) (es : List Entry) : s.SamePlan (s.writeEntries l es) := by
  have hd := s.writeEntries_ds l es
  have hp := s.oweStep_samePlan l
  exact ⟨by rw [hd]; exact hp.active, by rw [hd]; exact hp.standby, by rw [hd]; exact hp.swap, by rw [hd]; exact hp.shifts,
    fun m hm => by rw [hd]; exact hp.due m hm, by simp⟩

theorem State.writeEntries_due (s : State) (l : LaneNo) (es : List Entry) : l ∈ (s.writeEntries l es).ds.stepDue := by
  rw [State.writeEntries_ds, State.oweStep_stepDue]
  exact .inl rfl

theorem State.writeEntries_presentIn (s : State) (es : List Entry) (h : m ≠ l) (v : Slot) :
    (s.writeEntries l es).presentIn m v = s.presentIn m v := by
  simp [State.presentIn, Ne.symm h]

/-- A list written with the front kept. -/
theorem State.Keeps.writeEntries (h : s.Keeps X L t) (hv : v ∈ X) {es : List Entry}
    (hk : ∀ w, w ≠ v → es.filter (fun e => e.slot = w) = (t.lane l).entries.filter fun e => e.slot = w)
    (hn : (es.map Entry.slot).Nodup) (hroom : t.unitsIn es + (t.lane l).front ≤ (t.lane l).cfg.capacity) (hne : es ≠ []) :
    s.Keeps X L (t.writeEntries l es) := by
  refine h.relist hv (l := l) (es := es) (front := (t.lane l).front) (.writeEntries (.refl t))
    (fun w hw => State.writeEntries_spares _ (hk w hw))
    (t.writeEntries_samePlan l es) (fun m hm => t.writeEntries_presentIn es hm v) (fun m => ?_) (t.writeEntries_due l es)
    (by simp) (t.writeEntries_connects l es) hn hroom fun hf => ?_
  · rw [State.writeEntries_lane]
  · exact h.sound.lanes.front l (hf.imp id fun e => absurd e hne)

theorem State.unitsIn_append (s : State) (a b : List Entry) : s.unitsIn (a ++ b) = s.unitsIn a + s.unitsIn b := by
  simp [State.unitsIn]

theorem State.unitsIn_cons (s : State) (e : Entry) (es : List Entry) :
    s.unitsIn (e :: es) = s.units e.slot + s.unitsIn es := by simp [State.unitsIn]

theorem State.unitsIn_perm (s : State) {a b : List Entry} (h : a.Perm b) : s.unitsIn a = s.unitsIn b :=
  (h.map _).sum_eq

theorem State.entry_none_iff : s.entry l v = none ↔ v ∉ (s.lane l).entries.map Entry.slot := by
  simp [State.entry]

/-- A vehicle under way with no entry in a lane that has room gets one, at either end of the list. -/
theorem State.Keeps.addEntry (h : s.Keeps X L t) (hv : v ∈ X) {e : Entry} (he : e.slot = v) (hno : t.entry l v = none)
    (hroom : t.units v ≤ t.room l) {es : List Entry}
    (hes : es = (t.lane l).entries ++ [e] ∨ es = e :: (t.lane l).entries) : s.Keeps X L (t.writeEntries l es) := by
  have hfit := h.sound.lanes.room l
  rw [State.entry_none_iff] at hno
  have hperm : es.Perm (e :: (t.lane l).entries) := by
    rcases hes with rfl | rfl
    · exact List.perm_append_comm
    · rfl
  refine h.writeEntries hv (fun w hw => ?_) ?_ ?_ ?_
  · rcases hes with rfl | rfl <;> simp [he, Ne.symm hw]
  · rw [(hperm.map _).nodup_iff, List.map_cons, List.nodup_cons, he]
    exact ⟨hno, h.sound.lanes.nodup l⟩
  · rw [State.unitsIn_perm _ hperm, State.unitsIn_cons, he]
    simp only [State.room] at hroom
    omega
  · rcases hes with rfl | rfl <;> simp

theorem State.Keeps.addAtTail (h : s.Keeps X L t) (hv : v ∈ X) {e : Entry} (he : e.slot = v) (hno : t.entry l v = none)
    (hroom : t.units v ≤ t.room l) : s.Keeps X L (t.addAtTail l e) :=
  h.addEntry hv he hno hroom (.inl rfl)

theorem State.Keeps.addAtJoinEnd (h : s.Keeps X L t) (hv : v ∈ X) {e : Entry} (he : e.slot = v) (hno : t.entry l v = none)
    (hroom : t.units v ≤ t.room l) : s.Keeps X L (t.addAtJoinEnd l e) := by
  rw [State.addAtJoinEnd_eq]
  refine h.addEntry hv he hno hroom ?_
  cases (t.lane l).cfg.kind
  · exact .inl rfl
  · exact .inr rfl

/-- What a removal leaves of the units and the front of a lane is no more than what it took up (R24). -/
theorem State.removal_fits (h : s.LanesFit) {e : Entry} (he : s.entry l v = some e) (atMouth : Bool) :
    s.unitsIn ((s.lane l).entries.filter fun e => e.slot ≠ v)
      + frontAfter (s.lane l) atMouth (s.units v) ((s.lane l).entries.filter fun e => e.slot ≠ v)
      ≤ (s.lane l).cfg.capacity := by
  have hroom := h.room l
  have hslot : e.slot = v := by simpa using List.find?_some he
  have hsplit : s.unitsIn (s.lane l).entries
      = s.unitsIn ((s.lane l).entries.filter fun e => e.slot = v) + s.unitsIn ((s.lane l).entries.filter fun e => e.slot ≠ v) := by
    rw [← State.unitsIn_append]
    refine s.unitsIn_perm ?_
    convert (List.filter_append_perm (fun e => decide (e.slot = v)) (s.lane l).entries).symm using 3
    simp
  have hpos : s.units v ≤ s.unitsIn ((s.lane l).entries.filter fun e => e.slot = v) := by
    have hmem : e ∈ (s.lane l).entries.filter fun e => e.slot = v :=
      List.mem_filter.mpr ⟨List.mem_of_find?_eq_some he, by simpa using hslot⟩
    have hle := List.single_le_sum (fun _ _ => Nat.zero_le _) _ (List.mem_map_of_mem (f := fun e => s.units e.slot) hmem)
    rwa [hslot] at hle
  unfold frontAfter
  split
  · omega
  · split
    · omega
    · split <;> omega

theorem frontAfter_zero {r : Lane} {atMouth : Bool} {n : Nat} {rest : List Entry}
    (h : r.cfg.kind = .deadEnd ∨ rest = []) : frontAfter r atMouth n rest = 0 := by
  unfold frontAfter
  split
  · rfl
  · next hk =>
    rw [if_pos (h.resolve_left (by simp [hk]))]

theorem State.clearMarksAfter_keeps (h : s.Keeps X L t) (hv : v ∈ X) (st : Standing) :
    s.Keeps X L (t.clearMarksAfter v st) := by
  have hspec := t.clearMarksAfter_spec v st
  obtain ⟨a, m, hself⟩ := hspec.veh
  have hw : t.Works (t.clearMarksAfter v st) := .clearMarksAfter (.refl t)
  have hfoot (w : Slot) := t.clearMarksAfter_footing (v := w) v st
  have hveh (w : Slot) : ∃ a m, (t.clearMarksAfter v st).veh w = { t.veh w with shift := a, misorder := m } := by
    by_cases e : v = w
    · exact e ▸ ⟨a, m, hself⟩
    · exact ⟨_, _, hspec.others w e⟩
  refine h.turn hv hw (fun w hne => ⟨hspec.others w (Ne.symm hne), hfoot w⟩)
    (.of_ds (by rw [hspec.core]) fun w => ?_) (fun l hl => .inl (by rwa [State.presentIn_congr (hfoot v)]))
    (h.sound.lanes.congr hspec.lane hw.units)
    (h.sound.connects.keep hw (by rw [hspec.core]) fun w hpark => .inl ?_)
    (h.sound.desk.of_stc (by rw [hspec.core]))
  · obtain ⟨a, m, e⟩ := hveh w
    rw [e]
  · obtain ⟨a, m, e⟩ := hveh w
    rw [e]
    exact hpark

/-- An entry of a vehicle under way is removed (R27). -/
theorem State.Keeps.removeEntry (h : s.Keeps X L t) (hv : v ∈ X) : s.Keeps X L (t.removeEntry l v) := by
  cases he : t.entry l v with
  | none => rw [t.removeEntry_none he]; exact h
  | some e =>
    have hfits := State.removal_fits h.sound.lanes he (decide (t.entryIndex l v = 0) && decide (e.standing = .present))
    have hspare (w : Slot) (hw : w ≠ v) := t.removeEntry_spares (v := w) l (Ne.symm hw)
    unfold State.removeEntry
    rw [he]
    dsimp only
    refine State.clearMarksAfter_keeps ?_ hv _
    generalize hrest : ((t.lane l).entries.filter fun e => e.slot ≠ v) = rest at *
    generalize hfr : frontAfter (t.lane l) _ (t.units v) rest = fr at *
    have hw : t.Works (t.modLane l fun r => { r with front := fr }) := .modLane (.refl t)
    have hp : t.SamePlan (t.modLane l fun r => { r with front := fr }) := .of_ds rfl fun _ => rfl
    refine h.relist hv (l := l) (es := rest) (front := fr) (.writeEntries hw) (fun w hne => ?_)
      (hp.trans (State.writeEntries_samePlan _ l rest)) (fun m hm => ?_) (fun m => ?_)
      (State.writeEntries_due _ l rest) (by simp [State.modLane_eq]) (State.writeEntries_connects _ l rest) ?_ hfits
      fun hk => ?_
    · refine ⟨by simp [State.modLane_eq], ?_⟩
      rw [State.writeEntries_footing, State.modLane_footing]
      ext1 <;> try rfl
      funext m
      dsimp only
      split
      · next e =>
        subst e
        rw [← hrest, List.filter_filter]
        simp only [State.footing]
        congr 1
        funext x
        by_cases hx : x.slot = w <;> simp [hx, hne]
      · rfl
    · rw [State.writeEntries_presentIn _ _ hm]
      simp [State.presentIn, Ne.symm hm]
    · rw [State.writeEntries_lane]
      split
      · simp
      · next e => simp [e]
    · rw [← hrest]
      exact ((List.filter_sublist).map _).nodup (h.sound.lanes.nodup l)
    · rw [← hfr]
      exact frontAfter_zero hk

theorem State.Keeps.removeEntries (h : s.Keeps X L t) (hv : v ∈ X) {keep : Option LaneNo} :
    s.Keeps X L (t.removeEntries v keep) := by
  unfold State.removeEntries
  refine forEach_keeps (s.Keeps X L) _ _ t h fun l _ u hu => ?_
  split
  · exact hu
  · exact hu.removeEntry hv

end

end Sys2Proof.Machine
end

section
/-! What tickets, the wait list and reservations keep of the invariant (R48 to R53, R60, R61, R66 to R68). -/

namespace Sys2Proof.Machine

section
variable {s t u : State} {v w : Slot} {l m : LaneNo} {X : Set Slot} {L : Set LaneNo} {k : QueueKind} {b : BayNo}

/-! ### Tickets and wait-list entries of a vehicle under way -/

/-- What changes neither records nor lanes nor the plan, and no footing but those of vehicles under way. -/
theorem State.Keeps.still (h : s.Keeps X L t) (hw : t.Works u) (hf : u.fleet = t.fleet) (hl : u.lanes = t.lanes)
    (hd : u.ds = t.ds) (hfoot : ∀ w, w ∉ X → u.footing w = t.footing w) (hdesk : u.DeskHolds) : s.Keeps X L u := by
  have hveh (w : Slot) : u.veh w = t.veh w := by simp [State.veh, hf]
  have hlane (m : LaneNo) : u.lane m = t.lane m := by simp [State.lane, hl]
  have hp : t.SamePlan u := .of_ds hd fun w => by rw [hveh]
  exact ⟨h.sound.turns hw (fun w hx => ⟨hveh w, hfoot w hx⟩) hp
    (fun w _ m hm => .inl (by simpa [State.presentIn, hlane] using hm)) (h.sound.lanes.congr hlane hw.units)
    (h.sound.connects.keep hw hl fun w hp => .inl (by rw [hveh]; exact hp)) hdesk, h.plan.trans hp, h.works.trans hw⟩

theorem State.Keeps.leaveWaitList (h : s.Keeps X L t) (hv : v ∈ X) : s.Keeps X L (t.leaveWaitList v) :=
  h.still (.leaveWaitList (.refl t)) rfl rfl rfl
    (fun w hx => (t.leaveWaitList_spares (w := v) (v := w) fun e => hx (e ▸ hv)).footing)
    (h.sound.desk.of_stc rfl)

theorem State.appendWait_footing (s : State) (e : WaitEntry) (w : Slot) :
    ({ s with waitList := s.waitList ++ [e] } : State).footing w =
      { s.footing w with waits := (s.footing w).waits ++ if e.slot = w then [e] else [] } := by
  ext1 <;> try rfl
  simp [State.footing, List.filter_cons]

theorem State.Keeps.appendWait (h : s.Keeps X L t) (hv : v ∈ X) {e : WaitEntry} (he : e.slot = v) :
    s.Keeps X L { t with waitList := t.waitList ++ [e] } := by
  refine h.still (.waitList (.refl t)) rfl rfl rfl (fun w hx => ?_) (h.sound.desk.of_stc rfl)
  have hne : v ≠ w := fun e => hx (e ▸ hv)
  rw [State.appendWait_footing, he, if_neg hne, List.append_nil]

theorem State.takenUp_subset {Y : Set Slot} (hq : ∀ T ∈ s.queue k, T.slot ∈ Y)
    (hb : ∀ b T, (s.bay b).ticket = some T → T.kind = k → T.slot ∈ Y) : s.takenUp k ⊆ Y := by
  rintro v (⟨T, hT, rfl⟩ | ⟨b, T, hT, hk, rfl⟩)
  · exact hq T hT
  · exact hb b T hT hk

theorem State.mem_takenUp_queue {T : Ticket} (hT : T ∈ s.queue k) : T.slot ∈ s.takenUp k := .inl ⟨T, hT, rfl⟩

theorem State.mem_takenUp_bay {T : Ticket} (hT : (s.bay b).ticket = some T) : T.slot ∈ s.takenUp T.kind :=
  .inr ⟨b, T, hT, rfl, rfl⟩

theorem State.DeskHolds.within (h : s.DeskHolds) {Y : Set Slot} (hY : Y ⊆ s.takenUp k) : Y.ncard ≤ 64 :=
  (Set.ncard_le_ncard hY (Set.toFinite _)).trans (h.limit k)

/-- A vehicle with a ticket may have another for it. -/
theorem State.DeskHolds.within_insert (h : s.DeskHolds) (hv : v ∈ s.takenUp k) : (insert v (s.takenUp k)).ncard ≤ 64 :=
  h.within (Set.insert_subset hv subset_rfl)

/-- A queue is written, with tickets of vehicles within the limit (R60). -/
theorem State.DeskHolds.setQueue (h : s.DeskHolds) {q : List Ticket} {Y : Set Slot} (hY : Y.ncard ≤ 64)
    (hs : s.takenUp k ⊆ Y) (hq : ∀ t ∈ q, t.kind = k ∧ t.state = .waiting ∧ t.noShows ≤ 1) (hqY : ∀ t ∈ q, t.slot ∈ Y) :
    (s.setQueue k q).DeskHolds where
  queued j := by
    rw [State.setQueue_queue]
    split
    · next e => exact e ▸ hq
    · exact h.queued j
  held b := by simpa using h.held b
  taken b := by simpa using h.taken b
  limit j := by
    by_cases e : k = j
    · subst e
      refine (Set.ncard_le_ncard (State.takenUp_subset (fun T hT => ?_) fun b T hT hk => hs ?_) (Set.toFinite _)).trans hY
      · rw [State.setQueue_queue, if_pos rfl] at hT
        exact hqY T hT
      · rw [State.setQueue_bay] at hT
        exact hk ▸ State.mem_takenUp_bay hT
    · refine h.within (k := j) (State.takenUp_subset (fun T hT => ?_) fun b T hT hk => ?_)
      · rw [State.setQueue_queue, if_neg e] at hT
        exact State.mem_takenUp_queue hT
      · rw [State.setQueue_bay] at hT
        exact hk ▸ State.mem_takenUp_bay hT

/-- A queue that loses tickets, or changes its order. -/
theorem State.DeskHolds.fewer (h : s.DeskHolds) {q : List Ticket} (hq : ∀ t ∈ q, t ∈ s.queue k) :
    (s.setQueue k q).DeskHolds :=
  h.setQueue (h.limit k) subset_rfl (fun t ht => h.queued k t (hq t ht)) fun t ht => State.mem_takenUp_queue (hq t ht)

/-- A bay is written; its ticket, if any, suits it, and is of a vehicle within the limit. -/
theorem State.DeskHolds.modBay (h : s.DeskHolds) {f : Bay → Bay}
    (hheld : (f (s.bay b)).ticket.isSome = true → inUse (f (s.bay b)).state = true)
    (hsuits : ∀ T, (f (s.bay b)).ticket = some T → (f (s.bay b)).Suits T)
    (hlimit : ∀ T, (f (s.bay b)).ticket = some T → (insert T.slot (s.takenUp T.kind)).ncard ≤ 64) :
    (s.modBay b f).DeskHolds where
  queued j := by
    have : (s.modBay b f).queue j = s.queue j := by simp [State.modBay_eq]
    rw [this]
    exact h.queued j
  held c := by
    rw [State.modBay_bay]
    split
    · next e => subst e; exact hheld
    · exact h.held c
  taken c := by
    rw [State.modBay_bay]
    split
    · next e => subst e; exact hsuits
    · exact h.taken c
  limit j := by
    have hqueue : ∀ T ∈ (s.modBay b f).queue j, T.slot ∈ s.takenUp j := fun T hT =>
      State.mem_takenUp_queue (by simpa [State.modBay_eq] using hT)
    have hbay : ∀ c T, ((s.modBay b f).bay c).ticket = some T → T.kind = j →
        (f (s.bay b)).ticket = some T ∨ T.slot ∈ s.takenUp j := fun c T hT hk => by
      rw [State.modBay_bay] at hT
      split at hT
      · next e => subst e; exact .inl hT
      · exact .inr (hk ▸ State.mem_takenUp_bay hT)
    by_cases hnew : ∃ T, (f (s.bay b)).ticket = some T ∧ T.kind = j
    · obtain ⟨U, hU, rfl⟩ := hnew
      refine (Set.ncard_le_ncard (State.takenUp_subset (fun T hT => .inr (hqueue T hT)) fun c T hT hk => ?_)
        (Set.toFinite _)).trans (hlimit U hU)
      rcases hbay c T hT hk with hn | hs
      · rw [hU] at hn
        cases hn
        exact .inl rfl
      · exact .inr hs
    · refine h.within (State.takenUp_subset hqueue fun c T hT hk => ?_)
      exact (hbay c T hT hk).resolve_left fun hn => hnew ⟨T, hn, hk⟩

/-- A bay gives up its ticket. -/
theorem State.DeskHolds.freeBay (h : s.DeskHolds) {f : Bay → Bay} (hf : (f (s.bay b)).ticket = none) :
    (s.modBay b f).DeskHolds :=
  h.modBay (fun hs => by rw [hf] at hs; cases hs) (fun T hT => by rw [hf] at hT; cases hT)
    fun T hT => by rw [hf] at hT; cases hT

/-- A bay keeps its ticket. -/
theorem State.DeskHolds.sameTicket (h : s.DeskHolds) {f : Bay → Bay} (hf : (f (s.bay b)).ticket = (s.bay b).ticket)
    (hheld : (f (s.bay b)).ticket.isSome = true → inUse (f (s.bay b)).state = true)
    (hsuits : ∀ T, (s.bay b).Suits T → (s.bay b).ticket = some T → (f (s.bay b)).Suits T) : (s.modBay b f).DeskHolds :=
  h.modBay hheld (fun T hT => hsuits T (h.taken b T (hf ▸ hT)) (hf ▸ hT)) fun _ hT =>
    h.within_insert (State.mem_takenUp_bay (hf ▸ hT))

theorem State.Keeps.dequeue (h : s.Keeps X L t) (hv : v ∈ X) : s.Keeps X L (t.dequeue k v) :=
  h.still (.dequeue (.refl t)) (by simp [State.dequeue]) (by simp [State.dequeue]) (by simp [State.dequeue])
    (fun w hx => (t.dequeue_spares (w := v) (v := w) k fun e => hx (e ▸ hv)).footing)
    (h.sound.desk.fewer fun _ hT => List.mem_of_mem_filter hT)

theorem State.dequeue_takenUp (s : State) (k : QueueKind) (v : Slot) (j : QueueKind) :
    (s.dequeue k v).takenUp j ⊆ s.takenUp j := by
  refine State.takenUp_subset (fun T hT => ?_) fun b T hT hk => ?_
  · rw [State.dequeue_queue] at hT
    split at hT
    · next e => exact e ▸ State.mem_takenUp_queue (List.mem_of_mem_filter hT)
    · exact State.mem_takenUp_queue hT
  · rw [State.dequeue, State.setQueue_bay] at hT
    exact hk ▸ State.mem_takenUp_bay hT

theorem State.modBay_takenUp (s : State) {f : Bay → Bay} (hf : (f (s.bay b)).ticket = (s.bay b).ticket) (k : QueueKind) :
    (s.modBay b f).takenUp k ⊆ s.takenUp k := by
  refine State.takenUp_subset (fun T hT => State.mem_takenUp_queue (by simpa [State.modBay_eq] using hT))
    fun c T hT hk => hk ▸ State.mem_takenUp_bay (b := c) ?_
  rw [State.modBay_bay] at hT
  split at hT
  · next e => subst e; exact hf ▸ hT
  · exact hT

theorem State.insertTicket_filter_ne {T : Ticket} (hT : T.slot ≠ w) (q : List Ticket) :
    (s.insertTicket T q).filter (fun t => t.slot = w) = q.filter fun t => t.slot = w := by
  induction q with
  | nil => simp [State.insertTicket, hT]
  | cons x rest ih =>
    simp only [State.insertTicket]
    split
    · simp [hT]
    · simp only [List.filter_cons, ih]

theorem State.insertTicket_filter_self {T : Ticket} (hT : T.slot = v) {q : List Ticket}
    (hq : q.filter (fun t => t.slot = v) = []) : (s.insertTicket T q).filter (fun t => t.slot = v) = [T] := by
  have hlen := ((s.insertTicket_perm T q).filter fun t => t.slot = v)
  rw [List.filter_cons, if_pos (by simpa using hT), hq] at hlen
  exact List.perm_singleton.mp hlen

/-- A bay whose ticket stays, or goes from one vehicle under way to another, or to none. -/
theorem State.Keeps.modBay (h : s.Keeps X L t) {f : Bay → Bay}
    (hticket : (f (t.bay b)).ticket = (t.bay b).ticket
      ∨ (∀ T, (t.bay b).ticket = some T → T.slot ∈ X) ∧ ∀ T, (f (t.bay b)).ticket = some T → T.slot ∈ X)
    (hdesk : (t.modBay b f).DeskHolds) : s.Keeps X L (t.modBay b f) := by
  refine h.still (.modBay (.refl t)) rfl rfl rfl (fun w hx => ?_) hdesk
  rw [State.modBay_footing]
  have hnone {o : Option Ticket} (ho : ∀ T, o = some T → T.slot ∈ X) : o.filter (fun t => t.slot = w) = none := by
    cases o with
    | none => rfl
    | some T =>
      have hne : T.slot ≠ w := fun e => hx (e ▸ ho T rfl)
      simp [Option.filter, hne]
  ext1 <;> try rfl
  funext c
  dsimp only
  split
  · next e =>
    subst e
    rcases hticket with hsame | ⟨hold, hnew⟩
    · rw [hsame]; rfl
    · exact (hnone hnew).trans (hnone hold).symm
  · rfl

/-! ### Vehicles that stand, by where they stand -/

theorem State.Stands.tag (h : s.Stands v) (hs : (s.veh v).state ≠ .out) : (s.veh v).tag ≠ 0 := fun h0 => by
  rw [h.empty h0] at hs
  exact hs rfl

theorem State.mem_footing_waits {e : WaitEntry} (he : e ∈ s.waitList) : e ∈ (s.footing e.slot).waits := by
  simp [State.footing, he]

theorem State.mem_footing_tickets {T : Ticket} (hT : T ∈ s.queue k) : T ∈ (s.footing T.slot).tickets k := by
  simp [State.footing, hT]

theorem State.footing_bays {T : Ticket} (hT : (s.bay b).ticket = some T) : (s.footing T.slot).bays b = some T := by
  simp [State.footing, hT]

theorem State.mem_footing_entries {e : Entry} (he : e ∈ (s.lane l).entries) : e ∈ (s.footing e.slot).entries l := by
  simp [State.footing, he]

theorem State.Stands.waiting (h : s.Stands v) {e : WaitEntry} (he : e ∈ s.waitList) (hv : e.slot = v) :
    (s.veh v).state = .inbound ∧ (s.veh v).location = .gate ∧ ∃ w, s.footing v = .waiting w := by
  subst hv
  exact h.fits.of_waits (List.ne_nil_of_mem (State.mem_footing_waits he))

theorem State.Stands.ticket (h : s.Stands v) {T : Ticket} (hT : T ∈ s.queue k) (hv : T.slot = v) :
    (s.veh v).state = .service ∧ (s.veh v).location = .queue k ∧ s.footing v = .queued k T := by
  subst hv
  exact h.fits.of_ticket (State.mem_footing_tickets hT)

theorem State.Stands.inBay (h : s.Stands v) {T : Ticket} (hT : (s.bay b).ticket = some T) (hv : T.slot = v) :
    (s.veh v).state = .service ∧ (s.veh v).location = .bay b ∧ s.footing v = .served b T := by
  subst hv
  exact h.fits.of_bay (State.footing_bays hT)

/-- No vehicle has two tickets in a queue (R59). -/
theorem State.Sound.tickets_le_one (h : s.Sound ∅ L) (k : QueueKind) (v : Slot) :
    ((s.queue k).filter fun t => t.slot = v).length ≤ 1 := by
  match hq : (s.queue k).filter fun t => t.slot = v with
  | [] => rw [hq]; simp
  | [T] => rw [hq]; simp
  | T :: U :: rest =>
    have hmem : T ∈ (s.queue k).filter fun t => t.slot = v := by rw [hq]; simp
    obtain ⟨hT, hv⟩ := List.mem_filter.mp hmem
    obtain ⟨-, -, hf⟩ := (h.stands v id).ticket hT (by simpa using hv)
    have hself : (s.footing v).tickets k = T :: U :: rest := hq
    rw [hf] at hself
    simp [Footing.queued] at hself

theorem State.Sound.queueSlots_nodup (h : s.Sound ∅ L) (k : QueueKind) : ((s.queue k).map Ticket.slot).Nodup := by
  rw [List.nodup_iff_count_le_one]
  intro v
  rw [List.count_eq_countP, List.countP_map, List.countP_eq_length_filter]
  convert h.tickets_le_one k v using 3
  funext T
  rw [Bool.eq_iff_iff]
  simp

/-- A vehicle that is neither TO_BERTH nor in a lane has no marks. -/
theorem State.Stands.shift_false (h : s.Stands v) (hs : (s.veh v).state ≠ .toBerth) : (s.veh v).shift = false := by
  by_contra hne
  exact hs (h.shift (by simpa using hne))

/-- A vehicle that is not on call has no CALLED row. -/
theorem State.Stands.notCalled (h : s.Stands v) (hs : onCall (s.veh v) = false) : ¬ s.CallHeld v := fun hc => by
  have := h.call.mpr hc
  rw [← onCall_iff, hs] at this
  cases this

/-! ### A vehicle under way that has left every place -/

/-- A vehicle stands nowhere, has no mark and is not on call. -/
structure State.Afoot (s : State) (v : Slot) : Prop where
  footing : s.footing v = .none
  shift : (s.veh v).shift = false
  misorder : (s.veh v).misorder = false
  call : ¬ s.CallHeld v

theorem State.Afoot.spared (h : s.Afoot v) (k : s.Spares v t) (hp : s.SamePlan t) : t.Afoot v :=
  ⟨by rw [k.footing]; exact h.footing, by rw [k.veh]; exact h.shift, by rw [k.veh]; exact h.misorder,
    by rw [hp.callHeld]; exact h.call⟩

theorem State.Afoot.modVeh (h : s.Afoot v) {f : Vehicle → Vehicle} (hs : (f (s.veh v)).shift = (s.veh v).shift)
    (hm : (f (s.veh v)).misorder = (s.veh v).misorder) (hb : (f (s.veh v)).boundRow = (s.veh v).boundRow) :
    (s.modVeh v f).Afoot v :=
  ⟨by rw [State.modVeh_footing]; exact h.footing, by rw [State.modVeh_veh, if_pos rfl, hs]; exact h.shift,
    by rw [State.modVeh_veh, if_pos rfl, hm]; exact h.misorder, by
      rw [(State.modVeh_samePlan hb).callHeld]; exact h.call⟩

theorem State.Afoot.presentIn (h : s.Afoot v) (l : LaneNo) : s.presentIn l v = false :=
  State.presentIn_false_of_entries h.footing (fun _ => rfl) l

theorem State.Afoot.unconnected (h : s.Afoot v) (hk : s.Connects) (c : ChargerNo) : (s.charger c).connected ≠ some v :=
  hk.absent h.presentIn c

theorem State.Works.unconnected (hw : s.Works t) (h : ∀ c, (s.charger c).connected ≠ some v) (c : ChargerNo) :
    (t.charger c).connected ≠ some v := fun hc => h c (hw.connected hc)

/-- A vehicle that has come to stand, not PRESENT in a lane. -/
theorem State.Keeps.arrive (h : s.Keeps (insert v X) L t) (hv : t.Stands v) (hp : ∀ l, t.presentIn l v = false) :
    s.Keeps X L t := by
  refine h.land hv (fun l m hloc => ?_) fun l _ hpres => by rw [hp] at hpres; cases hpres
  have hfits := hv.fits
  rw [hloc] at hfits
  generalize hst : (t.veh v).state = st at hfits
  generalize hfoot : t.footing v = f at hfits
  cases hfits
  have := hp l
  rw [State.presentIn_eq_footing, hfoot] at this
  simp [Footing.shifted] at this

/-- What a vehicle under way must be to stand with a footing that has no PRESENT entry. -/
theorem State.Keeps.standing (h : s.Keeps (insert v X) L t) (hfits : Fits v (t.veh v).state (t.veh v).location (t.footing v))
    (hs : (t.veh v).shift = false) (hp : ∀ l, t.presentIn l v = false)
    (hm : t.inSomeLane v = false → (t.veh v).misorder = false)
    (hcall : (t.veh v).state = .called ∨ (t.veh v).state = .departing ↔ t.CallHeld v) : s.Keeps X L t := by
  refine h.arrive ⟨hfits, fun h0 => absurd h0 (h.sound.tags v (.inl rfl)), fun h1 => ?_, fun l m hloc => ?_, hm, hcall⟩ hp
  · rw [hs] at h1; cases h1
  · rw [hloc] at hfits
    generalize hst : (t.veh v).state = st at hfits
    generalize hfoot : t.footing v = f at hfits
    cases hfits
    have := hp l
    rw [State.presentIn_eq_footing, hfoot] at this
    simp [Footing.shifted] at this

theorem Footing.entries_none (f : Footing) (h : ∀ l, f.entries l = []) (hf : s.footing v = f) :
    s.inSomeLane v = false ∧ ∀ l, s.presentIn l v = false :=
  ⟨State.inSomeLane_false_iff.mpr fun l => by rw [hf]; exact h l, State.presentIn_false_of_entries hf h⟩

/-- A vehicle that stands nowhere takes a state that says so. -/
theorem State.Keeps.stray (h : s.Keeps (insert v X) L t) (ha : t.Afoot v) {f : Vehicle → Vehicle}
    (hf : (f (t.veh v)).badge = (t.veh v).badge) (hb : (f (t.veh v)).boundRow = (t.veh v).boundRow)
    (hs : (f (t.veh v)).shift = false) (hm : (f (t.veh v)).misorder = false)
    (hfit : Fits v (f (t.veh v)).state (f (t.veh v)).location .none) (hd : (f (t.veh v)).state ≠ .departing) :
    s.Keeps X L (t.modVeh v f) := by
  have hveh : (t.modVeh v f).veh v = f (t.veh v) := by rw [State.modVeh_veh, if_pos rfl]
  have hfoot : (t.modVeh v f).footing v = .none := by rw [State.modVeh_footing]; exact ha.footing
  obtain ⟨-, hpres⟩ := Footing.entries_none _ (fun _ => rfl) hfoot
  refine (h.modVeh (.inl rfl) hf hb (.inr (ha.unconnected h.sound.connects))).standing (by rw [hveh, hfoot]; exact hfit)
    (by rw [hveh]; exact hs) hpres (fun _ => by rw [hveh]; exact hm) ⟨fun hc => ?_, fun hc => ?_⟩
  · rw [hveh] at hc
    generalize (f (t.veh v)).state = st at *
    generalize (f (t.veh v)).location = loc at *
    rcases hc with rfl | rfl
    · generalize hnone : Footing.none = g at hfit
      cases hfit with
      | called l => exact absurd (congrFun (congrArg Footing.entries hnone) l) (by simp [Footing.none, Footing.parked])
    · exact absurd rfl hd
  · rw [(State.modVeh_samePlan hb).callHeld] at hc
    exact absurd hc ha.call

/-! ### The wait list and the queues (R51, R60) -/

/-- A vehicle that stands nowhere joins the wait list (R51). -/
theorem State.Keeps.joinWaitList (h : s.Keeps (insert v X) L t) (ha : t.Afoot v) (o : Origin) :
    s.Keeps X L (t.joinWaitList v o) := by
  have hw : t.Works (t.joinWaitList v o) := .joinWaitList (.refl t)
  have hk : s.Keeps (insert v X) L (t.joinWaitList v o) := by
    have hone := h.appendWait (.inl rfl) (e := ⟨v, o, t.ycs.minute⟩) rfl
    unfold State.joinWaitList
    exact ((hone.modVeh (.inl rfl) (f := fun r => { r with state := .inbound, location := .gate }) rfl rfl
      (.inr (ha.unconnected h.sound.connects))).raise).notify
  obtain ⟨hl, hwait, hstc, hds, -⟩ := t.joinWaitList_core v o
  have hveh := t.joinWaitList_veh v o
  have hfoot : (t.joinWaitList v o).footing v = .waiting ⟨v, o, t.ycs.minute⟩ := by
    have e : (t.joinWaitList v o).footing v
        = ({ t with waitList := t.waitList ++ [⟨v, o, t.ycs.minute⟩] } : State).footing v :=
      State.footing_of_eq (s := { t with waitList := t.waitList ++ [⟨v, o, t.ycs.minute⟩] }) hl hstc hwait v
    rw [e, State.appendWait_footing, ha.footing, if_pos rfl]
    rfl
  obtain ⟨-, hpres⟩ := Footing.entries_none _ (fun _ => rfl) hfoot
  have hp : t.SamePlan (t.joinWaitList v o) := .of_ds hds fun w => by
    by_cases e : v = w
    · subst e; rw [hveh]
    · rw [(t.joinWaitList_spares e o).veh]
  refine hk.standing (by rw [hveh, hfoot]; exact .inbound _) (by rw [hveh]; exact ha.shift) hpres
    (fun _ => by rw [hveh]; exact ha.misorder) ⟨fun hc => ?_, fun hc => ?_⟩
  · rw [hveh] at hc; simp at hc
  · rw [hp.callHeld] at hc
    exact absurd hc ha.call

theorem State.enqueue_veh (s : State) (T : Ticket) (w : Slot) : (s.enqueue T).veh w =
    if T.slot = w then { s.veh w with state := .service, location := .queue T.kind } else s.veh w := by
  simp only [State.enqueue, State.modVeh_veh, State.setQueue_veh]

theorem State.enqueue_footing (s : State) (T : Ticket) (w : Slot) : (s.enqueue T).footing w =
    { s.footing w with tickets := fun j => if T.kind = j then
        (s.insertTicket { T with state := .waiting } (s.queue T.kind)).filter (fun t => t.slot = w)
      else (s.footing w).tickets j } := by
  simp only [State.enqueue, State.modVeh_footing, State.setQueue_footing]

/-- A bay holds a ticket of a kind. -/
def State.bayTakesUp (s : State) (k : QueueKind) (b : BayNo) : Bool := (s.bay b).ticket.any fun T => T.kind = k

/-- The slots of the tickets of a kind: those of the queue, and those of the bays (R60). -/
def State.ticketSlots (s : State) (k : QueueKind) : List Slot :=
  (s.queue k).map Ticket.slot ++ ((upTo 6).filter (s.bayTakesUp k)).map fun b => ((s.bay b).ticket.map Ticket.slot).getD 0

theorem State.length_ticketSlots (s : State) (k : QueueKind) : (s.ticketSlots k).length = s.liveTickets k := by
  simp only [State.ticketSlots, State.liveTickets, List.length_append, List.length_map]
  congr 3
  funext b
  unfold State.bayTakesUp
  cases (s.bay b).ticket <;> rfl

theorem State.bayTakesUp_iff : s.bayTakesUp k b = true ↔ ∃ T, (s.bay b).ticket = some T ∧ T.kind = k := by
  unfold State.bayTakesUp
  cases (s.bay b).ticket <;> simp

theorem State.mem_ticketSlots : v ∈ s.ticketSlots k ↔ v ∈ s.takenUp k := by
  simp only [State.ticketSlots, State.takenUp, List.mem_append, List.mem_map, List.mem_filter, mem_upTo, true_and,
    State.bayTakesUp_iff]
  refine or_congr Iff.rfl ⟨?_, ?_⟩
  · rintro ⟨b, ⟨T, hT, hk⟩, rfl⟩
    exact ⟨b, T, hT, hk, by rw [hT]; rfl⟩
  · rintro ⟨b, T, hT, hk, rfl⟩
    exact ⟨b, ⟨T, hT, hk⟩, by rw [hT]; rfl⟩

theorem State.coe_ticketSlots (s : State) (k : QueueKind) : ((s.ticketSlots k).toFinset : Set Slot) = s.takenUp k := by
  ext v
  rw [List.coe_toFinset]
  exact State.mem_ticketSlots

/-- The vehicles with a ticket are no more than the tickets (R60). -/
theorem State.takenUp_le (s : State) (k : QueueKind) : (s.takenUp k).ncard ≤ s.liveTickets k := by
  rw [← s.coe_ticketSlots, Set.ncard_coe_finset, ← s.length_ticketSlots]
  exact List.toFinset_card_le _

theorem State.enqueue_desk (h : s.DeskHolds) {T : Ticket} (hn : T.noShows ≤ 1)
    (hlimit : (insert T.slot (s.takenUp T.kind)).ncard ≤ 64) : (s.enqueue T).DeskHolds := by
  have hq := h.setQueue (k := T.kind) (q := s.insertTicket { T with state := .waiting } (s.queue T.kind)) hlimit
    (Set.subset_insert _ _) (fun x hx => ?_) fun x hx => ?_
  · exact hq.of_stc rfl
  all_goals rcases (s.insertTicket_mem _ _ _).mp hx with rfl | hx
  · exact ⟨rfl, rfl, hn⟩
  · exact h.queued _ x hx
  · exact .inl rfl
  · exact .inr (State.mem_takenUp_queue hx)

theorem State.enqueue_samePlan (s : State) (T : Ticket) : s.SamePlan (s.enqueue T) :=
  .of_ds (by simp [State.enqueue, State.modVeh_eq]) fun w => by
    rw [State.enqueue_veh]
    split <;> rfl

theorem State.enqueue_lanes (s : State) (T : Ticket) : (s.enqueue T).lanes = s.lanes := by
  simp [State.enqueue, State.modVeh_eq]

/-- A ticket of a vehicle under way enters its queue. -/
theorem State.Keeps.returned (h : s.Keeps X L t) {T : Ticket} (hT : T.slot ∈ X)
    (hfree : ∀ c, (t.charger c).connected ≠ some T.slot) (hn : T.noShows ≤ 1)
    (hlimit : (insert T.slot (t.takenUp T.kind)).ncard ≤ 64) : s.Keeps X L (t.enqueue T) := by
  have hw : t.Works (t.enqueue T) := .enqueue (.refl t)
  have hlane (m : LaneNo) : (t.enqueue T).lane m = t.lane m := by simp [State.lane, State.enqueue_lanes]
  refine h.turn hT hw (fun w hne => ⟨?_, ?_⟩) (t.enqueue_samePlan T) (fun l hl => .inl ?_)
    (h.sound.lanes.congr hlane hw.units)
    (h.sound.connects.keep hw (t.enqueue_lanes T) fun w hpark => ?_) (State.enqueue_desk h.sound.desk hn hlimit)
  · rw [State.enqueue_veh, if_neg (Ne.symm hne)]
  · rw [State.enqueue_footing]
    ext1 <;> try rfl
    funext j
    dsimp only
    split
    · next e => rw [State.insertTicket_filter_ne (T := { T with state := .waiting }) (Ne.symm hne), ← e]; rfl
    · rfl
  · simpa [State.presentIn, hlane] using hl
  · by_cases e : T.slot = w
    · exact .inr (hw.unconnected (e ▸ hfree))
    · rw [State.enqueue_veh, if_neg e]
      exact .inl hpark

/-- A vehicle whose record says that it is at a queue or a bay, and that has no mark and no call, stands there. -/
theorem State.Keeps.inService (h : s.Keeps (insert v X) L t) (hst : (t.veh v).state = .service)
    (hfits : Fits v .service (t.veh v).location (t.footing v)) (hs : (t.veh v).shift = false)
    (hm : (t.veh v).misorder = false) (hcall : ¬ t.CallHeld v) : s.Keeps X L t := by
  refine h.standing (hst ▸ hfits) hs (fun l => ?_) (fun _ => hm)
    ⟨fun hc => by rw [hst] at hc; simp at hc, fun hc => absurd hc hcall⟩
  generalize (t.veh v).location = loc at hfits
  generalize hf : t.footing v = f at hfits
  cases hfits <;> exact State.presentIn_false_of_entries hf (fun _ => rfl) l

theorem State.enqueue_footing_self {T : Ticket} (h : s.footing T.slot = .none) :
    (s.enqueue T).footing T.slot = .queued T.kind { T with state := .waiting } := by
  have hnone : (s.queue T.kind).filter (fun x => x.slot = T.slot) = [] := congrFun (congrArg Footing.tickets h) T.kind
  rw [State.enqueue_footing, State.insertTicket_filter_self (T := { T with state := .waiting }) rfl hnone, h]
  rfl

/-- A vehicle that stands nowhere gets a ticket (R60, R61). -/
theorem State.Keeps.enqueue (h : s.Keeps (insert v X) L t) (ha : t.Afoot v) {T : Ticket} (hT : T.slot = v)
    (hn : T.noShows ≤ 1) (hlimit : (insert T.slot (t.takenUp T.kind)).ncard ≤ 64) : s.Keeps X L (t.enqueue T) := by
  subst hT
  have hveh : (t.enqueue T).veh T.slot = { t.veh T.slot with state := .service, location := .queue T.kind } :=
    (t.enqueue_spec T).2
  refine (h.returned (.inl rfl) (ha.unconnected h.sound.connects) hn hlimit).inService (by rw [hveh]) ?_
    (by rw [hveh]; exact ha.shift) (by rw [hveh]; exact ha.misorder)
    (by rw [(t.enqueue_samePlan T).callHeld]; exact ha.call)
  rw [hveh, State.enqueue_footing_self ha.footing]
  exact .queued _ _

/-! ### Reservations and the retry (R48, R53) -/

/-- A vehicle that stands at most in the wait list. -/
structure State.Placeable (s : State) (v : Slot) : Prop where
  footing : s.footing v = { Footing.none with waits := (s.footing v).waits }
  shift : (s.veh v).shift = false
  call : ¬ s.CallHeld v

theorem State.Afoot.placeable (h : s.Afoot v) : s.Placeable v :=
  ⟨by rw [h.footing], h.shift, h.call⟩

theorem State.Stands.placeable (h : s.Stands v) {e : WaitEntry} (he : e ∈ s.waitList) (hv : e.slot = v) : s.Placeable v := by
  obtain ⟨hst, -, w, hfoot⟩ := h.waiting he hv
  exact ⟨by rw [hfoot]; rfl, h.shift_false (by rw [hst]; simp), h.notCalled (by simp [onCall, hst])⟩

theorem State.candidate_room {role : LaneRole} (h : s.candidate role v l = true) : s.units v ≤ s.room l := by
  simp only [State.candidate, Bool.and_eq_true, decide_eq_true_eq] at h
  exact h.2

/-- A reservation (R48). -/
theorem State.Keeps.reserve (h : s.Keeps (insert v X) L t) (ha : t.Placeable v) {c : Choice} (o : Origin)
    (hroom : t.units v ≤ t.room c.lane) : s.Keeps X L (t.reserve v c o) := by
  have hw : t.Works (t.reserve v c o) := .reserve (.refl t)
  have hnil : (t.footing v).entries = fun _ => [] := by rw [ha.footing]; rfl
  have hno : t.entry c.lane v = none := by
    rw [← State.entries_eq_nil_iff, hnil]
  have hfree := h.sound.connects.absent (v := v) (State.presentIn_false_of_entries ha.footing fun _ => rfl)
  have hk : s.Keeps (insert v X) L (t.reserve v c o) := by
    have h1 := h.addAtJoinEnd (.inl rfl) (e := ⟨v, .expected, some t.ss.params.arrivalTimeout⟩) rfl hno hroom
    have hw1 : t.Works (t.addAtJoinEnd c.lane ⟨v, .expected, some t.ss.params.arrivalTimeout⟩) := .addAtJoinEnd (.refl t)
    have h2 := h1.leaveWaitList (.inl rfl)
    have hw2 := hw1.leaveWaitList (v := v)
    unfold State.reserve
    extract_lets _ a b d e
    have hd : s.Keeps (insert v X) L d :=
      h2.modVeh (.inl rfl) (f := fun r => { r with state := .toBerth, location := .lane c.lane .expected none, misorder := c.cls = 3 }) rfl rfl
        (.inr (hw2.unconnected hfree))
    have he : s.Keeps (insert v X) L e := by
      unfold e
      split
      · exact hd.raise
      · exact hd
    exact he.direct.notify
  obtain ⟨-, -, -, hds⟩ := t.reserve_core v c o
  have hveh := t.reserve_veh v c o
  have hfoot : (t.reserve v c o).footing v = .lone c.lane ⟨v, .expected, some t.ss.params.arrivalTimeout⟩ := by
    rw [State.reserve_footing hnil, ha.footing]
    rfl
  have hp : t.SamePlan (t.reserve v c o) := by
    have hp0 := t.oweStep_samePlan c.lane
    refine ⟨by rw [hds]; exact hp0.active, by rw [hds]; exact hp0.standby, by rw [hds]; exact hp0.swap,
      by rw [hds]; exact hp0.shifts, fun m hm => by rw [hds]; exact hp0.due m hm, fun w => ?_⟩
    by_cases e : v = w
    · subst e; rw [hveh]
    · rw [((State.Spares.refl t w).reserve e).veh]
  have hpres (m : LaneNo) : (t.reserve v c o).presentIn m v = false := by
    rw [State.presentIn_eq_footing, hfoot]
    simp only [Footing.lone]
    split <;> simp
  refine hk.standing (by rw [hveh, hfoot]; exact .reserved _ _) (by rw [hveh]; exact ha.shift) hpres
    (fun hno => ?_) ⟨fun hc => ?_, fun hc => ?_⟩
  · have := State.inSomeLane_false_iff.mp hno c.lane
    simp [hfoot, Footing.lone] at this
  · rw [hveh] at hc; simp at hc
  · rw [hp.callHeld] at hc
    exact absurd hc ha.call

theorem State.reserve_waitList (s : State) (v : Slot) (c : Choice) (o : Origin) :
    (s.reserve v c o).waitList = s.waitList.filter fun w => w.slot ≠ v := (s.reserve_core v c o).2.1

/-- The try of a wait-list entry (R53). -/
theorem State.Keeps.tryWaiting (h : s.Keeps X L t) {e : WaitEntry} (he : e ∈ t.waitList) (hX : e.slot ∉ X) :
    s.Keeps X L (t.tryWaiting e) := by
  have hst := h.sound.stands e.slot hX
  unfold State.tryWaiting
  split
  · next c hc =>
    have htag := hst.tag (by rw [(hst.waiting he rfl).1]; simp)
    exact (h.lift htag).reserve (hst.placeable he rfl) e.origin (State.candidate_room (State.placement_candidate hc))
  · exact h

theorem nodup_slots {l : List WaitEntry} (h : ∀ v, (l.filter fun e => e.slot = v).length ≤ 1) :
    (l.map WaitEntry.slot).Nodup := by
  rw [List.nodup_iff_count_le_one]
  intro v
  rw [List.count_eq_countP, List.countP_map, List.countP_eq_length_filter]
  convert h v using 3
  funext x
  rw [Bool.eq_iff_iff]
  simp

/-- No vehicle waits twice, as long as none under way waits (R52). -/
theorem State.Sound.waits_nodup (h : s.Sound X L) (hX : ∀ e ∈ s.waitList, e.slot ∉ X) :
    (s.waitList.map WaitEntry.slot).Nodup := by
  refine nodup_slots fun v => ?_
  by_cases hv : ∃ e ∈ s.waitList, e.slot = v
  · obtain ⟨e, he, rfl⟩ := hv
    obtain ⟨-, -, w, hfoot⟩ := (h.stands e.slot (hX e he)).waiting he rfl
    have : s.waitList.filter (fun x => x.slot = e.slot) = [w] := congrArg Footing.waits hfoot
    simp [this]
  · have : s.waitList.filter (fun e => e.slot = v) = [] := by
      simpa using fun e he => fun hs => hv ⟨e, he, hs⟩
    simp [this]

theorem State.tryWaiting_waitList {e d : WaitEntry} (hd : d ∈ s.waitList) (hne : d.slot ≠ e.slot) :
    d ∈ (s.tryWaiting e).waitList := by
  unfold State.tryWaiting
  split
  · rw [State.reserve_waitList, List.mem_filter]
    exact ⟨hd, by simpa using hne⟩
  · exact hd

/-- The wait-list retry keeps the invariant, as long as no vehicle under way waits (R53). -/
theorem State.Keeps.retry (h : s.Keeps X L t) (hX : ∀ e ∈ t.waitList, e.slot ∉ X) : s.Keeps X L t.retry := by
  have hlist : ∀ (list : List WaitEntry) (u : State), s.Keeps X L u → (list.map WaitEntry.slot).Nodup →
      (∀ e ∈ list, e ∈ u.waitList ∧ e.slot ∉ X) → s.Keeps X L (forEach list (fun w s => s.tryWaiting w) u) := by
    intro list
    induction list with
    | nil => exact fun u hu _ _ => hu
    | cons e rest ih =>
      intro u hu hn hmem
      rw [List.map_cons, List.nodup_cons] at hn
      obtain ⟨he, heX⟩ := hmem e (by simp)
      rw [forEach_cons]
      refine ih _ (hu.tryWaiting he heX) hn.2 fun d hd => ?_
      obtain ⟨hdu, hdX⟩ := hmem d (by simp [hd])
      exact ⟨State.tryWaiting_waitList hdu fun e' => hn.1 (e' ▸ List.mem_map_of_mem hd), hdX⟩
  exact hlist _ t h (h.sound.waits_nodup hX) fun e he => ⟨he, hX e he⟩

theorem State.Keeps.retry_empty (h : s.Keeps ∅ L t) : s.Keeps ∅ L t.retry := h.retry fun _ _ => id

/-- A placement request of a vehicle that stands nowhere (R39). -/
theorem State.Keeps.requestPlacement (h : s.Keeps (insert v X) L t) (ha : t.Afoot v)
    (hst : (t.veh v).state = .inbound ∨ (t.veh v).state = .service) (o : Origin) :
    s.Keeps X L (t.requestPlacement v o) := by
  have hwaits : ∀ w ∈ t.waitList, w.slot ≠ v := State.waits_eq_nil_iff.mp (by rw [ha.footing]; rfl)
  have hlane := (Footing.entries_none _ (fun _ => rfl) ha.footing).1
  unfold State.requestPlacement
  rw [if_pos (by simpa [hlane] using hst)]
  split
  · next w hw => exact absurd (by simpa using List.find?_some hw) (hwaits w (List.mem_of_find?_eq_some hw))
  · split
    · next c hc => exact h.reserve ha.placeable o (State.candidate_room (State.placement_candidate hc))
    · exact h.joinWaitList ha o

end

end Sys2Proof.Machine
end

section
/-! What the ticket choices, the stages of a visit and the withdrawal keep of the invariant (R10, R61, R62, R66 to R68). -/

namespace Sys2Proof.Machine

section
variable {s t u : State} {v w : Slot} {l m : LaneNo} {X : Set Slot} {L : Set LaneNo} {k : QueueKind} {b : BayNo} {T : Ticket}

/-! ### Ticket choices (R66 to R68) -/

/-- No vehicle under way has a WAITING ticket. -/
def State.QueuesClear (s : State) (X : Set Slot) : Prop := ∀ k, ∀ T ∈ s.queue k, T.slot ∉ X

theorem State.QueuesClear.empty : s.QueuesClear ∅ := fun _ _ _ => id

/-- A ticket without its vehicle's earlier places: the footing of a vehicle called to a bay. -/
theorem State.callToBay_footing_self (hT : s.footing T.slot = .queued T.kind T) :
    (s.callToBay b T).footing T.slot = .served b { T with state := .calledToBay } := by
  have hd : (s.dequeue T.kind T.slot).footing T.slot = .none := by
    rw [State.dequeue_footing, hT]
    ext1 <;> try rfl
    funext j
    simp only [Footing.queued, Footing.none]
    by_cases hj : T.kind = j <;> simp [hj]
  unfold State.callToBay
  extract_lets x y z
  rw [State.direct_footing, State.modVeh_footing, State.modBay_footing, hd]
  ext1 <;> try rfl
  funext c
  simp [Footing.served, Footing.none, Option.filter]

/-- A WAITING ticket is called to a FREE bay (R68). -/
theorem State.Keeps.callToBay (h : s.Keeps X L t) (hq : t.QueuesClear X) (hT : T ∈ t.queue (t.bay b).cfg.kind)
    (hb : (t.bay b).state = .free) : s.Keeps X L (t.callToBay b T) := by
  obtain ⟨hkind, -, hnoShows⟩ := h.sound.desk.queued _ T hT
  have hmem : T.slot ∈ t.takenUp T.kind := by rw [hkind]; exact State.mem_takenUp_queue hT
  have hst := h.sound.stands T.slot (hq _ T hT)
  obtain ⟨hstate, -, hfoot⟩ := hst.ticket hT rfl
  have hticket : (t.bay b).ticket = none := by
    by_contra hne
    have := h.sound.desk.held b (Option.isSome_iff_ne_none.mpr hne)
    rw [hb] at this
    cases this
  have hd : (t.dequeue T.kind T.slot).bay b = t.bay b := by simp [State.dequeue]
  refine h.trans (State.Keeps.inService (v := T.slot) (s := t) (X := X) ?_ ?_ ?_ ?_ ?_ ?_)
  · have h0 := h.sound.keeps.lift (hst.tag (by rw [hstate]; simp))
    have h1 := h0.dequeue (k := T.kind) (Set.mem_insert T.slot X)
    unfold State.callToBay
    extract_lets x y z
    have h2 : t.Keeps (insert T.slot X) L y := by
      refine h1.modBay (.inr ⟨fun U hU => ?_, fun U hU => ?_⟩) ?_
      · rw [hd, hticket] at hU; cases hU
      · obtain rfl : { T with state := .calledToBay } = U := by simpa using hU
        exact .inl rfl
      · refine h1.sound.desk.modBay (fun _ => rfl) (fun U hU => ?_) fun U hU => ?_
        all_goals obtain rfl : { T with state := .calledToBay } = U := by simpa using hU
        · exact ⟨by rw [hd]; exact hkind, hnoShows, by simp, by simp⟩
        · exact h.sound.desk.within (Set.insert_subset hmem (t.dequeue_takenUp T.kind T.slot T.kind))
    exact (h2.modMarks (.inl rfl) (f := fun r => { r with location := .bay b }) rfl rfl rfl).direct
  · rw [State.callToBay_veh, if_pos rfl]; exact hstate
  · rw [State.callToBay_veh, if_pos rfl, State.callToBay_footing_self (by rw [hfoot, hkind])]
    exact .served _ _
  · rw [State.callToBay_veh, if_pos rfl]; exact hst.shift_false (by rw [hstate]; simp)
  · rw [State.callToBay_veh, if_pos rfl]
    exact hst.misorder (Footing.entries_none _ (fun _ => rfl) hfoot).1
  · have hp : t.SamePlan (t.callToBay b T) := .of_ds (by simp [State.callToBay, State.modVeh_eq, State.modBay_eq, State.dequeue])
      fun w => by rw [State.callToBay_veh]; split <;> rfl
    rw [hp.callHeld]
    exact hst.notCalled (by simp [onCall, hstate])

theorem State.callToBay_queues (hq : s.QueuesClear X) : (s.callToBay b T).QueuesClear X := fun j U hU => by
  rw [State.callToBay_queue, State.dequeue_queue] at hU
  split at hU
  · next e => exact hq T.kind U (List.mem_of_mem_filter hU)
  · exact hq j U hU

/-- A ticket choice keeps the invariant, as long as no vehicle under way has a WAITING ticket. -/
theorem State.Keeps.choose (h : s.Keeps X L t) (hq : t.QueuesClear X) (b : BayNo) :
    s.Keeps X L (t.choose b) ∧ (t.choose b).QueuesClear X := by
  rcases t.choose_cases b with e | ⟨U, hU, hfree, e⟩ <;> rw [e]
  · exact ⟨h, hq⟩
  · exact ⟨h.callToBay hq hU hfree, State.callToBay_queues hq⟩

/-- Choices at several bays. -/
theorem State.Keeps.chooses (h : s.Keeps ∅ L t) (list : List BayNo) {f : BayNo → State → State}
    (hf : ∀ b u, f b u = u ∨ f b u = u.choose b) : s.Keeps ∅ L (forEach list f t) :=
  forEach_keeps (s.Keeps ∅ L) list f t h fun b _ u hu => by
    rcases hf b u with e | e <;> rw [e]
    · exact hu
    · exact (hu.choose .empty b).1

theorem State.Keeps.chooseKind (h : s.Keeps ∅ L t) (k : QueueKind) : s.Keeps ∅ L (t.chooseKind k) :=
  h.chooses _ fun b u => by
    split
    · exact .inr rfl
    · exact .inl rfl

theorem State.Keeps.chooseAll (h : s.Keeps ∅ L t) : s.Keeps ∅ L t.chooseAll := h.chooses _ fun _ _ => .inr rfl

theorem State.Keeps.chooseDue (h : s.Keeps ∅ L t) (before : State) (freed : Option BayNo) :
    s.Keeps ∅ L (t.chooseDue before freed) :=
  h.chooses _ fun b u => by
    split
    · exact .inr rfl
    · exact .inl rfl

/-! ### Ticket requests and stages (R61, R62) -/

/-- A vehicle on its way through the stages: it stands nowhere, and INBOUND or SERVICE. -/
structure State.OnWay (s : State) (v : Slot) : Prop where
  afoot : s.Afoot v
  state : (s.veh v).state = .inbound ∨ (s.veh v).state = .service

theorem State.OnWay.raise (h : s.OnWay v) (f : EventFlag) : (s.raise f).OnWay v :=
  ⟨h.afoot.spared ((s.raise_sameYard f).spares v) (.of_ds rfl fun _ => rfl), h.state⟩

theorem State.Keeps.requestTicket (h : s.Keeps (insert v X) L t) (ha : t.OnWay v) {skipped : State → State}
    (hskip : s.Keeps X L (skipped (t.raise .queueFull))) : s.Keeps X L (t.requestTicket v k skipped) := by
  have hnone : t.hasTicket v = false := State.hasTicket_false_iff.mpr
    ⟨fun _ => by rw [ha.afoot.footing]; rfl, fun _ => by rw [ha.afoot.footing]; rfl⟩
  unfold State.requestTicket
  rw [if_neg (by simp [hnone])]
  split
  · exact hskip
  · next hroom =>
    refine h.enqueue ha.afoot rfl (Nat.zero_le 1) ((Set.ncard_insert_le _ _).trans ?_)
    have := t.takenUp_le k
    exact (Nat.succ_le_succ this).trans (Nat.lt_of_not_ge hroom)

theorem State.Keeps.requestWash (h : s.Keeps (insert v X) L t) (ha : t.OnWay v) (o : Origin) :
    s.Keeps X L (t.requestWash v o) :=
  h.requestTicket ha (h.raise.requestPlacement (ha.raise _).afoot (ha.raise _).state o)

theorem State.Keeps.afterFuel (h : s.Keeps (insert v X) L t) (ha : t.OnWay v) (o : Origin) :
    s.Keeps X L (t.afterFuel v o) := by
  unfold State.afterFuel
  split
  · exact h.requestWash ha o
  · exact h.requestPlacement ha.afoot ha.state o

theorem State.Keeps.requestFuel (h : s.Keeps (insert v X) L t) (ha : t.OnWay v) (o : Origin) :
    s.Keeps X L (t.requestFuel v o) :=
  h.requestTicket ha (h.raise.afterFuel (ha.raise _) o)

theorem State.Keeps.stageEnded (h : s.Keeps (insert v X) L t) (ha : t.OnWay v) (k : QueueKind) :
    s.Keeps X L (t.stageEnded v k) := by
  cases k
  · exact h.afterFuel ha .serviceExit
  · exact h.requestPlacement ha.afoot ha.state .serviceExit

theorem State.Keeps.firstStage (h : s.Keeps (insert v X) L t) (ha : t.OnWay v) : s.Keeps X L (t.firstStage v) := by
  unfold State.firstStage
  split
  · exact h.requestFuel ha .gate
  · split
    · exact h.requestWash ha .gate
    · exact h.requestPlacement ha.afoot ha.state .gate

/-- A vehicle that stands nowhere passes the gate inbound (R8, R9). -/
theorem State.Keeps.enter (h : s.Keeps (insert v ∅) L t) (ha : t.Afoot v) : s.Keeps ∅ L (t.enter v) := by
  have hveh := State.enterYard_veh t v
  have hk : s.Keeps (insert v ∅) L (t.enterYard v) :=
    h.modVeh (.inl rfl) rfl rfl (.inr (ha.unconnected h.sound.connects))
  have hp : t.SamePlan (t.enterYard v) := State.modVeh_samePlan rfl
  refine (hk.firstStage ⟨⟨?_, ?_, ?_, ?_⟩, ?_⟩).chooseDue _ _
  · rw [State.enterYard_footing]; exact ha.footing
  · rw [hveh]
  · rw [hveh]
  · rw [hp.callHeld]; exact ha.call
  · rw [hveh]; exact .inl rfl

/-! ### Bays that give up a ticket -/

theorem State.Keeps.releaseBay (h : s.Keeps X L t) (hold : ∀ U, (t.bay b).ticket = some U → U.slot ∈ X) (x : BayState) :
    s.Keeps X L (t.releaseBay b x) :=
  h.modBay (.inr ⟨hold, fun U hU => by cases hU⟩) (h.sound.desk.freeBay rfl)

theorem State.modBay_samePlan (s : State) (b : BayNo) (f : Bay → Bay) : s.SamePlan (s.modBay b f) :=
  .of_ds rfl fun _ => rfl

theorem State.releaseBay_samePlan (s : State) (b : BayNo) (x : BayState) : s.SamePlan (s.releaseBay b x) :=
  s.modBay_samePlan b _

theorem State.releaseBay_queues (hq : s.QueuesClear X) (x : BayState) : (s.releaseBay b x).QueuesClear X := fun j U hU =>
  hq j U (by simpa [State.releaseBay, State.modBay_eq] using hU)

/-! ### Withdrawal (R10) -/

/-- The only vehicle under way has left the queues. -/
theorem State.QueuesClear.of_nil (h : ∀ k, (s.footing v).tickets k = []) : s.QueuesClear (insert v ∅) := fun k U hU he => by
  have he : U.slot = v := he.elim id fun e => e.elim
  have := State.mem_footing_tickets hU
  rw [he, h] at this
  cases this

theorem State.Keeps.withdrawTicket (h : s.Keeps (insert v ∅) L t) : s.Keeps (insert v ∅) L (t.withdrawTicket v) := by
  have hd := (h.dequeue (k := .fuel) (Set.mem_insert v ∅)).dequeue (k := .wash) (Set.mem_insert v ∅)
  have hnil : ∀ k, ((((t.dequeue .fuel v).dequeue .wash v).footing v).tickets k) = [] := fun k => by
    rw [State.dequeue_footing, State.dequeue_footing]
    cases k <;> simp
  have hloop := forEach_keeps (fun u => s.Keeps (insert v ∅) L u ∧ u.QueuesClear (insert v ∅)) (upTo 6)
    (fun b s => s.withdrawFromBay b v) ((t.dequeue .fuel v).dequeue .wash v) ⟨hd, .of_nil hnil⟩ fun b _ u hu => by
      obtain ⟨hk, hq⟩ := hu
      unfold State.withdrawFromBay
      split
      · next hb =>
        refine (hk.releaseBay (fun U hU => ?_) .free).choose (State.releaseBay_queues hq .free) b
        rw [State.bayHolds, hU] at hb
        exact .inl (by simpa using hb)
      · exact ⟨hk, hq⟩
  exact hloop.1

/-- A vehicle under way is withdrawn from every place but a lane it is to keep (R10). -/
theorem State.Keeps.withdraw (h : s.Keeps (insert v ∅) L t) (keep : Option LaneNo) :
    s.Keeps (insert v ∅) L (t.withdraw v keep) := by
  have hv : v ∈ (insert v ∅ : Set Slot) := Set.mem_insert v ∅
  have hpulled : s.Keeps (insert v ∅) L (t.pulled v keep) := by
    have hticket := ((h.removeEntries hv (keep := keep)).withdrawTicket).leaveWaitList hv
    unfold State.pulled
    generalize ((t.removeEntries v keep).withdrawTicket v).leaveWaitList v = x at *
    exact hticket.modMarks hv rfl rfl rfl
  rcases t.withdraw_eq v keep with e | e <;> rw [e]
  · exact hpulled
  · exact hpulled.retry fun x hx he => t.pulled_notWaiting v keep x hx (he.elim id fun e => e.elim)

theorem State.withdraw_afoot (h : ¬ (s.withdraw v none).CallHeld v) : (s.withdraw v none).Afoot v where
  footing := by rw [State.withdraw_footing, Footing.only_none]
  shift := by rw [State.withdraw_veh]
  misorder := by rw [State.withdraw_veh]
  call := h

/-! ### Bay reports and timers (R70 to R76) -/

/-- A vehicle whose ticket a bay gives up is on its way. -/
theorem State.Stands.onWay (h : s.Stands v) (hT : (s.bay b).ticket = some T) (hv : T.slot = v) {f : Bay → Bay}
    (hf : (f (s.bay b)).ticket = none) : (s.modBay b f).OnWay v := by
  obtain ⟨hst, -, hfoot⟩ := h.inBay hT hv
  refine ⟨⟨?_, h.shift_false (by rw [hst]; simp), h.misorder (Footing.entries_none _ (fun _ => rfl) hfoot).1,
    h.notCalled (by simp [onCall, hst])⟩, .inr hst⟩
  rw [State.modBay_footing, hfoot]
  ext1 <;> try rfl
  funext c
  simp [Footing.served, Footing.none, hf]

/-- The bay of a vehicle that stands gives up its ticket, and the vehicle is under way. -/
theorem State.Keeps.giveUp (h : s.Keeps ∅ L t) (hT : (t.bay b).ticket = some T) {f : Bay → Bay}
    (hf : (f (t.bay b)).ticket = none) :
    s.Keeps (insert T.slot ∅) L (t.modBay b f) ∧ (t.modBay b f).OnWay T.slot := by
  have hst := h.sound.stands T.slot id
  refine ⟨(h.lift (hst.tag ?_)).modBay (.inr ⟨fun U hU => ?_, fun U hU => ?_⟩) (h.sound.desk.freeBay hf), hst.onWay hT rfl hf⟩
  · rw [(hst.inBay hT rfl).1]; simp
  · rw [hT] at hU; cases hU; exact .inl rfl
  · rw [hf] at hU; cases hU

theorem State.requestPlacement_stc (s : State) (v : Slot) (o : Origin) : (s.requestPlacement v o).stc = s.stc := by
  unfold State.requestPlacement
  split
  · split
    · unfold State.tryWaiting
      split
      · exact (s.reserve_core _ _ _).2.2.1
      · rfl
    · split
      · exact (s.reserve_core _ _ _).2.2.1
      · exact (s.joinWaitList_core _ _).2.2.1
  · exact s.yardConflict_stc _ _ _

theorem State.requestTicket_bays {skipped : State → State}
    (hs : (skipped (s.raise .queueFull)).stc.bays = s.stc.bays) : (s.requestTicket v k skipped).stc.bays = s.stc.bays := by
  unfold State.requestTicket
  split
  · rw [State.yardConflict_stc]
  · split
    · exact hs
    · cases k <;> rfl

theorem State.requestWash_bays (s : State) (v : Slot) (o : Origin) : (s.requestWash v o).stc.bays = s.stc.bays :=
  State.requestTicket_bays (by rw [State.requestPlacement_stc]; rfl)

theorem State.stageEnded_bays (s : State) (v : Slot) (k : QueueKind) : (s.stageEnded v k).stc.bays = s.stc.bays := by
  cases k
  · show (s.afterFuel v .serviceExit).stc.bays = s.stc.bays
    unfold State.afterFuel
    split
    · exact s.requestWash_bays v _
    · rw [State.requestPlacement_stc]
  · show (s.requestPlacement v .serviceExit).stc.bays = s.stc.bays
    rw [State.requestPlacement_stc]

theorem State.stageEnded_bay (s : State) (v : Slot) (k : QueueKind) (b : BayNo) : (s.stageEnded v k).bay b = s.bay b := by
  simp [State.bay, State.stageEnded_bays]

/-- A bay whose ticket has been given up becomes FREE, or goes OUT, after its vehicle has been sent on. -/
theorem State.Keeps.sentOn (h : s.Keeps (insert v ∅) L t) (ha : t.OnWay v) (hb : (t.bay b).ticket = none) (k : QueueKind)
    (x : BayState) : s.Keeps ∅ L ((t.stageEnded v k).releaseBay b x) :=
  (h.stageEnded ha k).releaseBay (fun U hU => by rw [State.stageEnded_bay, hb] at hU; cases hU) x

theorem State.Keeps.washDone (h : s.Keeps (insert v ∅) L t) (ha : t.OnWay v) :
    s.Keeps (insert v ∅) L (t.washDone b v) ∧ (t.washDone b v).OnWay v ∧ (t.washDone b v).bay b = t.bay b := by
  unfold State.washDone
  split
  · exact ⟨h, ha, rfl⟩
  · refine ⟨h.modMarks (.inl rfl) rfl rfl rfl, ⟨ha.afoot.modVeh rfl rfl rfl, ?_⟩, rfl⟩
    rw [State.modVeh_veh, if_pos rfl]
    exact ha.state

theorem State.modBay_bay_self (s : State) (b : BayNo) (f : Bay → Bay) : (s.modBay b f).bay b = f (s.bay b) := by
  rw [State.modBay_bay, if_pos rfl]

/-- BAY_DONE (R73). -/
theorem State.Keeps.bayDone (h : s.Keeps ∅ L t) (b : BayNo) : s.Keeps ∅ L (t.bayDone b) := by
  have hdone {T : Ticket} (hT : (t.bay b).ticket = some T) : s.Keeps ∅ L
      (((((t.modBay b fun r => { r with ticket := none, retryTimer := none, overstayTimer := none }).washDone b T.slot).stageEnded
        T.slot T.kind).releaseBay b .free).chooseDue t (some b)) := by
    obtain ⟨hu, ha⟩ := h.giveUp hT (f := fun r => { r with ticket := none, retryTimer := none, overstayTimer := none }) rfl
    obtain ⟨hw, ha', hbay⟩ := hu.washDone (b := b) ha
    exact (hw.sentOn ha' (by rw [hbay, State.modBay_bay_self]) _ _).chooseDue _ _
  unfold State.bayDone
  split
  · next hT => exact hdone hT
  · next hT => exact hdone hT
  · exact h

theorem State.Keeps.latchOut (h : s.Keeps X L t) (hold : ∀ U, (t.bay b).ticket = some U → U.slot ∈ X) (c : BayOutCause)
    (n : Nat) : s.Keeps X L (t.latchOut b c n) := ((h.releaseBay hold .out).raise).notify

theorem State.Keeps.secondFault (h : s.Keeps ∅ L t) (hT : (t.bay b).ticket = some T) : s.Keeps ∅ L (t.secondFault b T) := by
  obtain ⟨hu, ha⟩ := h.giveUp hT (f := fun r => { r with ticket := none, retryTimer := none, overstayTimer := none }) rfl
  unfold State.secondFault
  extract_lets u
  refine ((hu.stageEnded ha _).latchOut (fun U hU => ?_) _ _).chooseDue _ _
  rw [State.stageEnded_bay, State.modBay_bay_self] at hU
  cases hU

theorem State.enqueue_bay (s : State) (T : Ticket) (b : BayNo) : (s.enqueue T).bay b = s.bay b := by
  simp [State.enqueue, State.modVeh_eq]

/-- The ticket of a bay goes back to its queue, and the bay gives it up: the vehicle WAITS again (R72, R76, R79). -/
theorem State.Keeps.turnedAway (h : s.Keeps ∅ L t) (hT : (t.bay b).ticket = some T) {U : Ticket} (hU : U.slot = T.slot)
    (hkind : U.kind = T.kind) (hn : U.noShows ≤ 1) (x : BayState) : s.Keeps ∅ L ((t.enqueue U).releaseBay b x) := by
  have hst := h.sound.stands T.slot id
  obtain ⟨hstate, -, hfoot⟩ := hst.inBay hT rfl
  have hmarks := hst.shift_false (by rw [hstate]; simp)
  have hfree := h.sound.connects.absent (Footing.entries_none _ (fun _ => rfl) hfoot).2
  have hk : s.Keeps (insert T.slot ∅) L ((t.enqueue U).releaseBay b x) := by
    refine ((h.lift (hst.tag (by rw [hstate]; simp))).returned (.inl hU) (by rw [hU]; exact hfree) hn
      (by rw [hU, hkind]; exact h.sound.desk.within_insert (State.mem_takenUp_bay hT))).releaseBay (fun V hV => ?_) x
    rw [State.enqueue_bay, hT] at hV
    cases hV
    exact .inl rfl
  have hveh : ((t.enqueue U).releaseBay b x).veh T.slot =
      { t.veh T.slot with state := .service, location := .queue U.kind } := by
    show (t.enqueue U).veh T.slot = _
    rw [State.enqueue_veh, if_pos hU]
  refine hk.inService (by rw [hveh]) ?_ (by rw [hveh]; exact hmarks)
    (by rw [hveh]; exact hst.misorder (Footing.entries_none _ (fun _ => rfl) hfoot).1) ?_
  · rw [hveh]
    convert Fits.queued (v := T.slot) U.kind { U with state := .waiting } using 1
    rw [State.releaseBay, State.modBay_footing, State.enqueue_footing, hfoot, ← hU,
      State.insertTicket_filter_self (T := { U with state := .waiting }) rfl ?_]
    · ext1 <;> try rfl
      funext c
      simp [Footing.served, Footing.queued, Footing.none]
    · rw [hU]
      exact congrFun (congrArg Footing.tickets hfoot) U.kind
  · have hp := (t.enqueue_samePlan U).trans (State.releaseBay_samePlan _ b x)
    rw [hp.callHeld]
    exact hst.notCalled (by simp [onCall, hstate])

/-- BAY_FAULT (R74, R76). -/
theorem State.Keeps.bayFault (h : s.Keeps ∅ L t) (b : BayNo) : s.Keeps ∅ L (t.bayFault b) := by
  unfold State.bayFault
  split
  · next hs hT =>
    split
    · refine h.modBay (.inl rfl) (h.sound.desk.sameTicket rfl (fun _ => rfl) fun T hT _ => ?_)
      obtain ⟨hkind, hn, hc, hi⟩ := hT
      exact ⟨hkind, hn, by simpa [hs] using hc, by simpa [hs] using hi⟩
    · exact h.secondFault hT
  · next hT => exact h.secondFault hT
  · next T _ hT =>
    have hret : t.returnTicket b = t.enqueue T := by simp [State.returnTicket, hT]
    rw [hret]
    exact (((h.turnedAway hT rfl rfl (h.sound.desk.taken b T hT).2.1 .out).raise).notify).chooseKind _
  · exact h

/-- The no-show timer of a bay expires (R72). -/
theorem State.Keeps.noShow (h : s.Keeps ∅ L t) (b : BayNo) : s.Keeps ∅ L (t.noShow b) := by
  unfold State.noShow
  split
  · next T _ _ hT =>
    split
    · have := h.turnedAway hT (U := { T with join := t.ycs.minute, noShows := 1 }) rfl rfl le_rfl .free
      exact this.chooseDue t (some b)
    · extract_lets u x
      obtain ⟨hu, ha⟩ := h.giveUp hT (f := fun r => { r with ticket := none, noShowTimer := none }) rfl
      have hx : s.Keeps (insert T.slot ∅) L x := hu.raise.notify
      have hy : (u.raise .bayNoShow).SameYard x := State.notify_sameYard _ _
      have hxa : x.OnWay T.slot := by
        have h1 : (u.raise .bayNoShow).OnWay T.slot := ha.raise .bayNoShow
        exact ⟨h1.afoot.spared (hy.spares _) (.of_ds hy.ds fun w => by rw [hy.veh]), by rw [hy.veh]; exact h1.state⟩
      have hbay : (x.bay b).ticket = none := by
        rw [hy.bay]
        show ((t.modBay b fun r => { r with ticket := none, noShowTimer := none }).bay b).ticket = none
        rw [State.modBay_bay_self]
      exact (hx.sentOn hxa hbay _ _).chooseDue _ _
  · exact h

theorem State.Keeps.retryBay (h : s.Keeps X L t) (b : BayNo) : s.Keeps X L (t.retryBay b) := by
  unfold State.retryBay
  split
  · next hs _ _ =>
    refine (h.modBay (.inl rfl) (h.sound.desk.sameTicket rfl (fun _ => rfl) fun T hT _ => ?_)).direct
    obtain ⟨hkind, hn, hc, hi⟩ := hT
    exact ⟨hkind, hn, by simpa [hs] using hc, by simpa [hs] using hi⟩
  · exact h

theorem State.Keeps.overstayed (h : s.Keeps X L t) (b : BayNo) : s.Keeps X L (t.overstayed b) := by
  unfold State.overstayed
  split
  · exact h
  · extract_lets marked u
    have hu : s.Keeps X L u := h.modBay (.inl rfl) (h.sound.desk.sameTicket rfl (h.sound.desk.held b) fun _ hT _ => hT)
    split
    · exact hu
    · exact hu.raise

/-- The skip examination of a minute advance (R69). -/
theorem State.Keeps.skipWashes (h : s.Keeps ∅ L t) : s.Keeps ∅ L t.skipWashes := by
  unfold State.skipWashes
  split
  swap
  · exact h
  have hskip (T : Ticket) (u : State) (hu : s.Keeps ∅ L u) (hT : T ∈ u.queue .wash) :
      s.Keeps ∅ L (((u.dequeue .wash T.slot).raise .washSkipped).stageEnded T.slot .wash) := by
    have hst := hu.sound.stands T.slot id
    obtain ⟨hstate, -, hfoot⟩ := hst.ticket hT rfl
    have hsp : u.SamePlan (u.dequeue .wash T.slot) := .of_ds (by simp [State.dequeue]) fun w => by simp [State.dequeue]
    have hveh : (u.dequeue .wash T.slot).veh T.slot = u.veh T.slot := by simp [State.dequeue]
    have hway : (u.dequeue .wash T.slot).OnWay T.slot := by
      refine ⟨⟨?_, ?_, ?_, ?_⟩, ?_⟩
      · rw [State.dequeue_footing, hfoot]
        ext1 <;> try rfl
        funext j
        by_cases hj : QueueKind.wash = j <;> simp [Footing.queued, Footing.none, hj]
      · rw [hveh]; exact hst.shift_false (by rw [hstate]; simp)
      · rw [hveh]; exact hst.misorder (Footing.entries_none _ (fun _ => rfl) hfoot).1
      · rw [hsp.callHeld]; exact hst.notCalled (by simp [onCall, hstate])
      · rw [hveh]; exact .inr hstate
    exact ((((hu.lift (hst.tag (by rw [hstate]; simp))).dequeue (.inl rfl)).raise).stageEnded (hway.raise _) _)
  have hkeep (T : Ticket) (u : State) (U : Ticket) (hU : U ∈ u.queue .wash) (hne : U.slot ≠ T.slot) :
      U ∈ ((((u.dequeue .wash T.slot).raise .washSkipped).stageEnded T.slot .wash).queue .wash) := by
    have hq : ((((u.dequeue .wash T.slot).raise .washSkipped).stageEnded T.slot .wash).queue .wash)
        = (u.dequeue .wash T.slot).queue .wash := by
      show (State.requestPlacement _ _ _).stc.washQueue = _
      rw [State.requestPlacement_stc]
      rfl
    rw [hq, State.dequeue_queue, if_pos rfl, List.mem_filter]
    exact ⟨hU, by simpa using hne⟩
  have hloop : ∀ (list : List Ticket) (u : State), s.Keeps ∅ L u → (list.map Ticket.slot).Nodup →
      (∀ T ∈ list, T ∈ u.queue .wash) → s.Keeps ∅ L (forEach list
        (fun t s => ((s.dequeue .wash t.slot).raise .washSkipped).stageEnded t.slot .wash) u) := by
    intro list
    induction list with
    | nil => exact fun u hu _ _ => hu
    | cons T rest ih =>
      intro u hu hn hmem
      rw [List.map_cons, List.nodup_cons] at hn
      rw [forEach_cons]
      refine ih _ (hskip T u hu (hmem T (by simp))) hn.2 fun U hU => ?_
      exact hkeep T u U (hmem U (by simp [hU])) fun e => hn.1 (e ▸ List.mem_map_of_mem hU)
  refine hloop _ t h ?_ fun T hT => List.mem_of_mem_filter hT
  exact ((List.filter_sublist (l := t.stc.washQueue)).map Ticket.slot).nodup (h.sound.queueSlots_nodup .wash)

theorem State.Keeps.serviceAdvance (h : s.Keeps ∅ L t) : s.Keeps ∅ L t.serviceAdvance := h.skipWashes.chooseAll

/-! ### BAY_ARRIVE (R70, R71) -/

theorem State.serve_veh (s : State) (b : BayNo) (T : Ticket) (w : Slot) : (s.serve b T).veh w =
    if T.slot = w then { s.veh w with location := .bay b } else s.veh w := by
  simp only [State.serve, State.startBay, State.direct_veh, State.modVeh_veh]
  rfl

theorem State.serve_footing (s : State) (b : BayNo) (T : Ticket) (w : Slot) : (s.serve b T).footing w =
    { s.footing w with bays := fun c => if b = c then (some { T with state := .inBay }).filter (fun t => t.slot = w)
        else (s.footing w).bays c } := by
  simp only [State.serve, State.startBay, State.direct_footing, State.modVeh_footing, State.modBay_footing]

/-- A bay, whose ticket is none or of vehicles under way, begins to serve a vehicle under way. -/
theorem State.Keeps.serve (h : s.Keeps X L t) (hT : T.slot ∈ X) (hold : ∀ U, (t.bay b).ticket = some U → U.slot ∈ X)
    (hkind : T.kind = (t.bay b).cfg.kind) (hn : T.noShows ≤ 1) (hlimit : (insert T.slot (t.takenUp T.kind)).ncard ≤ 64) :
    s.Keeps X L (t.serve b T) := by
  have hb : s.Keeps X L (t.modBay b fun r =>
      { r with ticket := some { T with state := .inBay }, state := .busy, noShowTimer := none,
               overstayTimer := some (overstayLimit t.ss.params r.cfg.kind) }) := by
    have hinBay {U : Ticket} (hU : some { T with state := .inBay } = some U) : U = { T with state := .inBay } := by
      simpa using hU.symm
    refine h.modBay (.inr ⟨hold, fun U hU => hinBay hU ▸ hT⟩) (h.sound.desk.modBay (fun _ => rfl) (fun U hU => ?_)
      fun U hU => hinBay hU ▸ hlimit)
    rw [hinBay hU]
    exact ⟨hkind, hn, by simp, by simp⟩
  exact (hb.modMarks hT (f := fun r => { r with location := .bay b }) rfl rfl rfl).direct

theorem State.serve_samePlan (s : State) (b : BayNo) (T : Ticket) : s.SamePlan (s.serve b T) :=
  .of_ds (by simp [State.serve, State.startBay, State.modVeh_eq, State.modBay_eq])
    fun w => by rw [State.serve_veh]; split <;> rfl

/-- A vehicle under way, without marks and calls, comes to stand in the bay that serves it. -/
theorem State.Keeps.servedAt (h : s.Keeps (insert T.slot X) L (t.serve b T)) (hst : (t.veh T.slot).state = .service)
    (hfoot : { t.footing T.slot with bays := fun _ => none } = Footing.none)
    (hbays : ∀ c, b ≠ c → (t.footing T.slot).bays c = none) (hs : (t.veh T.slot).shift = false)
    (hm : (t.veh T.slot).misorder = false) (hcall : ¬ t.CallHeld T.slot) : s.Keeps X L (t.serve b T) := by
  have hveh : (t.serve b T).veh T.slot = { t.veh T.slot with location := .bay b } := by
    rw [State.serve_veh, if_pos rfl]
  have hserved : (t.serve b T).footing T.slot = .served b { T with state := .inBay } := by
    rw [State.serve_footing]
    rw [Footing.ext_iff] at hfoot ⊢
    obtain ⟨he, ht, -, hw⟩ := hfoot
    refine ⟨he, ht, ?_, hw⟩
    funext c
    dsimp only [Footing.served, Footing.none]
    split
    · simp [Option.filter]
    · next hne => exact hbays c hne
  refine h.inService (by rw [hveh]; exact hst) ?_ (by rw [hveh]; exact hs) (by rw [hveh]; exact hm)
    (by rw [(t.serve_samePlan b T).callHeld]; exact hcall)
  rw [hveh, hserved]
  exact .served _ _

theorem State.waitingTicket_mem (h : s.waitingTicket k v = some T) : T ∈ s.queue k ∧ T.slot = v :=
  ⟨List.mem_of_find?_eq_some h, by simpa using List.find?_some h⟩

/-- A vehicle that stands in a queue is served by a bay whose ticket, if any, is of a vehicle under way (R70, R71). -/
theorem State.Keeps.serveWaiting (h : s.Keeps X L t) (hT : T ∈ t.queue (t.bay b).cfg.kind) (hX : T.slot ∉ X)
    (hold : ∀ U, (t.bay b).ticket = some U → U.slot ∈ X)
    : s.Keeps X L (t.serveWaiting b T) := by
  obtain ⟨hkind, -, hnoShows⟩ := h.sound.desk.queued _ T hT
  have hst := h.sound.stands T.slot hX
  obtain ⟨hstate, -, hfoot⟩ := hst.ticket hT rfl
  have hbay : (t.dequeue T.kind T.slot).bay b = t.bay b := by simp [State.dequeue]
  have hd : (t.dequeue T.kind T.slot).footing T.slot = .none := by
    rw [State.dequeue_footing, hfoot, hkind]
    ext1 <;> try rfl
    funext j
    simp only [Footing.queued, Footing.none]
    by_cases hj : (t.bay b).cfg.kind = j <;> simp [hj]
  unfold State.serveWaiting
  extract_lets x
  have hx : s.Keeps (insert T.slot X) L x := (h.lift (hst.tag (by rw [hstate]; simp))).dequeue (.inl rfl)
  have hveh : x.veh T.slot = t.veh T.slot := by simp [x, State.dequeue]
  have hp : t.SamePlan x := .of_ds (by simp [x, State.dequeue]) fun w => by simp [x, State.dequeue]
  have hy : s.Keeps (insert T.slot X) L (x.modBay b fun r => { r with faultCount := 0, overstay := false }) :=
    hx.modBay (.inl rfl) (hx.sound.desk.sameTicket rfl (hx.sound.desk.held b) fun _ hT _ => hT)
  have hyfoot : (x.modBay b fun r => { r with faultCount := 0, overstay := false }).footing T.slot
      = { Footing.none with bays := fun c => if b = c then (t.bay b).ticket.filter (fun y => y.slot = T.slot) else none } := by
    rw [State.modBay_footing]
    simp only [x, hbay, hd]
    rfl
  refine (hy.serve (.inl rfl) (fun U hU => ?_) ?_ hnoShows ?_).servedAt (by show (x.veh T.slot).state = _; rw [hveh, hstate])
    (by rw [hyfoot]; rfl) (fun c hc => by rw [hyfoot]; simp [hc])
    (by show (x.veh T.slot).shift = _; rw [hveh]; exact hst.shift_false (by rw [hstate]; simp))
    (by show (x.veh T.slot).misorder = _; rw [hveh]; exact hst.misorder (Footing.entries_none _ (fun _ => rfl) hfoot).1) ?_
  · rw [State.modBay_bay_self] at hU
    simp only [x, hbay] at hU
    exact .inr (hold U hU)
  · rw [State.modBay_bay_self]
    simpa only [x, hbay] using hkind
  · have hmem : T.slot ∈ t.takenUp T.kind := by rw [hkind]; exact State.mem_takenUp_queue hT
    exact h.sound.desk.within (Set.insert_subset hmem
      ((x.modBay_takenUp rfl T.kind).trans (t.dequeue_takenUp T.kind T.slot T.kind)))
  · have hp' := hp.trans (x.modBay_samePlan b fun r => { r with faultCount := 0, overstay := false })
    rw [hp'.callHeld]
    exact hst.notCalled (by simp [onCall, hstate])

end

end Sys2Proof.Machine
end

section
/-! What BAY_ARRIVE keeps of the invariant (R70, R71), and what the plan does to it: a row that loses its bus (R13, R123, R124,
R128, R143 to R145), and one that gets a bus (R114, R132). -/

namespace Sys2Proof.Machine

section
variable {s t u : State} {v w : Slot} {l m : LaneNo} {X : Set Slot} {L : Set LaneNo} {k : QueueKind} {b : BayNo} {T U : Ticket}

/-! ### BAY_ARRIVE (R70, R71) -/

theorem State.serveWaiting_footing (s : State) (h : U.slot ≠ w) : (s.serveWaiting b U).footing w =
    { s.footing w with bays := fun c => if b = c then none else (s.footing w).bays c } := by
  unfold State.serveWaiting
  extract_lets x
  rw [State.serve_footing, State.modBay_footing, (s.dequeue_spares U.kind h).footing]
  ext1 <;> try rfl
  funext c
  dsimp only
  split
  · simp [Option.filter, h]
  · rfl

theorem State.serveWaiting_veh (s : State) (h : U.slot ≠ w) : (s.serveWaiting b U).veh w = s.veh w := by
  unfold State.serveWaiting
  extract_lets x
  rw [State.serve_veh, if_neg h]
  simp [x, State.dequeue, State.modBay_eq]

theorem State.serveWaiting_samePlan (s : State) : s.SamePlan (s.serveWaiting b U) := by
  unfold State.serveWaiting
  extract_lets x
  have hp : s.SamePlan x := .of_ds (by simp [x, State.dequeue]) fun w => by simp [x, State.dequeue]
  exact (hp.trans (x.modBay_samePlan b _)).trans (State.serve_samePlan _ b U)

/-- The called vehicle of a bay is served (R70, first case). -/
theorem State.Keeps.serveCalled (h : s.Keeps ∅ L t) (hT : (t.bay b).ticket = some T) : s.Keeps ∅ L (t.serve b T) := by
  have hst := h.sound.stands T.slot id
  obtain ⟨hstate, -, hfoot⟩ := hst.inBay hT rfl
  obtain ⟨hkind, hnoShows, -, -⟩ := h.sound.desk.taken b T hT
  have hold : ∀ U, (t.bay b).ticket = some U → U.slot ∈ (insert T.slot ∅ : Set Slot) := fun U hU => by
    rw [hT] at hU; cases hU; exact .inl rfl
  exact ((h.lift (hst.tag (by rw [hstate]; simp))).serve (.inl rfl) hold hkind hnoShows
    (h.sound.desk.within_insert (State.mem_takenUp_bay hT))).servedAt hstate (by rw [hfoot]; rfl)
    (fun c hc => by rw [hfoot]; simp [Footing.served, hc]) (hst.shift_false (by rw [hstate]; simp))
    (hst.misorder (Footing.entries_none _ (fun _ => rfl) hfoot).1) (hst.notCalled (by simp [onCall, hstate]))

/-- A vehicle that waits drives into the bay that has called another, which waits again (R70, second case). -/
theorem State.Keeps.serveIntruder (h : s.Keeps ∅ L t) (hT : (t.bay b).ticket = some T) (hU : U ∈ t.queue (t.bay b).cfg.kind) (hne : U.slot ≠ T.slot) : s.Keeps ∅ L ((t.enqueue T).serveWaiting b U) := by
  have hst := h.sound.stands T.slot id
  obtain ⟨hstate, -, hfoot⟩ := hst.inBay hT rfl
  have hfree := h.sound.connects.absent (Footing.entries_none _ (fun _ => rfl) hfoot).2
  have hbay : (t.enqueue T).bay b = t.bay b := t.enqueue_bay T b
  have hmem : U ∈ (t.enqueue T).queue ((t.enqueue T).bay b).cfg.kind := by
    rw [hbay]
    simp only [State.enqueue, State.modVeh_eq, State.setVeh_queue, State.setQueue_queue]
    split
    · next e => exact (t.insertTicket_mem _ _ _).mpr (.inr (e ▸ hU))
    · exact hU
  have hk := ((h.lift (hst.tag (by rw [hstate]; simp))).returned (.inl rfl) hfree
    (h.sound.desk.taken b T hT).2.1 (h.sound.desk.within_insert (State.mem_takenUp_bay hT))).serveWaiting (b := b) hmem
    (fun e => e.elim hne id) fun V hV => by rw [hbay, hT] at hV; cases hV; exact .inl rfl
  have hveh : ((t.enqueue T).serveWaiting b U).veh T.slot =
      { t.veh T.slot with state := .service, location := .queue T.kind } := by
    rw [State.serveWaiting_veh _ hne, State.enqueue_veh, if_pos rfl]
  refine hk.inService (by rw [hveh]) ?_ (by rw [hveh]; exact hst.shift_false (by rw [hstate]; simp))
    (by rw [hveh]; exact hst.misorder (Footing.entries_none _ (fun _ => rfl) hfoot).1) ?_
  · rw [hveh]
    convert Fits.queued (v := T.slot) T.kind { T with state := .waiting } using 1
    have hnone : (t.queue T.kind).filter (fun x => x.slot = T.slot) = [] := congrFun (congrArg Footing.tickets hfoot) T.kind
    rw [State.serveWaiting_footing _ hne, State.enqueue_footing,
      State.insertTicket_filter_self (T := { T with state := .waiting }) rfl hnone, hfoot]
    ext1 <;> try rfl
    funext c
    simp [Footing.served, Footing.queued, Footing.none]
  · rw [((t.enqueue_samePlan T).trans (State.serveWaiting_samePlan _)).callHeld]
    exact hst.notCalled (by simp [onCall, hstate])

theorem State.Keeps.bayArrive (h : s.Keeps ∅ L t) (b : BayNo) (v : Slot) : s.Keeps ∅ L (t.bayArrive b v) := by
  unfold State.bayArrive
  extract_lets kind
  split
  · split
    · next T hT =>
      split
      · exact h.serveCalled hT
      · next hne =>
        split
        · next U hU =>
          obtain ⟨hmem, hslot⟩ := State.waitingTicket_mem hU
          have hret : t.returnTicket b = t.enqueue T := by simp [State.returnTicket, hT]
          rw [hret]
          exact (h.serveIntruder hT hmem fun e => hne (e ▸ hslot)).chooseKind _
        · exact h.raise
    · exact h.raise
  · next hb =>
    split
    · next U hU =>
      refine h.serveWaiting (State.waitingTicket_mem hU).1 id fun V hV => ?_
      have := h.sound.desk.held b (by rw [hV]; rfl)
      rw [hb] at this; cases this
    · exact h.raise
  · split
    · exact h
    · exact h.raise
  · split
    · exact h
    · exact h.raise
  · exact h.raise
  · exact h.raise

/-! ### Rows and bindings -/

theorem PlanRow.binds_iff (r : PlanRow) (v : Slot) :
    r.binds v = true ↔ (r.state = .bound ∨ r.state = .called) ∧ r.bound = some v := by
  simp [PlanRow.binds]

theorem State.row_mem {i : Nat} {r : PlanRow} (h : s.row i = some r) : r ∈ s.ds.active := List.mem_of_getElem? h

theorem State.mem_row {r : PlanRow} (h : r ∈ s.ds.active) : ∃ i, s.row i = some r := List.getElem?_of_mem h

/-- The plan after a change of one ACTIVE row and of the bound row field of one vehicle. -/
structure State.Replans (s : State) (v : Slot) (i : Nat) (f : PlanRow → PlanRow) (t : State) : Prop where
  row : ∀ j, t.row j = if i = j then (s.row j).map f else s.row j
  standby : t.ds.standby = s.ds.standby
  swap : t.ds.swap = s.ds.swap
  shifts : t.ds.shifts = s.ds.shifts
  due : t.ds.stepDue = s.ds.stepDue
  others : ∀ w, w ≠ v → t.veh w = s.veh w
  self : ∃ b, t.veh v = { s.veh v with boundRow := b }
  lanes : t.lanes = s.lanes
  waitList : t.waitList = s.waitList
  stc : t.stc = s.stc
  works : s.Works t

theorem State.Replans.footing {i : Nat} {f : PlanRow → PlanRow} (h : s.Replans v i f t) (w : Slot) :
    t.footing w = s.footing w := State.footing_of_eq h.lanes h.stc h.waitList w

theorem State.Replans.shiftRecord {i : Nat} {f : PlanRow → PlanRow} (h : s.Replans v i f t) (l : LaneNo) :
    t.shiftRecord l = s.shiftRecord l := by simp [State.shiftRecord, h.shifts]

/-- A change of one row that binds at most a vehicle under way, before and after, keeps the invariant if the plan holds. -/
theorem State.Sound.replan {i : Nat} {f : PlanRow → PlanRow} (h : s.Sound X L) (hr : s.Replans v i f t) (hv : v ∈ X)
    (hrow : ∀ r, s.row i = some r → ∀ w, r.binds w = true → w ∈ X) (hplan : t.PlanHolds) : t.Sound X L where
  tags w hx := by rw [hr.works.tag]; exact h.tags w hx
  stands w hx := by
    have hveh := hr.others w fun e => hx (e ▸ hv)
    refine (h.stands w hx).spared ⟨hveh, hr.footing w⟩ ?_
    have hplan : t.boundPlan w = s.boundPlan w := by
      rw [State.boundPlan, State.boundPlan, hveh]
      cases hb : (s.veh w).boundRow with
      | none => rfl
      | some j =>
        obtain ⟨r, hj, hbinds⟩ := (h.plan.bound w j).mp hb
        show t.row j = s.row j
        rw [hr.row, if_neg]
        rintro rfl
        exact hx (hrow r hj w hbinds)
    simp only [State.CallHeld, hplan]
  blocks w hx l m hloc := by
    rw [hr.others w fun e => hx (e ▸ hv)] at hloc
    rw [hr.shiftRecord]
    exact h.blocks w hx l m hloc
  shifts l w hw := by
    rw [hr.shiftRecord] at hw
    rw [State.presentIn_congr (hr.footing w), hr.due]
    refine (h.shifts l w hw).imp (fun k => ⟨k.1, fun hx => ?_⟩) id
    rw [hr.others w fun e => hx (e ▸ hv)]
    exact k.2 hx
  lanes := h.lanes.congr (fun m => by simp [State.lane, hr.lanes]) hr.works.units
  connects := h.connects.keep hr.works hr.lanes fun w hp => .inl (by
    by_cases e : w = v
    · subst e
      obtain ⟨b, hb⟩ := hr.self
      rw [hb]; exact hp
    · rw [hr.others w e]; exact hp)
  desk := h.desk.of_stc hr.stc
  plan := hplan

/-- Row `i` is changed and the bound row field of a vehicle cleared. -/
theorem State.unbound_replans (s : State) (v : Slot) (i : Nat) (f : PlanRow → PlanRow) :
    s.Replans v i f ((s.modRow i f).clearBinding v) where
  row j := s.modRow_row i j f
  standby := rfl
  swap := rfl
  shifts := rfl
  due := rfl
  others w hw := by rw [State.clearBinding, State.modVeh_veh, if_neg (Ne.symm hw)]; rfl
  self := ⟨none, by rw [State.clearBinding, State.modVeh_veh, if_pos rfl]; rfl⟩
  lanes := rfl
  waitList := rfl
  stc := rfl
  works := .clearBinding (.modRow (.refl s))

/-- Row `i` is changed, and it does not bind afterwards: the plan holds when the vehicle it bound, if any, is unbound. -/
theorem State.PlanHolds.unbind {i : Nat} {f : PlanRow → PlanRow} (h : s.PlanHolds) (hr : s.Replans v i f t)
    (hself : (t.veh v).boundRow = none ∨ t.veh v = s.veh v ∧ (s.veh v).boundRow ≠ some i)
    (hother : (s.veh v).boundRow = none ∨ (s.veh v).boundRow = some i ∨ t.veh v = s.veh v)
    (hold : ∀ r, s.row i = some r → ∀ w, r.binds w = true → w = v ∧ (s.veh v).boundRow = some i)
    (hf : ∀ r, s.row i = some r → (f r).Sound ∧ ∀ w, (f r).binds w = false) : t.PlanHolds where
  bound w j := by
    rw [hr.row]
    by_cases hij : i = j
    · subst hij
      rw [if_pos rfl]
      have hno : ¬ ∃ r, (s.row i).map f = some r ∧ r.binds w = true := by
        rintro ⟨r, hmap, hb⟩
        obtain ⟨x, hx, rfl⟩ := Option.map_eq_some_iff.mp hmap
        rw [(hf x hx).2 w] at hb
        cases hb
      refine ⟨fun hb => ?_, fun hb => absurd hb hno⟩
      exfalso
      by_cases e : w = v
      · subst e
        rcases hself with h0 | ⟨hsame, hne⟩
        · rw [h0] at hb; cases hb
        · rw [hsame] at hb; exact hne hb
      · rw [hr.others w e] at hb
        obtain ⟨r, hrow, hbinds⟩ := (h.bound w i).mp hb
        exact e (hold r hrow w hbinds).1
    · rw [if_neg hij]
      by_cases e : w = v
      · subst e
        rcases hself with h0 | ⟨hsame, -⟩
        · rw [h0]
          refine ⟨fun hb => (by cases hb), fun hb => ?_⟩
          have hs := (h.bound w j).mpr hb
          rcases hother with h1 | h1 | h1
          · rw [h1] at hs; cases hs
          · rw [h1] at hs; cases hs; exact absurd rfl hij
          · rw [← h1, h0] at hs; cases hs
        · rw [hsame]; exact h.bound w j
      · rw [hr.others w e]; exact h.bound w j
  unheld w hw := by
    rw [hr.works.held] at hw
    by_cases e : w = v
    · subst e
      rcases hself with h0 | ⟨hsame, -⟩
      · exact h0
      · rw [hsame]; exact h.unheld w hw
    · rw [hr.others w e]; exact h.unheld w hw
  active r hmem := by
    obtain ⟨j, hj⟩ := State.mem_row hmem
    rw [hr.row] at hj
    split at hj
    · obtain ⟨x, hx, rfl⟩ := Option.map_eq_some_iff.mp hj
      next e => exact (hf x (by rw [e]; exact hx)).1
    · exact h.active r (State.row_mem hj)
  standby := by
    rw [hr.standby]
    intro r hmem
    obtain ⟨hs, hb, hm, ht⟩ := h.standby r hmem
    exact ⟨hs, hb, hm, fun w hw => by rw [hr.works.tag]; exact ht w hw⟩
  pending := by rw [hr.swap, hr.standby]; exact h.pending

/-- The row of a vehicle under way stops binding it. -/
theorem State.Sound.unbind (h : s.Sound X L) (hv : v ∈ X) {i : Nat} (hi : (s.veh v).boundRow = some i) {f : PlanRow → PlanRow}
    (hf : ∀ r, s.row i = some r → (f r).Sound ∧ ∀ w, (f r).binds w = false) :
    ((s.modRow i f).clearBinding v).Sound X L := by
  have hr := s.unbound_replans v i f
  have hold : ∀ r, s.row i = some r → ∀ w, r.binds w = true → w = v := fun r hrow w hb => by
    obtain ⟨r', hrow', hb'⟩ := (h.plan.bound v i).mp hi
    rw [hrow] at hrow'
    cases hrow'
    rw [PlanRow.binds_iff] at hb hb'
    have := hb.2.symm.trans hb'.2
    cases this
    rfl
  refine h.replan hr hv (fun r hrow w hb => hold r hrow w hb ▸ hv)
    (h.plan.unbind hr (.inl ?_) (.inr (.inl hi)) (fun r hrow w hb => ⟨hold r hrow w hb, hi⟩) hf)
  rw [State.clearBinding, State.modVeh_veh, if_pos rfl]

theorem PlanRow.Sound.unplanned (r : PlanRow) : r.unplanned.Sound ∧ ∀ w, r.unplanned.binds w = false := by
  refine ⟨⟨?_, fun _ => rfl, ?_⟩, fun w => ?_⟩ <;> simp [PlanRow.unplanned, PlanRow.binds]

theorem PlanRow.Sound.goneRow {r : PlanRow} (h : r.bound.isSome = true) : r.goneRow.Sound ∧ ∀ w, r.goneRow.binds w = false := by
  refine ⟨⟨fun _ => h, ?_, ?_⟩, fun w => ?_⟩ <;> simp [PlanRow.goneRow, PlanRow.binds]

theorem PlanRow.Sound.missedRow (r : PlanRow) : r.missedRow.Sound ∧ ∀ w, r.missedRow.binds w = false := by
  refine ⟨⟨?_, ?_, ?_⟩, fun w => ?_⟩ <;> simp [PlanRow.missedRow, PlanRow.binds]

theorem State.Sound.keepsOwing (h : s.Sound X L) (l : Option LaneNo) : (s.oweStepAt l).Sound X L := h.keeps.oweStepAt.sound

/-- The call of a bus under way is undone, if it has one (R144, R145). -/
theorem State.Sound.undoCall (h : s.Sound X L) (hv : v ∈ X) : (s.undoCall v).Sound X L := by
  rcases s.undoCall_cases v with e | ⟨i, r, hi, -, -, e⟩ <;> rw [e]
  · exact h
  · exact (h.unbind hv hi fun r _ => PlanRow.Sound.unplanned r).keepsOwing _

theorem State.Sound.unbindBound (h : s.Sound X L) (hv : v ∈ X) : (s.unbindBound v).Sound X L := by
  rcases s.unbindBound_cases v with e | ⟨i, r, hi, -, -, e⟩ <;> rw [e]
  · exact h
  · exact h.unbind hv hi fun r _ => PlanRow.Sound.unplanned r

/-- A vehicle whose call has been undone has no CALLED row. -/
theorem State.undoCall_notCalled (s : State) (v : Slot) : ¬ (s.undoCall v).CallHeld v := by
  rintro ⟨r, hr, hc⟩
  have hbr : ∀ {i : Nat} {r : PlanRow}, (s.veh v).boundRow = some i → s.row i = some r → r.state = .called →
      ((s.undoCall v).veh v).boundRow = none := fun hi hr hc => (s.undoCall_called hi hr hc).2
  rcases s.undoCall_cases v with e | ⟨i, x, hi, hx, hxc, -⟩
  · rw [e] at hr hbr
    obtain ⟨i, hi, hrow⟩ := Option.bind_eq_some_iff.mp hr
    rw [hbr hi hrow hc] at hi
    cases hi
  · rw [State.boundPlan, hbr hi hx hxc] at hr
    cases hr

theorem State.unbindBound_callHeld (s : State) (v : Slot) (h : ¬ s.CallHeld v) : ¬ (s.unbindBound v).CallHeld v := by
  rcases s.unbindBound_cases v with e | ⟨i, x, hi, hx, hb, e⟩
  · rw [e]; exact h
  · rintro ⟨r, hr, -⟩
    rw [State.boundPlan, (s.unbindBound_bound hi hx hb).2] at hr
    cases hr

end

end Sys2Proof.Machine
end

section
/-! What the gate, the vehicle orders and the lane reports keep of the invariant (R7 to R18, R28 to R34). -/

namespace Sys2Proof.Machine

section
variable {s t u : State} {v w : Slot} {l m o : LaneNo} {X : Set Slot} {L : Set LaneNo} {before : VehicleState}

/-! ### Marks (R25) -/

/-- The entry tests of a lane keep the invariant. -/
theorem State.Sound.remarks (h : s.Sound X L) (hr : s.Remarks t) (hw : s.Works t)
    (hout : ∀ v, s.inSomeLane v = false → t.veh v = s.veh v) : t.Sound X L := by
  have hbound (v : Slot) : (t.veh v).boundRow = (s.veh v).boundRow := by obtain ⟨m, e⟩ := hr.veh v; rw [e]
  have hstate (v : Slot) : (t.veh v).state = (s.veh v).state := by obtain ⟨m, e⟩ := hr.veh v; rw [e]
  have hloc (v : Slot) : (t.veh v).location = (s.veh v).location := by obtain ⟨m, e⟩ := hr.veh v; rw [e]
  have hshift (v : Slot) : (t.veh v).shift = (s.veh v).shift := by obtain ⟨m, e⟩ := hr.veh v; rw [e]
  have hp : s.SamePlan t := .of_ds hr.ds hbound
  refine ⟨fun v hx => by rw [hw.tag]; exact h.tags v hx, fun v hx => ?_, fun v hx l m hl => ?_, fun l v hl => ?_,
    h.lanes.congr hr.lane hw.units, h.connects.keep hw hr.lanes fun v hv => .inl (by rw [hstate]; exact hv),
    h.desk.of_stc hr.stc, h.plan.same hp hw⟩
  · have hst := h.stands v hx
    refine ⟨by rw [hstate, hloc, hr.footing]; exact hst.fits, fun h0 => ?_, by rw [hshift, hstate]; exact hst.shift,
      by rw [hloc, hshift]; exact hst.blocker, fun hno => ?_, by rw [hstate, hp.callHeld]; exact hst.call⟩
    · rw [hw.tag] at h0
      by_cases hin : s.inSomeLane v = false
      · rw [hout v hin]; exact hst.empty h0
      · refine absurd (State.inSomeLane_false_iff.mpr fun l => ?_) hin
        have hfits := hst.fits
        rw [hst.empty h0] at hfits
        generalize s.footing v = f at hfits
        cases hfits
        rfl
    · rw [State.inSomeLane_congr (hr.footing v)] at hno
      rw [hout v hno]
      exact hst.misorder hno
  · rw [hloc] at hl
    rw [hp.shiftRecord]
    exact h.blocks v hx l m hl
  · rw [hp.shiftRecord] at hl
    rw [State.presentIn_congr (hr.footing v), hloc, hr.ds]
    exact h.shifts l v hl

theorem State.Sound.testLane (h : s.Sound X L) (l : LaneNo) : (s.testLane l).Sound X L :=
  h.remarks (s.testLane_remarks l) (.testLane (.refl s)) fun _ hv => s.testLane_outside l hv

theorem State.Sound.testAllLanes (h : s.Sound X L) : s.testAllLanes.Sound X L :=
  h.remarks s.testAllLanes_remarks (.testAllLanes (.refl s)) fun _ hv => s.testAllLanes_outside hv

/-! ### A vehicle comes to stand PRESENT in a lane -/

/-- A vehicle under way whose only entry is a PRESENT one stands when it is PARKED there. -/
theorem State.Sound.standParked (h : s.Sound (insert v X) L) (hst : (s.veh v).state = .parked)
    (hloc : (s.veh v).location = .lane l .present none) (hfoot : s.footing v = .parked v l)
    (hs : (s.veh v).shift = false) (hcall : ¬ s.CallHeld v) (hrec : s.shiftRecord l ≠ .shifting v) : s.Sound X L := by
  refine h.land ⟨by rw [hst, hloc, hfoot]; exact .parked l, fun h0 => absurd h0 (h.tags v (.inl rfl)),
    fun h1 => (by rw [hs] at h1; cases h1), fun l m hl => (by rw [hloc] at hl; cases hl), fun hno => ?_,
    ⟨fun hc => (by rw [hst] at hc; simp at hc), fun hc => absurd hc hcall⟩⟩
    (fun l m hl => (by rw [hloc] at hl; cases hl)) fun k hk hp => ?_
  · have := State.inSomeLane_false_iff.mp hno l
    rw [hfoot] at this
    simp [Footing.parked] at this
  · by_cases hkl : l = k
    · subst hkl; exact absurd hk hrec
    · rw [State.presentIn_eq_footing, hfoot] at hp
      simp [Footing.parked, hkl] at hp

/-- A vehicle under way is PARKED where its entry is (R29, R30). -/
theorem State.Sound.parkIn (h : s.Sound (insert v X) L) (hfoot : s.footing v = .parked v l) (hcall : ¬ s.CallHeld v)
    (hrec : s.shiftRecord l ≠ .shifting v) : (s.parkIn v l).Sound X L := by
  unfold State.parkIn
  refine State.Sound.testLane ?_ l
  have hk := (h.keeps.modVeh (.inl rfl) (f := fun r =>
    { r with state := .parked, location := .lane l .present none, shift := false }) rfl rfl (.inl rfl)).sound
  refine hk.standParked (l := l) ?_ ?_ (by rw [State.modVeh_footing]; exact hfoot) ?_ ?_ hrec
  · rw [State.modVeh_veh, if_pos rfl]
  · rw [State.modVeh_veh, if_pos rfl]
  · rw [State.modVeh_veh, if_pos rfl]
  · rw [(State.modVeh_samePlan rfl).callHeld]; exact hcall

/-- At rest the shift record of a lane names no vehicle without a PRESENT entry there. -/
theorem State.Sound.notShifting (h : s.Sound X ∅) (hrest : s.ds.stepDue = []) (hp : s.presentIn l v = false) :
    s.shiftRecord l ≠ .shifting v := fun hr => by
  rcases h.shifts l v hr with ⟨hpres, -⟩ | ⟨-, hdue | hL⟩
  · rw [hp] at hpres; cases hpres
  · rw [hrest] at hdue; cases hdue
  · exact hL

/-! ### The gate (R8 to R14) -/

theorem State.Unbinds.shiftRecord (h : s.Unbinds v t) (l : LaneNo) : t.shiftRecord l = s.shiftRecord l := by
  have e : t.ds.shifts = s.ds.shifts := by rw [h.core]
  simp only [State.shiftRecord, e]

theorem State.Afoot.unbinds (h : s.Afoot v) (k : s.Unbinds v t) (hc : ¬ t.CallHeld v) : t.Afoot v := by
  obtain ⟨b, hb⟩ := k.veh
  exact ⟨by rw [k.footing]; exact h.footing, by rw [hb]; exact h.shift, by rw [hb]; exact h.misorder, hc⟩

theorem State.Stands.afoot (h : s.Stands v) (hf : s.footing v = .none) (hs : (s.veh v).state ≠ .toBerth)
    (hc : onCall (s.veh v) = false) : s.Afoot v :=
  ⟨hf, h.shift_false hs, h.misorder (Footing.entries_none _ (fun _ => rfl) hf).1, h.notCalled hc⟩

theorem State.Stands.footing_out (h : s.Stands v) (hs : (s.veh v).state = .out) : s.footing v = .none := by
  have hfits := h.fits
  rw [hs] at hfits
  generalize (s.veh v).location = loc at hfits
  generalize hf : s.footing v = f at hfits
  cases hfits
  rfl

theorem State.Stands.out (h : s.Stands v) (hs : (s.veh v).state = .out) : s.Afoot v :=
  h.afoot (h.footing_out hs) (by rw [hs]; simp) (by simp [onCall, hs])

/-- A bus withdrawn from every place, its call undone if it had one, is afoot. -/
theorem State.Sound.recall (h : s.Sound ∅ L) (ht : (s.veh v).tag ≠ 0) :
    ((s.withdraw v none).uncalled v (onCall (s.veh v))).Sound (insert v ∅) L
      ∧ ((s.withdraw v none).uncalled v (onCall (s.veh v))).Afoot v := by
  have hk := (h.keeps.lift ht).withdraw none
  unfold State.uncalled
  cases hc : onCall (s.veh v)
  · refine ⟨hk.sound, State.withdraw_afoot ?_⟩
    rw [hk.plan.callHeld]
    exact (h.stands v id).notCalled hc
  · have hun := (s.withdraw v none).undoCall_unbinds v
    have hcall := (s.withdraw v none).undoCall_notCalled v
    obtain ⟨b, hb⟩ := hun.veh
    exact ⟨hk.sound.undoCall (.inl rfl), by rw [if_pos rfl, hun.footing, State.withdraw_footing, Footing.only_none],
      by rw [if_pos rfl, hb, State.withdraw_veh], by rw [if_pos rfl, hb, State.withdraw_veh], hcall⟩

theorem State.Sound.gateIn (h : s.Sound ∅ L) (ht : (s.veh v).tag ≠ 0) : (s.gateIn v).Sound ∅ L := by
  by_cases hout : (s.veh v).state = .out
  · rw [State.gateIn, if_pos hout]
    exact ((h.keeps.lift ht).enter ((h.stands v id).out hout)).sound
  · rw [State.gateIn_again hout]
    have hy : (s.yardConflict v (s.veh v).state kindGateIn.toNat).veh v = s.veh v := State.yardConflict_veh _ _ _ _ _
    obtain ⟨hs, ha⟩ := (h.yardConflict (x := v) (b := (s.veh v).state) (n := kindGateIn.toNat)).recall (v := v)
      (by rw [hy]; exact ht)
    rw [hy] at hs ha
    exact (hs.keeps.enter ha).sound

theorem State.Keeps.setOut (h : s.Keeps (insert v X) L t) (ha : t.Afoot v) : s.Keeps X L (t.setOut v) :=
  h.stray ha rfl rfl ha.shift ha.misorder .out (by simp)

/-- A vehicle and its row let each other go, and the vehicle is OUT: the two may be done in either order. -/
theorem State.goneOut_eq (s : State) (v : Slot) (i : Nat) (f : PlanRow → PlanRow) :
    ((s.modRow i f).setOut v).clearBinding v = ((s.modRow i f).clearBinding v).setOut v := by
  simp only [State.setOut, State.clearBinding, State.modVeh_eq, State.setVeh_setVeh, State.setVeh_veh, if_true]

theorem State.Sound.completeCall (h : s.Sound ∅ L) (ht : (s.veh v).tag ≠ 0) (hc : onCall (s.veh v) = true) :
    (s.completeCall v).Sound ∅ L := by
  obtain ⟨r, hplan, hcalled⟩ := (h.stands v id).call.mp (onCall_iff.mp hc)
  obtain ⟨i, hi, hr⟩ := Option.bind_eq_some_iff.mp hplan
  have hk := (h.keeps.lift ht).withdraw none
  have hi' : ((s.withdraw v none).veh v).boundRow = some i := by rw [hk.plan.boundRow]; exact hi
  have hun := hk.sound.unbind (.inl rfl) hi' (f := PlanRow.goneRow) fun x hx => by
    rw [hk.plan.row, hr] at hx
    cases hx
    exact PlanRow.Sound.goneRow ((h.plan.active r (State.row_mem hr)).names (.inr (.inl hcalled)))
  have hafoot : (((s.withdraw v none).modRow i PlanRow.goneRow).clearBinding v).Afoot v := by
    refine ⟨by rw [State.clearBinding_footing, State.modRow_footing, State.withdraw_footing, Footing.only_none], ?_, ?_, ?_⟩
    · rw [State.clearBinding, State.modVeh_veh, if_pos rfl, State.modRow_veh, State.withdraw_veh]
    · rw [State.clearBinding, State.modVeh_veh, if_pos rfl, State.modRow_veh, State.withdraw_veh]
    · rintro ⟨x, hx, -⟩
      rw [State.boundPlan, State.clearBinding, State.modVeh_veh, if_pos rfl] at hx
      cases hx
  rw [State.completeCall_eq hi hr]
  refine State.Sound.keepsOwing (State.Sound.notify ?_) _
  rw [State.gone, State.goneOut_eq]
  exact (hun.keeps.setOut hafoot).sound

theorem State.Sound.gateOut (h : s.Sound ∅ L) (ht : (s.veh v).tag ≠ 0) : (s.gateOut v).Sound ∅ L := by
  unfold State.gateOut
  split
  · exact h.yardConflict
  split
  · next hc => exact h.completeCall ht hc
  · next hc =>
    have hk := ((h.raise (f := .unscheduledExit)).keeps.lift ht).withdraw none
    generalize hx : ((s.raise .unscheduledExit).withdraw v none) = x at hk
    have hcall : ¬ x.CallHeld v := by
      rw [hk.plan.callHeld]
      exact (h.stands v id).notCalled (by simpa using hc)
    have ha : x.Afoot v := hx ▸ State.withdraw_afoot (hx ▸ hcall)
    have hun := x.unbindBound_unbinds v
    exact ((hk.sound.unbindBound (.inl rfl)).keeps.setOut (ha.unbinds hun (x.unbindBound_callHeld v hcall))).sound

/-! ### Vehicle orders (R16 to R18) -/

theorem State.Sound.yardSetOut (h : s.Sound ∅ L) (v : Slot) : (s.yardSetOut v).2.Sound ∅ L := by
  unfold State.yardSetOut
  split
  · exact h
  split
  · exact h
  split
  · exact h
  next ht hc _ =>
  have hk := (h.keeps.lift ht).withdraw none
  have hcall : ¬ (s.withdraw v none).CallHeld v := by
    rw [hk.plan.callHeld]
    exact (h.stands v id).notCalled (by simpa using hc)
  exact ((hk.sound.unbindBound (.inl rfl)).keeps.setOut ((State.withdraw_afoot hcall).unbinds
    ((s.withdraw v none).unbindBound_unbinds v) (State.unbindBound_callHeld _ v hcall))).sound

theorem State.Sound.yardSet (h : s.Sound ∅ ∅) (hrest : s.ds.stepDue = []) (v : Slot) (l : LaneNo) :
    (s.yardSet v l).2.Sound ∅ ∅ := by
  by_cases hok : (s.veh v).tag ≠ 0 ∧ onCall (s.veh v) = false ∧ s.entry l v = none ∧ s.units v ≤ s.room l
  swap
  · rw [State.yardSet_refused]
    · exact h
    · by_contra hno
      refine hok ⟨fun e => hno (.inl e), ?_, ?_, ?_⟩
      · by_contra hc
        rcases onCall_iff.mp (by simpa using hc) with e | e
        · exact hno (.inr (.inl e))
        · exact hno (.inr (.inr (.inl e)))
      · by_contra he
        exact hno (.inr (.inr (.inr (.inl he))))
      · by_contra hroom
        exact hno (.inr (.inr (.inr (.inr (Nat.not_le.mp hroom)))))
  obtain ⟨ht, hc, he, hroom⟩ := hok
  rw [State.yardSet_stationed ht hc he hroom]
  refine State.Sound.testLane ?_ l
  have hmoved : s.Keeps (insert v ∅) ∅ (s.moved v l) :=
    ((h.keeps.lift ht).addAtTail (.inl rfl) (e := ⟨v, .present, none⟩) rfl he hroom).withdraw (some l)
  have hk : s.Keeps (insert v ∅) ∅ (s.stationed v l) := by
    unfold State.stationed
    split
    · exact (hmoved.modMarks (.inl rfl) (f := fun r => { r with arrival := (s.moved v l).ycs.minute }) rfl rfl rfl).modVeh
        (.inl rfl) rfl rfl (.inl rfl)
    · exact hmoved.modVeh (.inl rfl) rfl rfl (.inl rfl)
  have hveh := s.stationed_veh v l
  have hpres : s.presentIn l v = false := by
    rw [State.presentIn_eq_footing, (State.entries_eq_nil_iff l).mpr he]; rfl
  refine hk.sound.standParked (l := l) (by rw [hveh]) (by rw [hveh]) (s.stationed_footing v l he) (by rw [hveh]) ?_ ?_
  · rw [hk.plan.callHeld]; exact (h.stands v id).notCalled hc
  · rw [hk.plan.shiftRecord]; exact h.notShifting hrest hpres

/-- A bus with no bound row is held, or is no longer (R16). -/
theorem State.Sound.setHeld (h : s.Sound X L) (hv : v ∈ X) (held : Bool) (hb : held = true → (s.veh v).boundRow = none) :
    (s.modVeh v fun r => { r with held := held }).Sound X L := by
  generalize ht : (s.modVeh v fun r => { r with held := held }) = t
  have hveh (w : Slot) : t.veh w = if v = w then { s.veh w with held := held } else s.veh w := by
    rw [← ht, State.modVeh_veh]
  have hfoot (w : Slot) : t.footing w = s.footing w := by rw [← ht, State.modVeh_footing]
  have hp : s.SamePlan t := ht ▸ State.modVeh_samePlan rfl
  have hunits (w : Slot) : t.units w = s.units w := by
    simp only [State.units, hveh]
    split <;> rfl
  have hrow (i : Nat) : t.row i = s.row i := hp.row i
  refine ⟨fun w hx => ?_, fun w hx => ?_, fun w hx l m hl => ?_, fun l w hr => ?_, h.lanes.congr (fun m => by rw [← ht]; rfl) hunits,
    fun c w hc => ?_, h.desk.of_stc (by rw [← ht]; rfl), ⟨fun w i => ?_, fun w hw => ?_, ?_, ?_, ?_⟩⟩
  · rw [hveh]; split
    · exact h.tags w hx
    · exact h.tags w hx
  · have hne : v ≠ w := fun e => hx (e ▸ hv)
    exact (h.stands w hx).spared ⟨by rw [hveh, if_neg hne], hfoot w⟩ (hp.callHeld w)
  · have hne : v ≠ w := fun e => hx (e ▸ hv)
    rw [hveh, if_neg hne] at hl
    rw [hp.shiftRecord]
    exact h.blocks w hx l m hl
  · rw [hp.shiftRecord] at hr
    rw [State.presentIn_congr (hfoot w)]
    refine (h.shifts l w hr).imp (fun k => ⟨k.1, fun hx => ?_⟩) (fun k => ⟨k.1, k.2.imp (hp.due l) id⟩)
    have hne : v ≠ w := fun e => hx (e ▸ hv)
    rw [hveh, if_neg hne]
    exact k.2 hx
  · have hpark := h.connects c w (by rw [← ht] at hc; exact hc)
    have hlane (m : LaneNo) : t.lane m = s.lane m := by rw [← ht]; rfl
    have hcharger : t.charger c = s.charger c := by rw [← ht]; rfl
    have hcov := State.covers_congr hlane hunits
    have hstate : (t.veh w).state = (s.veh w).state := by rw [hveh]; split <;> rfl
    simpa only [State.parkedAt, hcov, hstate, hcharger] using hpark
  · rw [hrow, hp.boundRow]; exact h.plan.bound w i
  · rw [hp.boundRow]
    rw [hveh] at hw
    split at hw
    · next e => exact e ▸ hb hw
    · exact h.plan.unheld w hw
  · rw [hp.active]; exact h.plan.active
  · rw [hp.standby]
    intro r hr
    obtain ⟨hs, hbd, hm, htag⟩ := h.plan.standby r hr
    refine ⟨hs, hbd, hm, fun w hw => ?_⟩
    rw [hveh]
    split
    · exact htag w hw
    · exact htag w hw
  · rw [hp.swap, hp.standby]; exact h.plan.pending

/-- A vehicle whose record has been written but for what says where it stands, stands as before. -/
theorem State.Sound.landSame (h : t.Sound (insert v X) L) (hs : s.Stands v) (hfoot : t.footing v = s.footing v)
    (htag : (t.veh v).tag ≠ 0) (hstate : (t.veh v).state = (s.veh v).state)
    (hloc : (t.veh v).location = (s.veh v).location) (hshift : (t.veh v).shift = (s.veh v).shift)
    (hmis : (t.veh v).misorder = (s.veh v).misorder)
    (hcall : (s.veh v).state = .called ∨ (s.veh v).state = .departing ↔ t.CallHeld v)
    (hblocks : ∀ l m, (s.veh v).location = .lane l .present (some m) → s.shiftRecord l = .shifting v)
    (hshifts : ∀ l, s.shiftRecord l = .shifting v → s.presentIn l v = true →
      ∃ m, (s.veh v).location = .lane l .present (some m))
    (hrec : ∀ l, t.shiftRecord l = s.shiftRecord l) : t.Sound X L := by
  refine h.land ⟨by rw [hstate, hloc, hfoot]; exact hs.fits, fun h0 => absurd h0 htag, by rw [hshift, hstate]; exact hs.shift,
    by rw [hloc, hshift]; exact hs.blocker, by rw [State.inSomeLane_congr hfoot, hmis]; exact hs.misorder,
    by rw [hstate]; exact hcall⟩ (by rw [hloc]; simpa only [hrec] using hblocks) ?_
  rw [hloc]
  simpa only [hrec, State.presentIn_congr hfoot] using hshifts

theorem State.Sound.shifts_stand (h : s.Sound X L) (hx : v ∉ X) (hr : s.shiftRecord l = .shifting v)
    (hp : s.presentIn l v = true) : ∃ m, (s.veh v).location = .lane l .present (some m) := by
  rcases h.shifts l v hr with ⟨-, hloc⟩ | ⟨hno, -⟩
  · exact hloc hx
  · rw [hp] at hno; cases hno

/-- A bus whose call has ended stands PARKED where it stood, or is MOVING (R128, R144). -/
theorem State.Sound.endCall (h : t.Sound (insert v X) L) (hs : s.Stands v) (hc : onCall (s.veh v) = true)
    (hfoot : t.footing v = s.footing v) (hstate : (t.veh v).state = (s.veh v).state)
    (hloc : (t.veh v).location = (s.veh v).location) (hshift : (t.veh v).shift = (s.veh v).shift)
    (hmis : (t.veh v).misorder = (s.veh v).misorder) (hcall : ¬ t.CallHeld v)
    (hshifts : ∀ l, s.shiftRecord l = .shifting v → s.presentIn l v = true →
      ∃ m, (s.veh v).location = .lane l .present (some m))
    (hrec : ∀ l, t.shiftRecord l = s.shiftRecord l) : (t.modVeh v endedCall).Sound X L := by
  have hfits := hs.fits
  have hmark := hs.shift_false (by rcases onCall_iff.mp hc with e | e <;> rw [e] <;> simp)
  rcases onCall_iff.mp hc with e | e
  · rw [e] at hfits
    generalize hlocs : (s.veh v).location = loc at hfits
    generalize hfoots : s.footing v = f at hfits
    cases hfits with
    | called l =>
      have hend : endedCall (t.veh v) = { t.veh v with state := .parked } := by
        unfold endedCall
        rw [hstate, e]
      have hk := (h.keeps.modVeh (.inl rfl) (f := endedCall) (by rw [hend]; rfl) (by rw [hend]) (.inl (by rw [hend]))).sound
      have hveh : (t.modVeh v endedCall).veh v = { t.veh v with state := .parked } := by
        rw [State.modVeh_veh, if_pos rfl, hend]
      refine hk.standParked (l := l) (by rw [hveh]) (by rw [hveh]; exact hloc.trans hlocs)
        (by rw [State.modVeh_footing, hfoot, hfoots]) (by rw [hveh]; exact hshift.trans hmark) ?_ fun hr => ?_
      · rw [(State.modVeh_samePlan (by rw [hend])).callHeld]; exact hcall
      · have hr' : s.shiftRecord l = .shifting v := (hrec l).symm.trans hr
        obtain ⟨m, hm⟩ := hshifts l hr' (by rw [State.presentIn_eq_footing, hfoots]; simp [Footing.parked])
        rw [hlocs] at hm
        cases hm
  · rw [e] at hfits
    generalize hlocs : (s.veh v).location = loc at hfits
    generalize hfoots : s.footing v = f at hfits
    cases hfits with
    | departing =>
      have hend : endedCall (t.veh v) = { t.veh v with state := .moving, location := .enRoute none } := by
        unfold endedCall
        rw [hstate, e]
      have hlane := (Footing.entries_none _ (fun _ => rfl) hfoots).1
      have ha : t.Afoot v := ⟨hfoot.trans hfoots, hshift.trans hmark, hmis.trans (hs.misorder hlane), hcall⟩
      exact (h.keeps.stray ha (by rw [hend]; rfl) (by rw [hend]) (by rw [hend]; exact ha.shift)
        (by rw [hend]; exact ha.misorder) (by rw [hend]; exact .moving none) (by rw [hend]; simp)).sound

theorem State.oweStepAt_modVeh (s : State) (v : Slot) (f : Vehicle → Vehicle) (l : Option LaneNo) :
    (s.oweStepAt l).modVeh v f = (s.modVeh v f).oweStepAt l := by
  cases l with
  | none => rfl
  | some l =>
    show (s.oweStep l).modVeh v f = (s.modVeh v f).oweStep l
    unfold State.oweStep
    by_cases h : l ∈ s.ds.stepDue
    · have h' : l ∈ (s.modVeh v f).ds.stepDue := h
      rw [if_pos h, if_pos h']
    · have h' : l ∉ (s.modVeh v f).ds.stepDue := h
      rw [if_neg h, if_neg h']
      rfl

theorem State.undoCall_eq {i : Nat} {r : PlanRow} (hi : (s.veh v).boundRow = some i) (hr : s.row i = some r)
    (hc : r.state = .called) : s.undoCall v = ((s.modRow i PlanRow.unplanned).clearBinding v).oweStepAt r.originLane := by
  simp [State.undoCall, hi, hr, hc]

theorem State.held_boundRow (s : State) (v : Slot) :
    ((s.modVeh v fun r => { r with held := true }).veh v).boundRow = (s.veh v).boundRow := by
  rw [State.modVeh_veh, if_pos rfl]

/-- The held mark and the loss of a row may come in either order (R16). -/
theorem State.held_unbind (s : State) (v : Slot) (i : Nat) :
    ((s.modVeh v fun r => { r with held := true }).modRow i PlanRow.unplanned).clearBinding v
      = ((s.modRow i PlanRow.unplanned).clearBinding v).modVeh v fun r => { r with held := true } := by
  rw [State.held_unplanned]
  simp only [State.clearBinding, State.modVeh_eq, State.setVeh_setVeh, State.setVeh_veh, if_true, State.modRow_veh]

theorem State.held_undoCall {i : Nat} {r : PlanRow} (hi : (s.veh v).boundRow = some i) (hr : s.row i = some r)
    (hc : r.state = .called) : (s.modVeh v fun r => { r with held := true }).undoCall v
      = (s.undoCall v).modVeh v fun r => { r with held := true } := by
  rw [State.undoCall_eq hi hr hc, State.undoCall_eq ((s.held_boundRow v).trans hi) hr hc, State.oweStepAt_modVeh,
    State.held_unbind]

theorem State.held_unbindBound (h : ∀ i, (s.veh v).boundRow = some i → ∃ r, s.row i = some r ∧ r.state = .bound) :
    (s.modVeh v fun r => { r with held := true }).unbindBound v
      = (s.unbindBound v).modVeh v fun r => { r with held := true } := by
  cases hi : (s.veh v).boundRow with
  | none => rw [State.unbindBound_unbound hi, State.unbindBound_unbound ((s.held_boundRow v).trans hi)]
  | some i =>
    obtain ⟨r, hr, hb⟩ := h i hi
    rw [State.unbindBound_eq hi hr hb, State.unbindBound_eq ((s.held_boundRow v).trans hi) hr hb, State.held_unbind]

theorem State.Sound.hold (h : s.Sound ∅ L) (v : Slot) : (s.hold v).2.Sound ∅ L := by
  by_cases ht : (s.veh v).tag = 0
  · rw [State.hold, if_pos ht]; exact h
  by_cases hheld : (s.veh v).held = true
  · rw [State.hold, if_neg ht, if_pos hheld]; exact h
  have hst := h.stands v id
  have hshifts : ∀ l, s.shiftRecord l = .shifting v → s.presentIn l v = true →
      ∃ m, (s.veh v).location = .lane l .present (some m) := fun l => h.shifts_stand id
  have hlift := h.lift ht
  cases hc : onCall (s.veh v)
  · have hbound : ∀ i, (s.veh v).boundRow = some i → ∃ r, s.row i = some r ∧ r.state = .bound := fun i hi => by
      obtain ⟨r, hr, hbinds⟩ := (h.plan.bound v i).mp hi
      rw [PlanRow.binds_iff] at hbinds
      refine ⟨r, hr, hbinds.1.resolve_right fun hcalled => ?_⟩
      exact hst.notCalled hc ⟨r, by rw [State.boundPlan, hi]; exact hr, hcalled⟩
    rw [State.hold_free ht (by simpa using hheld) hc, State.held_unbindBound hbound]
    have hun := s.unbindBound_unbinds v
    obtain ⟨b, hb⟩ := hun.veh
    have hnone : ((s.unbindBound v).veh v).boundRow = none := by
      cases hi : (s.veh v).boundRow with
      | none => rw [State.unbindBound_unbound hi]; exact hi
      | some i =>
        obtain ⟨r, hr, hr'⟩ := hbound i hi
        exact (State.unbindBound_bound hi hr hr').2
    have hk := (hlift.unbindBound (Set.mem_insert v ∅)).setHeld (.inl rfl) true fun _ => hnone
    have hveh : ((s.unbindBound v).modVeh v fun r => { r with held := true }).veh v
        = { s.veh v with held := true, boundRow := b } := by rw [State.modVeh_veh, if_pos rfl, hb]
    refine hk.landSame hst (by rw [State.modVeh_footing, hun.footing]) (by rw [hveh]; exact ht) (by rw [hveh]) (by rw [hveh])
      (by rw [hveh]) (by rw [hveh]) ⟨fun hd => ?_, fun hd => ?_⟩ (h.blocks v id) hshifts
      fun l => hun.shiftRecord l
    · rw [← onCall_iff, hc] at hd; cases hd
    · rw [(State.modVeh_samePlan rfl).callHeld] at hd
      exact absurd hd (s.unbindBound_callHeld v (hst.notCalled hc))
  · obtain ⟨r, hplan, hcalled⟩ := hst.call.mp (onCall_iff.mp hc)
    obtain ⟨i, hi, hr⟩ := Option.bind_eq_some_iff.mp hplan
    rw [State.hold_onCall ht (by simpa using hheld) hc, State.held_undoCall hi hr hcalled]
    have hun := s.undoCall_unbinds v
    obtain ⟨b, hb⟩ := hun.veh
    have hk := (hlift.undoCall (Set.mem_insert v ∅)).setHeld (.inl rfl) true fun _ => (State.undoCall_called hi hr hcalled).2
    have hveh : ((s.undoCall v).modVeh v fun r => { r with held := true }).veh v
        = { s.veh v with held := true, boundRow := b } := by rw [State.modVeh_veh, if_pos rfl, hb]
    refine hk.endCall hst hc (by rw [State.modVeh_footing, hun.footing]) (by rw [hveh]) (by rw [hveh]) (by rw [hveh])
      (by rw [hveh]) ?_ hshifts fun l => hun.shiftRecord l
    rw [(State.modVeh_samePlan rfl).callHeld]
    exact s.undoCall_notCalled v

theorem State.Sound.unhold (h : s.Sound ∅ L) (v : Slot) : (s.unhold v).2.Sound ∅ L := by
  unfold State.unhold
  split
  · exact h
  · next ht =>
    have hst := h.stands v id
    have hk := (h.lift ht).setHeld (.inl rfl) false fun hf => by cases hf
    have hveh : (s.modVeh v fun r => { r with held := false }).veh v = { s.veh v with held := false } := by
      rw [State.modVeh_veh, if_pos rfl]
    refine hk.landSame hst (by rw [State.modVeh_footing]) (by rw [hveh]; exact ht) (by rw [hveh]) (by rw [hveh])
      (by rw [hveh]) (by rw [hveh]) ?_ (h.blocks v id) (fun l => h.shifts_stand id) fun l => rfl
    rw [(State.modVeh_samePlan rfl).callHeld]
    exact hst.call

end

end Sys2Proof.Machine
end

section
/-! What the lane reports and the arrival timeout keep of the invariant (R7, R28 to R34). -/

namespace Sys2Proof.Machine

section
variable {s t u : State} {v w : Slot} {l m o : LaneNo} {X : Set Slot} {L : Set LaneNo} {before : VehicleState}

/-! ### A vehicle that is brought in (R7) -/

theorem State.Sound.bringIn (h : s.Sound ∅ L) (ht : (s.veh v).tag ≠ 0) (hs : (s.veh v).state = .out) (n : Nat) :
    (s.bringIn v n).Sound ∅ L := by
  have ha := (h.stands v id).out hs
  exact ((h.keeps.lift ht).stray ha (f := fun r =>
    { r with state := .moving, location := .enRoute none, arrival := s.ycs.minute }) rfl rfl ha.shift ha.misorder
    (.moving none) (by simp)).yardConflict.sound

theorem State.Sound.reported (h : s.Sound ∅ L) (ht : (s.veh v).tag ≠ 0) (n : Nat) : (s.reported v n).Sound ∅ L := by
  unfold State.reported
  split
  · next hs => exact h.bringIn ht hs n
  · exact h

theorem State.reported_stepDue (s : State) (v : Slot) (n : Nat) : (s.reported v n).ds.stepDue = s.ds.stepDue := by
  rw [(s.reported_core v n).2.2.2.1]

theorem State.reported_tag (s : State) (v : Slot) (n : Nat) : ((s.reported v n).veh v).tag = (s.veh v).tag := by
  rw [State.reported_veh, State.reporter]
  split <;> rfl

/-! ### LANE_ENTRY (R29 to R31) -/

/-- The units of a list after an arrival are those before it (R29). -/
theorem State.arrive_units (h : Awaits v (s.lane l).entries) (hn : ((s.lane l).entries.map Entry.slot).Nodup)
    (kind : LaneKind) : s.unitsIn (arrive kind v (s.lane l).entries) = s.unitsIn (s.lane l).entries := by
  obtain ⟨e, he, hslot, hst⟩ := h
  have hsplit : (s.lane l).entries.Perm (e :: (s.lane l).entries.filter fun e => e.slot ≠ v) := by
    have hone : (s.lane l).entries.filter (fun e => e.slot = v) = [e] := by
      have hmem : e ∈ (s.lane l).entries.filter fun e => e.slot = v := List.mem_filter.mpr ⟨he, by simpa using hslot⟩
      have hle := filter_slot_length hn v
      match hlist : (s.lane l).entries.filter fun e => e.slot = v with
      | [] => rw [hlist] at hmem; cases hmem
      | [x] => rw [hlist] at hmem; rw [List.mem_singleton.mp hmem]; exact hlist
      | x :: y :: rest => rw [hlist] at hle; simp at hle
    have hperm := (List.filter_append_perm (fun e => decide (e.slot = v)) (s.lane l).entries).symm
    rw [hone] at hperm
    convert hperm using 3
    simp
  rw [s.unitsIn_perm (arrive_perm kind ⟨e, he, hslot, hst⟩ hn), s.unitsIn_perm hsplit, State.unitsIn_cons,
    State.unitsIn_cons, hslot]

/-- The reserved vehicle enters its lane (R29). -/
theorem State.Sound.takeReservation (h : s.Sound (insert v X) L) (hwait : Awaits v (s.lane l).entries)
    (hfoot : ∀ k, k ≠ l → (s.footing v).entries k = []) (hrest : { s.footing v with entries := fun _ => [] } = Footing.none)
    (hcall : ¬ s.CallHeld v) (hrec : s.shiftRecord l ≠ .shifting v) : (s.takeReservation v l).Sound X L := by
  have hn := h.lanes.nodup l
  have hk : s.Keeps (insert v X) L (s.writeEntries l (arrive (s.lane l).cfg.kind v (s.lane l).entries)) := by
    refine h.keeps.writeEntries (.inl rfl) (fun w hw => arrive_others hw _ hwait hn) ?_ ?_ ?_
    · rw [((arrive_perm _ hwait hn).map _).nodup_iff, List.map_cons, List.nodup_cons]
      refine ⟨by simp, ((List.filter_sublist).map _).nodup hn⟩
    · rw [State.arrive_units hwait hn]; exact h.lanes.room l
    · intro hnil
      have := arrive_self (s.lane l).cfg.kind hwait hn
      rw [hnil] at this
      cases this
  refine hk.sound.parkIn ?_ (by rw [hk.plan.callHeld]; exact hcall) (by rw [hk.plan.shiftRecord]; exact hrec)
  rw [State.writeEntries_footing, arrive_self _ hwait hn]
  rw [Footing.ext_iff] at hrest ⊢
  obtain ⟨-, ht, hb, hw⟩ := hrest
  refine ⟨?_, ht, hb, hw⟩
  funext k
  dsimp only [Footing.parked]
  split
  · rfl
  · next hne => exact hfoot k (Ne.symm hne)

theorem State.entry_slot {e : Entry} (h : s.entry l v = some e) : e ∈ (s.footing v).entries l ∧ e.slot = v := by
  have hs : e.slot = v := by simpa using List.find?_some h
  have hmem := State.mem_footing_entries (List.mem_of_find?_eq_some h)
  rw [hs] at hmem
  exact ⟨hmem, hs⟩

theorem State.presentLane_some (h : s.presentLane v = some o) : s.presentIn o v = true := by
  simpa using List.find?_some h

theorem State.presentIn_false_of_expected {e : Entry} (hst : s.Stands v) (he : s.entry l v = some e)
    (hp : e.standing = .expected) : s.presentIn l v = false := by
  rw [State.presentIn_eq_footing]
  rcases (hst.fits.of_expected (State.entry_slot he).1 hp).2 with ⟨n, -, -, hf⟩ | ⟨o, hne, -, -, hf⟩ <;> rw [hf]
  · simp [Footing.lone, hp]
  · simp [Footing.shifted, hne]

theorem State.Sound.entryKnown (h : s.Sound ∅ ∅) (hrest : s.ds.stepDue = []) {e : Entry} (he : s.entry l v = some e) :
    (s.entryKnown v l e before).Sound ∅ ∅ := by
  unfold State.entryKnown
  split
  · exact h
  next hp =>
  have hst := h.stands v id
  have hrec := h.notShifting hrest (State.presentIn_false_of_expected hst he hp)
  obtain ⟨hmem, hslot⟩ := State.entry_slot he
  have hwait : Awaits v (s.lane l).entries := ⟨e, List.mem_of_find?_eq_some he, hslot, hp⟩
  obtain ⟨hstate, hcase⟩ := hst.fits.of_expected hmem hp
  have htag := hst.tag (by rw [hstate]; simp)
  have hcall := hst.notCalled (by simp [onCall, hstate])
  split
  · next o ho =>
    have hpres := State.presentLane_some ho
    rcases hcase with ⟨n, -, -, hf⟩ | ⟨o', hne, -, -, hf⟩
    · rw [State.presentIn_eq_footing, hf] at hpres
      by_cases hlo : l = o
      · simp [Footing.lone, hlo, hp] at hpres
      · simp [Footing.lone, hlo] at hpres
    have hoo : o' = o := by
      by_contra hno
      rw [State.presentIn_eq_footing, hf] at hpres
      simp only [Footing.shifted, hno, if_false] at hpres
      split at hpres <;> simp at hpres
    subst hoo
    extract_lets x
    have hx : s.Keeps (insert v ∅) ∅ x := (h.keeps.lift htag).yardConflict
    have hxf (w : Slot) : x.footing w = s.footing w := State.yardConflict_footing _ _ _ _
    have hk := hx.removeEntry (l := o') (Set.mem_insert v ∅)
    refine (State.Sound.keeps ?_).retry_empty.sound
    refine hk.sound.takeReservation ?_ (fun k hkl => ?_) ?_ (by rw [hk.plan.callHeld]; exact hcall)
      (by rw [hk.plan.shiftRecord]; exact hrec)
    · obtain ⟨e', he', hs', hst'⟩ := hwait
      refine ⟨e', ?_, hs', hst'⟩
      cases hox : x.entry o' v with
      | none => rw [x.removeEntry_none hox, show x.lane l = s.lane l from State.yardConflict_lane _ _ _ _ _]; exact he'
      | some y => rw [x.removeEntry_lane hox, if_neg hne, show x.lane l = s.lane l from State.yardConflict_lane _ _ _ _ _]; exact he'
    · rw [State.removeEntry_footing, hxf, hf]
      dsimp only [Footing.shifted, Footing.none]
      by_cases hok : o' = k
      · simp [hok]
      · simp [hok, Ne.symm hkl]
    · rw [State.removeEntry_footing, hxf, hf]
      rfl
  · next ho =>
    rcases hcase with ⟨n, -, -, hf⟩ | ⟨o', hne, -, -, hf⟩
    · refine (h.lift htag).takeReservation hwait (fun k hkl => ?_) ?_ hcall hrec
      · rw [hf]; simp [Footing.lone, Ne.symm hkl]
      · rw [hf]; rfl
    · have := List.find?_eq_none.mp ho o' (mem_upTo o')
      rw [State.presentIn_eq_footing, hf] at this
      simp [Footing.shifted] at this

theorem State.uncalled_notCalled (hst : s.Stands v) (hp : s.SamePlan t) : ¬ (t.uncalled v (onCall (s.veh v))).CallHeld v := by
  unfold State.uncalled
  cases hc : onCall (s.veh v)
  · rw [if_neg (by simp), hp.callHeld]; exact hst.notCalled hc
  · exact t.undoCall_notCalled v

theorem State.Sound.uncalled (h : s.Sound X L) (hv : v ∈ X) (c : Bool) : (s.uncalled v c).Sound X L := by
  unfold State.uncalled
  split
  · exact h.undoCall hv
  · exact h

theorem State.Keeps.joinFlags (h : s.Keeps X L t) (v : Slot) (l : LaneNo) (r : Vehicle) :
    s.Keeps X L (t.joinFlags v l r before) :=
  h.quiet (t.joinFlags_sameYard v l r before) (.joinFlags (.refl t))

theorem State.Sound.entryJoins (h : s.Sound ∅ ∅) (hrest : s.ds.stepDue = []) (ht : (s.veh v).tag ≠ 0)
    (he : s.entry l v = none) (hroom : s.units v ≤ s.room l) : (s.entryJoins v l before).Sound ∅ ∅ := by
  have hst := h.stands v id
  have hk : s.Keeps (insert v ∅) ∅ ((s.joinsAt v l).joinFlags v l (s.veh v) before) :=
    (((h.keeps.lift ht).addAtJoinEnd (.inl rfl) (e := ⟨v, .present, none⟩) rfl he hroom).withdraw (some l)).joinFlags v l _
  have hun := ((s.joinsAt v l).joinFlags v l (s.veh v) before).uncalled_unbinds v (onCall (s.veh v))
  rw [State.entryJoins_eq]
  refine State.Sound.parkIn (X := ∅) (hk.sound.uncalled (.inl rfl) _) (State.joinedAt_spec he).2.1
    (State.uncalled_notCalled hst hk.plan) ?_
  rw [State.joinedAt, hun.shiftRecord, hk.plan.shiftRecord]
  refine h.notShifting hrest ?_
  rw [State.presentIn_eq_footing, (State.entries_eq_nil_iff l).mpr he]
  rfl

theorem State.Sound.entryLost (h : s.Sound ∅ L) (ht : (s.veh v).tag ≠ 0) : (s.entryLost v before).Sound ∅ L := by
  obtain ⟨hs, ha⟩ := h.recall ht
  rw [State.entryLost_eq]
  exact (hs.keeps.stray ha (f := fun r => { r with state := .lost, location := .none, misorder := false, shift := false })
    rfl rfl rfl rfl .lost (by simp)).yardConflict.sound

theorem State.Sound.laneEntered (h : s.Sound ∅ ∅) (hrest : s.ds.stepDue = []) (ht : (s.veh v).tag ≠ 0) :
    (s.laneEntered v l before).Sound ∅ ∅ := by
  unfold State.laneEntered
  split
  · next e he => exact h.entryKnown hrest he
  · next he =>
    split
    · next hroom => exact h.entryJoins hrest ht he hroom
    · exact h.entryLost ht

theorem State.Sound.laneEntry (h : s.Sound ∅ ∅) (hrest : s.ds.stepDue = []) (ht : (s.veh v).tag ≠ 0) (l : LaneNo) :
    (s.laneEntry v l).Sound ∅ ∅ := by
  by_cases hlost : (s.veh v).state = .lost
  · rw [State.laneEntry_lost hlost]; exact h.yardConflict
  · rw [State.laneEntry_reported hlost]
    exact (h.reported ht 3).laneEntered (by rw [State.reported_stepDue]; exact hrest) (by rw [State.reported_tag]; exact ht)

/-! ### LANE_EXIT (R32, R33) -/

theorem State.restarted_unitsIn (s : State) (v : Slot) (n : Nat) (es : List Entry) :
    s.unitsIn (es.map fun e => if e.slot = v then { e with timer := some n } else e) = s.unitsIn es := by
  simp only [State.unitsIn, List.map_map]
  congr 1
  refine List.map_congr_left fun e _ => ?_
  simp only [Function.comp]
  split <;> rfl

theorem restarted_slots (v : Slot) (n : Nat) (es : List Entry) :
    (es.map fun e => if e.slot = v then { e with timer := some n } else e).map Entry.slot = es.map Entry.slot := by
  rw [List.map_map]
  refine List.map_congr_left fun e _ => ?_
  simp only [Function.comp]
  split <;> rfl

theorem restarted_filter (v w : Slot) (n : Nat) (es : List Entry) :
    (es.map fun e => if e.slot = v then { e with timer := some n } else e).filter (fun e => e.slot = w)
      = if v = w then (es.filter fun e => e.slot = w).map fun e => { e with timer := some n }
        else es.filter fun e => e.slot = w := by
  induction es with
  | nil => simp
  | cons e rest ih =>
    rw [List.map_cons, List.filter_cons, List.filter_cons, ih]
    by_cases hvw : v = w
    · subst hvw
      by_cases he : e.slot = v <;> simp [he]
    · by_cases he : e.slot = v
      · simp [he, hvw]
      · simp [he, hvw]

/-- The arrival timers of a vehicle's entries in a lane are started, and the chargers make their check. -/
theorem State.Keeps.restart (h : s.Keeps X L t) (hv : v ∈ X) (l : LaneNo) (n : Nat) :
    s.Keeps X L (t.modLane l fun r => { r with entries := r.entries.map fun e =>
      if e.slot = v then { e with timer := some n } else e }).recheckChargers := by
  generalize hx : (t.modLane l fun r => { r with entries := r.entries.map fun e =>
      if e.slot = v then { e with timer := some n } else e }) = x
  have hw : t.Works x := hx ▸ .modLane (.refl t)
  have hlane (m : LaneNo) : x.lane m = if l = m then { t.lane l with entries := (t.lane l).entries.map fun e =>
      if e.slot = v then { e with timer := some n } else e } else t.lane m := by
    rw [← hx, State.modLane_lane]
    split
    · next e => rw [e]
    · rfl
  have hfoot (w : Slot) (hne : w ≠ v) : x.footing w = t.footing w := by
    rw [← hx, State.modLane_footing]
    ext1 <;> try rfl
    funext m
    dsimp only
    split
    · next e => rw [restarted_filter, if_neg (Ne.symm hne), ← e]; rfl
    · rfl
  have hpres (m : LaneNo) : x.presentIn m v = t.presentIn m v := by
    rw [State.presentIn, State.presentIn, hlane]
    split
    · next e =>
      subst e
      rw [List.any_map]
      congr 1
      funext y
      simp only [Function.comp]
      split <;> rfl
    · rfl
  have hy := x.recheckChargers_sameYard
  refine h.turn hv (.recheckChargers hw) (fun w hne => ⟨?_, ?_⟩) (.of_ds ?_ fun w => ?_) (fun m hm => .inl ?_) ?_
    (State.recheckChargers_connects x) (h.sound.desk.of_stc ?_)
  · rw [hy.veh, ← hx]; rfl
  · rw [hy.footing, hfoot w hne]
  · rw [hy.ds, ← hx]; rfl
  · rw [hy.veh, ← hx]; rfl
  · rw [State.presentIn_congr (hy.footing v), hpres]; exact hm
  · refine State.LanesFit.congr (s := x) ⟨fun m => ?_, fun m => ?_, fun m => ?_⟩ hy.lane
      (State.Works.units (.recheckChargers (.refl x)))
    all_goals
      rw [hlane]
      split
    · rw [restarted_slots]; exact h.sound.lanes.nodup l
    · exact h.sound.lanes.nodup m
    · rw [State.restarted_unitsIn, State.unitsIn_congr hw.units]; exact h.sound.lanes.room l
    · rw [State.unitsIn_congr hw.units]; exact h.sound.lanes.room m
    · exact fun hk => h.sound.lanes.front l (hk.imp id fun e => by simpa using e)
    · exact h.sound.lanes.front m
  · rw [hy.stc, ← hx]; rfl

theorem State.restarted_footing (s : State) (v : Slot) (l : LaneNo) (n : Nat) :
    (s.modLane l fun r => { r with entries := r.entries.map fun e =>
      if e.slot = v then { e with timer := some n } else e }).footing v = { s.footing v with
        entries := fun m => if l = m then ((s.footing v).entries l).map fun e => { e with timer := some n }
          else (s.footing v).entries m } := by
  rw [State.modLane_footing]
  ext1 <;> try rfl
  funext m
  dsimp only
  split
  · rw [restarted_filter, if_pos rfl]; rfl
  · rfl

/-- LANE_EXIT of the vehicle of the PRESENT entry 0 (R32). -/
theorem State.Sound.exitAtMouth (h : s.Sound ∅ L) {e : Entry} (he : s.entry l v = some e) (hp : e.standing = .present) :
    (s.exitAtMouth v l).Sound ∅ L := by
  have hst := h.stands v id
  obtain ⟨hmem, -⟩ := State.entry_slot he
  have hk0 {hs : (s.veh v).state ≠ .out} : s.Keeps (insert v ∅) L (s.removeEntry l v) :=
    (h.keeps.lift (hst.tag hs)).removeEntry (.inl rfl)
  have hfoot := s.removeEntry_footing (v := v) l v
  have hveh := State.removeEntry_veh he
  rw [hp] at hveh
  rw [State.exitAtMouth_eq]
  refine (State.Sound.keeps ?_).retry_empty.sound
  unfold State.leftMouth
  rcases hst.fits.of_present hmem hp with ⟨hstate, hloc, hf⟩ | ⟨hstate, m, hne, hloc, hf⟩
  · have hnone : (s.removeEntry l v).footing v = .none := by
      rw [hfoot, hf]
      ext1 <;> try rfl
      funext k
      by_cases hlk : l = k <;> simp [Footing.parked, Footing.none, hlk]
    have hlane := (Footing.entries_none _ (fun _ => rfl) hnone)
    have hk := hk0 (hs := by rcases hstate with e | e <;> rw [e] <;> simp)
    have hshift := hst.shift_false (by rcases hstate with e | e <;> rw [e] <;> simp)
    rw [hlane.1] at hveh
    generalize s.removeEntry l v = x at *
    have hrest : (x.modVeh v afterMouthExit).startShuntTimer v = x.modVeh v afterMouthExit := by
      unfold State.startShuntTimer
      rw [State.modVeh_veh, if_pos rfl, hveh]
      rcases hstate with e | e <;> simp [afterMouthExit, e, hloc]
    rw [hrest]
    rcases hstate with e | e
    · have hcall : ¬ x.CallHeld v := by rw [hk.plan.callHeld]; exact hst.notCalled (by simp [onCall, e])
      have hx : x.Afoot v := ⟨hnone, by rw [hveh]; simp [hshift], by rw [hveh]; simp, hcall⟩
      have hend : afterMouthExit (x.veh v) = { x.veh v with state := .moving, location := .enRoute none } := by
        rw [hveh]; simp [afterMouthExit, e, hloc]
      exact (hk.stray hx (by rw [hend]; rfl) (by rw [hend]) (by rw [hend]; exact hx.shift) (by rw [hend]; exact hx.misorder)
        (by rw [hend]; exact .moving none) (by rw [hend]; simp)).recheckChargers.sound
    · have hend : afterMouthExit (x.veh v) = { x.veh v with state := .departing, location := .enRoute none } := by
        rw [hveh]; simp [afterMouthExit, e]
      have hk1 := hk.modVeh (.inl rfl) (f := afterMouthExit) (by rw [hend]; rfl) (by rw [hend])
        (.inr (hk.sound.connects.absent hlane.2))
      have hveh1 : (x.modVeh v afterMouthExit).veh v = { x.veh v with state := .departing, location := .enRoute none } := by
        rw [State.modVeh_veh, if_pos rfl, hend]
      have hfoot1 : (x.modVeh v afterMouthExit).footing v = .none := by rw [State.modVeh_footing]; exact hnone
      refine (State.Keeps.standing hk1 ?_ ?_ (Footing.entries_none _ (fun _ => rfl) hfoot1).2 ?_ ?_).recheckChargers.sound
      · rw [hveh1, hfoot1]; exact .departing
      · rw [hveh1, hveh]; simp [hshift]
      · intro _; rw [hveh1, hveh]; simp
      · rw [hk1.plan.callHeld, hveh1]
        simpa [e] using hst.call
  · have hfx : (s.removeEntry l v).footing v = .lone m ⟨v, .expected, none⟩ := by
      rw [hfoot, hf]
      ext1 <;> try rfl
      funext k
      by_cases hlk : l = k
      · subst hlk; simp [Footing.lone, Ne.symm hne]
      · simp [Footing.shifted, Footing.lone, hlk]
    have hk := hk0 (hs := by rw [hstate]; simp)
    have hcall : ¬ (s.removeEntry l v).CallHeld v := by rw [hk.plan.callHeld]; exact hst.notCalled (by simp [onCall, hstate])
    have hin : (s.removeEntry l v).inSomeLane v = true := by
      by_contra hno
      have := State.inSomeLane_false_iff.mp (by simpa using hno) m
      rw [hfx] at this
      simp [Footing.lone] at this
    rw [hin] at hveh
    generalize s.removeEntry l v = x at *
    have hend : afterMouthExit (x.veh v) = { x.veh v with location := .lane m .expected none } := by
      rw [hveh]; simp [afterMouthExit, hstate, hloc]
    have habs (k : LaneNo) : x.presentIn k v = false := by
      rw [State.presentIn_eq_footing, hfx]
      simp only [Footing.lone]
      split <;> simp
    have hk1 := hk.modVeh (.inl rfl) (f := afterMouthExit) (by rw [hend]; rfl) (by rw [hend])
      (.inr (hk.sound.connects.absent habs))
    have hveh1 : (x.modVeh v afterMouthExit).veh v = { x.veh v with location := .lane m .expected none } := by
      rw [State.modVeh_veh, if_pos rfl, hend]
    have hfoot1 : (x.modVeh v afterMouthExit).footing v = .lone m ⟨v, .expected, none⟩ := by
      rw [State.modVeh_footing]; exact hfx
    have hxs : (x.veh v).state = .toBerth := by rw [hveh]; exact hstate
    generalize x.modVeh v afterMouthExit = y at *
    have hstart : y.startShuntTimer v = y.modLane m fun r => { r with entries := r.entries.map fun e =>
        if e.slot = v then { e with timer := some y.ss.params.arrivalTimeout } else e } := by
      unfold State.startShuntTimer
      rw [hveh1, hxs]
    rw [hstart]
    have hk2 := hk1.restart (.inl rfl) m y.ss.params.arrivalTimeout
    have hfoot2 := y.restarted_footing v m y.ss.params.arrivalTimeout
    have hveh2 : (y.modLane m fun r => { r with entries := r.entries.map fun e =>
        if e.slot = v then { e with timer := some y.ss.params.arrivalTimeout } else e }).veh v = y.veh v := rfl
    generalize (y.modLane m fun r => { r with entries := r.entries.map fun e =>
        if e.slot = v then { e with timer := some y.ss.params.arrivalTimeout } else e }) = z at *
    have hy := z.recheckChargers_sameYard
    have hfz : z.recheckChargers.footing v = .lone m ⟨v, .expected, some y.ss.params.arrivalTimeout⟩ := by
      rw [hy.footing, hfoot2, hfoot1]
      ext1 <;> try rfl
      funext k
      by_cases hmk : m = k <;> simp [Footing.lone, hmk]
    have hvz : z.recheckChargers.veh v = { x.veh v with location := .lane m .expected none } := by
      rw [hy.veh, hveh2, hveh1]
    refine (hk2.land ?_ (fun k j hl => by rw [hvz] at hl; cases hl) fun k _ hpk => ?_).sound
    · refine ⟨?_, fun h0 => absurd h0 (hk2.sound.tags v (.inl rfl)), fun _ => ?_, fun k j hl => ?_, fun hno => ?_, ?_⟩
      · rw [hvz, hfz]
        show Fits v (x.veh v).state _ _
        rw [hxs]
        exact .reserved _ _
      · rw [hvz]; exact hxs
      · rw [hvz] at hl; cases hl
      · have := State.inSomeLane_false_iff.mp hno m
        rw [hfz] at this
        simp [Footing.lone] at this
      · rw [hk2.plan.callHeld, hvz]
        show (x.veh v).state = _ ∨ (x.veh v).state = _ ↔ _
        rw [hxs]
        exact ⟨fun hc => by simp at hc, fun hc => absurd hc (hst.notCalled (by simp [onCall, hstate]))⟩
    · rw [State.presentIn_eq_footing, hfz] at hpk
      simp only [Footing.lone] at hpk
      split at hpk <;> simp at hpk

theorem State.Keeps.setMoving (h : s.Keeps (insert v X) L t) (ha : t.Afoot v) (target : Option LaneNo) :
    s.Keeps X L (t.setMoving v target) :=
  h.stray ha (f := fun r => { r with state := .moving, location := .enRoute target }) rfl rfl ha.shift ha.misorder
    (.moving target) (by simp)

/-- LANE_EXIT of a PRESENT entry other than entry 0 (R33). -/
theorem State.Sound.exitFromInside (h : s.Sound ∅ L) {e : Entry} (he : s.entry l v = some e) (hp : e.standing = .present) :
    (s.exitFromInside v l).Sound ∅ L := by
  have hst := h.stands v id
  obtain ⟨hmem, -⟩ := State.entry_slot he
  have hveh := State.removeEntry_veh he
  rw [hp] at hveh
  rw [State.exitFromInside_eq]
  refine (State.Sound.keeps (State.Sound.recheckChargers ?_)).retry_empty.sound
  have hleft {target : Option LaneNo} (ht : (s.veh v).tag ≠ 0) : s.Keeps (insert v ∅) L (s.leftInside v l target) := by
    unfold State.leftInside
    split
    · exact ((h.keeps.lift ht).removeEntry (.inl rfl)).removeEntry (.inl rfl)
    · exact (h.keeps.lift ht).removeEntry (.inl rfl)
  have hfoot (target : Option LaneNo) := s.leftInside_footing v l target
  rcases hst.fits.of_present hmem hp with ⟨hstate, hloc, hf⟩ | ⟨hstate, m, hne, hloc, hf⟩
  · have htag := hst.tag (by rcases hstate with e | e <;> rw [e] <;> simp)
    have hshift := hst.shift_false (by rcases hstate with e | e <;> rw [e] <;> simp)
    have htarget : shuntTarget (s.veh v).location = none := by rw [hloc]; rfl
    have hon : decide ((s.veh v).state = .called) = onCall (s.veh v) := by
      rcases hstate with e | e <;> simp [onCall, e]
    rw [htarget, hon]
    have hk := hleft (target := none) htag
    have hnone : (s.leftInside v l none).footing v = .none := by
      rw [hfoot, hf]
      ext1 <;> try rfl
      funext k
      by_cases hlk : l = k <;> simp [Footing.parked, Footing.none, hlk]
    have hrem : s.leftInside v l none = s.removeEntry l v := rfl
    have hmis : ((s.leftInside v l none).veh v).misorder = false := by
      rw [hrem, hveh, ← hrem, (Footing.entries_none _ (fun _ => rfl) hnone).1]
      simp
    have hsh : ((s.leftInside v l none).veh v).shift = false := by rw [hrem, hveh]; simp [hshift]
    have hun := (s.leftInside v l none).uncalled_unbinds v (onCall (s.veh v))
    obtain ⟨b, hb⟩ := hun.veh
    exact ((hk.sound.uncalled (.inl rfl) _).keeps.setMoving
      ⟨by rw [hun.footing]; exact hnone, by rw [hb]; exact hsh, by rw [hb]; exact hmis, State.uncalled_notCalled hst hk.plan⟩
      none).sound
  · have htag := hst.tag (by rw [hstate]; simp)
    have htarget : shuntTarget (s.veh v).location = some m := by rw [hloc]; rfl
    have hon : decide ((s.veh v).state = .called) = false := by simp [hstate]
    rw [htarget, hon]
    have hk := hleft (target := some m) htag
    have hnone : (s.leftInside v l (some m)).footing v = .none := by
      rw [hfoot, hf]
      ext1 <;> try rfl
      funext k
      by_cases hlk : l = k
      · simp [hlk, Footing.none]
      · by_cases hmk : m = k <;> simp [Footing.shifted, Footing.none, hlk, hmk]
    have hentry : (s.removeEntry l v).entry m v = some ⟨v, .expected, none⟩ := by
      rw [State.entry_eq_footing, s.removeEntry_footing, hf]
      simp [Footing.shifted, hne]
    have hveh2 := State.removeEntry_veh hentry
    have hrem : s.leftInside v l (some m) = (s.removeEntry l v).removeEntry m v := rfl
    have hlane := (Footing.entries_none _ (fun _ => rfl) hnone).1
    rw [← hrem, hlane] at hveh2
    refine (hk.setMoving ⟨hnone, by rw [hveh2]; simp, by rw [hveh2]; simp, ?_⟩ (some m)).sound
    rw [hk.plan.callHeld]; exact hst.notCalled (by simp [onCall, hstate])

theorem State.Sound.laneExited (h : s.Sound ∅ L) (l : LaneNo) : (s.laneExited v l before).Sound ∅ L := by
  unfold State.laneExited
  split
  · exact h.yardConflict
  next e he =>
  have hst := h.stands v id
  obtain ⟨hmem, -⟩ := State.entry_slot he
  split
  · next hp =>
    split
    · exact h.exitAtMouth he hp
    · have hs := h.yardConflict (x := v) (b := before) (n := kindLaneExit.toNat)
      refine hs.exitFromInside (e := e) ?_ hp
      rw [State.entry_congr (State.yardConflict_footing _ _ _ _)]
      exact he
  · next hp =>
    obtain ⟨hstate, -⟩ := hst.fits.of_expected hmem hp
    have hk := ((h.keeps.lift (hst.tag (by rw [hstate]; simp))).yardConflict (x := v) (b := before)
      (n := kindLaneExit.toNat)).withdraw none
    refine (hk.setMoving (State.withdraw_afoot ?_) none).sound
    rw [hk.plan.callHeld]
    exact hst.notCalled (by simp [onCall, hstate])

theorem State.Sound.laneExit (h : s.Sound ∅ L) (ht : (s.veh v).tag ≠ 0) (l : LaneNo) : (s.laneExit v l).Sound ∅ L := by
  rw [State.laneExit_reported]
  exact (h.reported ht 4).laneExited l

/-! ### Arrival timeout (R34) -/

theorem State.Sound.arrivalLapse (h : s.Sound ∅ L) (v : Slot) (l : LaneNo) : (s.arrivalLapse v l).Sound ∅ L := by
  unfold State.arrivalLapse
  split
  swap
  · exact h
  next x n he =>
  have hst := h.stands v id
  obtain ⟨hmem, -⟩ := State.entry_slot he
  obtain ⟨hstate, hcase⟩ := hst.fits.of_expected hmem rfl
  rcases hcase with ⟨n', -, -, hf⟩ | ⟨o', -, -, heq, -⟩
  swap
  · cases heq
  have hk := (h.keeps.lift (hst.tag (by rw [hstate]; simp))).removeEntry (l := l) (Set.mem_insert v ∅)
  have hnone : (s.removeEntry l v).footing v = .none := by
    rw [s.removeEntry_footing, hf]
    ext1 <;> try rfl
    funext k
    by_cases hlk : l = k <;> simp [Footing.lone, Footing.none, hlk]
  have hveh := State.removeEntry_veh he
  rw [(Footing.entries_none _ (fun _ => rfl) hnone).1] at hveh
  have ha : (s.removeEntry l v).Afoot v := ⟨hnone, by rw [hveh]; simp, by rw [hveh]; simp, by
    rw [hk.plan.callHeld]; exact hst.notCalled (by simp [onCall, hstate])⟩
  exact ((hk.setMoving ha (some l)).raise).retry_empty.sound

end

end Sys2Proof.Machine
end

section
/-! What shift steps keep of the invariant (R138 to R140), and why the steps of an event come to an end. -/

namespace Sys2Proof.Machine

section
variable {s t u : State} {v w : Slot} {l m o : LaneNo} {X : Set Slot} {L : Set LaneNo}

/-! ### Changes of the plan alone -/

/-- The plan is changed, and no vehicle comes to be called or ceases to be. -/
theorem State.Sound.redraft (h : s.Sound X L) (hv : ∀ v, ∃ b, t.veh v = { s.veh v with boundRow := b })
    (h0 : ∀ v, (s.veh v).tag = 0 → (t.veh v).boundRow = (s.veh v).boundRow) (hl : t.lanes = s.lanes) (hs : t.stc = s.stc)
    (hw : t.waitList = s.waitList) (hworks : s.Works t) (hr : t.ds.shifts = s.ds.shifts)
    (hd : ∀ l ∈ s.ds.stepDue, l ∈ t.ds.stepDue) (hcall : ∀ v, t.CallHeld v ↔ s.CallHeld v) (hplan : t.PlanHolds) :
    t.Sound X L := by
  have hstate (v : Slot) : (t.veh v).state = (s.veh v).state := by obtain ⟨b, e⟩ := hv v; rw [e]
  have hloc (v : Slot) : (t.veh v).location = (s.veh v).location := by obtain ⟨b, e⟩ := hv v; rw [e]
  have hshift (v : Slot) : (t.veh v).shift = (s.veh v).shift := by obtain ⟨b, e⟩ := hv v; rw [e]
  have hmis (v : Slot) : (t.veh v).misorder = (s.veh v).misorder := by obtain ⟨b, e⟩ := hv v; rw [e]
  have hfoot := State.footing_of_eq hl hs hw
  have hrec (l : LaneNo) : t.shiftRecord l = s.shiftRecord l := by simp [State.shiftRecord, hr]
  refine ⟨fun v hx => by rw [hworks.tag]; exact h.tags v hx, fun v hx => ?_, fun v hx l m => ?_, fun l v => ?_,
    h.lanes.congr (fun m => by simp [State.lane, hl]) hworks.units,
    h.connects.keep hworks hl fun v hp => .inl (by rw [hstate]; exact hp), h.desk.of_stc hs, hplan⟩
  · have hst := h.stands v hx
    refine ⟨by rw [hstate, hloc, hfoot]; exact hst.fits, fun ht => ?_, by rw [hshift, hstate]; exact hst.shift,
      by rw [hloc, hshift]; exact hst.blocker, by rw [State.inSomeLane_congr (hfoot v), hmis]; exact hst.misorder,
      by rw [hstate, hcall]; exact hst.call⟩
    rw [hworks.tag] at ht
    obtain ⟨b, e⟩ := hv v
    have hb := h0 v ht
    rw [e] at hb ⊢
    rw [show b = (s.veh v).boundRow from hb]
    exact hst.empty ht
  · rw [hloc, hrec]; exact h.blocks v hx l m
  · rw [hrec, State.presentIn_congr (hfoot v), hloc]
    exact fun hk => (h.shifts l v hk).imp id fun k => ⟨k.1, k.2.imp (hd l) id⟩

/-- A row is rewritten, and binds what it bound. -/
theorem State.Sound.relabel (h : s.Sound X L) {i : Nat} {f : PlanRow → PlanRow}
    (hf : ∀ r, s.row i = some r → (f r).Sound ∧ (∀ w, (f r).binds w = r.binds w)
      ∧ ((f r).state = .called ↔ r.state = .called)) : (s.modRow i f).Sound X L := by
  have hrow (j : Nat) : (s.modRow i f).row j = if i = j then (s.row j).map f else s.row j := s.modRow_row i j f
  refine h.redraft (fun v => ⟨(s.veh v).boundRow, rfl⟩) (fun _ _ => rfl) rfl rfl rfl (.of_eq rfl rfl rfl) rfl (fun _ k => k)
    (fun v => ?_) ⟨fun v j => ?_, h.plan.unheld, fun r hr => ?_, h.plan.standby, h.plan.pending⟩
  · simp only [State.CallHeld, State.boundPlan, State.modRow_veh]
    cases hb : (s.veh v).boundRow with
    | none => exact Iff.rfl
    | some j =>
      simp only [Option.bind_some, hrow]
      split
      · next e =>
        subst e
        cases hj : s.row i with
        | none => simp
        | some r => simpa using (hf r hj).2.2
      · exact Iff.rfl
  · rw [State.modRow_veh, h.plan.bound, hrow]
    split
    · next e =>
      subst e
      cases hj : s.row i with
      | none => simp
      | some r => simp [(hf r hj).2.1 v]
    · exact Iff.rfl
  · obtain ⟨j, hj⟩ := State.mem_row hr
    rw [hrow] at hj
    split at hj
    · next e =>
      subst e
      cases hi : s.row i with
      | none => rw [hi] at hj; cases hj
      | some x =>
        rw [hi] at hj
        obtain rfl := Option.some.inj hj
        exact (hf x hi).1
    · exact h.plan.active r (State.row_mem hj)

/-! ### One shift step (R139) -/

theorem State.Sound.callAtMouth (h : s.Sound X L) (l : LaneNo) : (s.callAtMouth l).Sound X L := by
  rcases s.callAtMouth_cases l with e | ⟨e, i, r, -, -, -, hr, hc, -, heq⟩
  · rw [e]; exact h
  · rw [heq]
    refine (h.relabel fun r' hr' => ?_).direct
    obtain rfl : r = r' := Option.some.inj (hr.symm.trans hr')
    have hsound := h.plan.active r (State.row_mem hr)
    exact ⟨⟨hsound.names, hsound.unnamed, fun _ => hc⟩, fun _ => rfl, Iff.rfl⟩

theorem State.callAtMouth_stepDue (s : State) (l : LaneNo) : (s.callAtMouth l).ds.stepDue = s.ds.stepDue := by
  rcases s.callAtMouth_cases l with e | ⟨e, i, r, -, -, -, -, -, -, heq⟩
  · rw [e]
  · rw [heq, State.sendCall, State.direct_ds]; rfl

/-- A lane whose step is being taken, and whose record names no bus that has left it, owes nothing. -/
theorem State.Sound.shed (h : s.Sound X {l}) (hs : ∀ v, s.shiftRecord l = .shifting v → s.presentIn l v = true) :
    s.Sound X ∅ :=
  { h with
    shifts := fun m v hm => by
      rcases h.shifts m v hm with hp | ⟨hp, hd | rfl⟩
      · exact .inl hp
      · exact .inr ⟨hp, .inl hd⟩
      · rw [hs v hm] at hp; cases hp }

theorem State.setShiftRecord_callHeld (s : State) (l : LaneNo) (r : ShiftRecord) (v : Slot) :
    (s.setShiftRecord l r).CallHeld v ↔ s.CallHeld v := by
  have : (s.setShiftRecord l r).row = s.row := funext fun i => s.setShiftRecord_row l r i
  simp [State.CallHeld, State.boundPlan, this]

/-- The record of the lane whose step is being taken is written anew. -/
theorem State.Sound.setRecord (h : s.Sound X {l}) {r : ShiftRecord}
    (hno : ∀ v, v ∉ X → ∀ m, (s.veh v).location ≠ .lane l .present (some m))
    (hr : ∀ v, r = .shifting v → v ∈ X ∧ s.presentIn l v = true) : (s.setShiftRecord l r).Sound X ∅ where
  tags := h.tags
  stands v hx := (h.stands v hx).spared ⟨by simp, by simp⟩ (s.setShiftRecord_callHeld l r v)
  blocks v hx m k hloc := by
    rw [State.setShiftRecord_veh] at hloc
    rw [State.setShiftRecord_shiftRecord]
    split
    · next e => subst e; exact absurd hloc (hno v hx k)
    · exact h.blocks v hx m k hloc
  shifts m v hm := by
    rw [State.presentIn_congr (s.setShiftRecord_footing l r)]
    rw [State.setShiftRecord_shiftRecord] at hm
    split at hm
    · next e => subst e; exact .inl ⟨(hr v hm).2, fun hx => absurd (hr v hm).1 hx⟩
    · next hne =>
      rcases h.shifts m v hm with hp | ⟨hp, hd | rfl⟩
      · exact .inl hp
      · exact .inr ⟨hp, .inl hd⟩
      · exact absurd rfl hne
  lanes := h.lanes.congr (fun _ => rfl) fun _ => rfl
  connects := h.connects
  desk := h.desk.of_stc rfl
  plan := ⟨h.plan.bound, h.plan.unheld, h.plan.active, h.plan.standby, h.plan.pending⟩

/-- While the shift of a lane's record does not stand, the lane has no shifted blocker. -/
theorem State.Sound.noBlocker (h : s.Sound X L) (hs : s.shiftStands l = false) (hx : v ∉ X) (m : LaneNo) :
    (s.veh v).location ≠ .lane l .present (some m) := by
  intro hloc
  have hrec := h.blocks v hx l m hloc
  rw [State.shiftStands, hrec] at hs
  have hfits := (h.stands v hx).fits
  rw [hloc] at hfits
  simp only at hs
  rw [State.presentIn_eq_footing] at hs
  generalize s.footing v = f at *
  generalize (s.veh v).state = st at hfits
  cases hfits
  simp [Footing.shifted] at hs

/-- The record of a vehicle under way is rewritten, and the chargers make their check. -/
theorem State.Keeps.rewrite (h : s.Keeps X L t) (hv : v ∈ X) {f : Vehicle → Vehicle}
    (hf : (f (t.veh v)).badge = (t.veh v).badge) (hb : (f (t.veh v)).boundRow = (t.veh v).boundRow) :
    s.Keeps X L (t.modVeh v f).recheckChargers := by
  have hy := (t.modVeh v f).recheckChargers_sameYard
  refine h.turn hv (.recheckChargers (State.modVeh_works hf)) (fun w hne => (State.modVeh_spares hne).trans (hy.spares w))
    ((State.modVeh_samePlan hb).trans (.of_ds hy.ds fun w => by rw [hy.veh])) (fun l hl => .inl ?_)
    (h.sound.lanes.congr (fun m => hy.lane m) ?_) (State.recheckChargers_connects _) (h.sound.desk.of_stc hy.stc)
  · rwa [State.presentIn_congr ((hy.footing v).trans (t.modVeh_footing v f))]
  · exact State.Works.units (.recheckChargers (State.modVeh_works hf))

theorem State.shuntPlacement_candidate {c : Choice} (h : s.shuntPlacement v o = some c) :
    s.candidate .shunt v c.lane = true ∧ c.lane ≠ o := by
  have hmem := bestChoice_mem _ _ h
  rw [List.mem_map] at hmem
  obtain ⟨l, hl, rfl⟩ := hmem
  simpa using (List.mem_filter.mp hl).2

/-- The footing of a vehicle that joins a lane in which it has no entry. -/
theorem State.addAtJoinEnd_footing_self {e : Entry} (hno : s.entry l e.slot = none) :
    (s.addAtJoinEnd l e).footing e.slot = { s.footing e.slot with
      entries := fun m => if l = m then [e] else (s.footing e.slot).entries m } := by
  have hnil : (s.lane l).entries.filter (fun x => x.slot = e.slot) = [] := (State.entries_eq_nil_iff l).mpr hno
  rw [State.addAtJoinEnd_eq, State.writeEntries_footing]
  ext1 <;> try rfl
  funext m
  dsimp only
  split
  · cases (s.lane l).cfg.kind <;> simp [hnil]
  · rfl

/-- What the steps of an event have before them: the lanes that are owed one, and the vehicles that can be shifted. -/
def State.effort (s : State) : Nat :=
  (Finset.univ.filter fun l => l ∈ s.ds.stepDue).card + (Finset.univ.filter fun v => (s.veh v).state = .parked).card

theorem State.effort_congr (hd : t.ds.stepDue = s.ds.stepDue) (hv : ∀ v, t.veh v = s.veh v) : t.effort = s.effort := by
  simp only [State.effort, hd, hv]

theorem State.effort_shunt (hd : ∀ m, m ∈ t.ds.stepDue → m = l ∨ m ∈ s.ds.stepDue) (hp : (s.veh v).state = .parked)
    (hn : (t.veh v).state ≠ .parked) (ho : ∀ w, w ≠ v → t.veh w = s.veh w) : t.effort ≤ s.effort := by
  have hdue : (Finset.univ.filter fun m => m ∈ t.ds.stepDue).card
      ≤ (Finset.univ.filter fun m => m ∈ s.ds.stepDue).card + 1 := by
    refine le_trans (Finset.card_le_card ?_) (Finset.card_insert_le l _)
    intro m hm
    simpa using hd m (by simpa using hm)
  have hpark : (Finset.univ.filter fun w => (t.veh w).state = .parked).card
      < (Finset.univ.filter fun w => (s.veh w).state = .parked).card := by
    refine Finset.card_lt_card (Finset.ssubset_iff_of_subset (fun w hw => ?_) |>.mpr ⟨v, by simpa using hp, by simpa using hn⟩)
    by_cases e : w = v
    · subst e; exact absurd (by simpa using hw) hn
    · rw [Finset.mem_filter] at hw ⊢
      rwa [ho w e] at hw
  unfold State.effort
  omega

/-- A PARKED vehicle gets its shunt reservation, and its lane's record names it (R139). -/
theorem State.Sound.shunt (h : s.Sound ∅ {l}) (hs : s.shiftStands l = false) (hp : s.presentIn l v = true)
    (hc : (s.veh v).state ≠ .called) {c : Choice} (hplace : s.shuntPlacement v l = some c) :
    ((s.reserveShunt v l c).setShiftRecord l (.shifting v)).Sound ∅ ∅
      ∧ ((s.reserveShunt v l c).setShiftRecord l (.shifting v)).effort ≤ s.effort := by
  have hst := h.stands v id
  obtain ⟨hcand, hne⟩ := State.shuntPlacement_candidate hplace
  have hroom := State.candidate_room hcand
  rw [State.presentIn_eq_footing, List.any_eq_true] at hp
  obtain ⟨e, he, hpe⟩ := hp
  obtain ⟨hstate, hfoot⟩ : (s.veh v).state = .parked ∧ s.footing v = .parked v l := by
    rcases hst.fits.of_present he (by simpa using hpe) with ⟨hstate, -, hf⟩ | ⟨-, m, -, hloc, -⟩
    · exact ⟨hstate.resolve_right hc, hf⟩
    · exact absurd hloc (h.noBlocker hs (fun k => k) m)
  have hno : s.entry c.lane v = none := by
    rw [← State.entries_eq_nil_iff, hfoot]
    simp [Footing.parked, Ne.symm hne]
  have hcall := hst.notCalled (by simp [onCall, hstate])
  have htag := hst.tag (by rw [hstate]; simp)
  unfold State.reserveShunt
  extract_lets p a b d f
  have hka : s.Keeps (insert v ∅) {l} a := (h.keeps.lift htag).addAtJoinEnd (.inl rfl) rfl hno hroom
  have hfa : a.footing v = .shifted v l c.lane := by
    rw [show a.footing v = _ from State.addAtJoinEnd_footing_self (e := ⟨v, .expected, none⟩) hno, hfoot]
    ext1 <;> try rfl
    funext m
    dsimp only [Footing.parked, Footing.shifted]
    by_cases hcm : c.lane = m
    · subst hcm; simp [Ne.symm hne]
    · by_cases hlm : l = m <;> simp [hcm, hlm]
  have hda : ∀ m, m ∈ a.ds.stepDue → m = c.lane ∨ m ∈ s.ds.stepDue := fun m hm => by
    rw [show a = s.addAtJoinEnd c.lane _ from rfl, State.addAtJoinEnd_eq, State.writeEntries_ds, State.oweStep_stepDue] at hm
    exact hm
  have hva (w : Slot) (hw : w ≠ v) : a.veh w = s.veh w := (s.addAtJoinEnd_spares (Ne.symm hw)).veh
  have hkf : s.Keeps (insert v ∅) {l} f := (hka.rewrite (.inl rfl) rfl rfl).direct
  have hyf : b.SameYard f := b.recheckChargers_sameYard.trans (d.direct_sameYard _ _ _)
  have hvf : f.veh v = { a.veh v with shift := true, state := .toBerth, location := .lane l .present (some c.lane) } := by
    rw [hyf.veh, show b = a.modVeh v _ from rfl, State.modVeh_veh, if_pos rfl]
  have hff : f.footing v = .shifted v l c.lane := by
    rw [hyf.footing, show b = a.modVeh v _ from rfl, State.modVeh_footing, hfa]
  have hof (w : Slot) (hw : w ≠ v) : f.veh w = s.veh w := by
    rw [hyf.veh, show b = a.modVeh v _ from rfl, State.modVeh_veh, if_neg (Ne.symm hw), hva w hw]
  have hdf : f.ds = a.ds := by rw [hyf.ds]; rfl
  have hkn := hkf.notify (n := .placed (f.veh v).tag v c.lane p c.cls .shunt)
  have hyn := f.notify_sameYard (.placed (f.veh v).tag v c.lane p c.cls .shunt)
  generalize f.notify (.placed (f.veh v).tag v c.lane p c.cls .shunt) = x at *
  have hvx : x.veh v = f.veh v := hyn.veh v
  have hfx : x.footing v = .shifted v l c.lane := by rw [hyn.footing, hff]
  have hox (w : Slot) (hw : w ≠ v) : x.veh w = s.veh w := by rw [hyn.veh, hof w hw]
  have hset : (x.setShiftRecord l (.shifting v)).Sound (insert v ∅) ∅ := by
    refine hkn.sound.setRecord (fun w hw m => ?_) fun w hw => ?_
    · rw [hox w fun e => hw (.inl e)]
      exact h.noBlocker hs (fun k => k) m
    · obtain rfl : v = w := by simpa using hw
      refine ⟨.inl rfl, ?_⟩
      rw [State.presentIn_eq_footing, hfx]
      simp [Footing.shifted]
  refine ⟨hset.land ⟨?_, fun h0 => absurd h0 (hset.tags v (.inl rfl)), fun _ => ?_, fun _ _ _ => ?_, fun hin => ?_,
    ⟨fun hk => ?_, fun hk => ?_⟩⟩ (fun k m hk => ?_) fun k _ _ => ?_, ?_⟩
  · rw [State.setShiftRecord_veh, State.setShiftRecord_footing, hvx, hvf, hfx]
    exact .shifted _ _ (Ne.symm hne)
  · rw [State.setShiftRecord_veh, hvx, hvf]
  · rw [State.setShiftRecord_veh, hvx, hvf]
  · have := State.inSomeLane_false_iff.mp hin l
    rw [State.setShiftRecord_footing, hfx] at this
    simp [Footing.shifted] at this
  · rw [State.setShiftRecord_veh, hvx, hvf] at hk
    simp at hk
  · rw [State.setShiftRecord_callHeld, hkn.plan.callHeld] at hk
    exact absurd hk hcall
  · rw [State.setShiftRecord_veh, hvx, hvf] at hk
    cases hk
    simp
  · rw [State.setShiftRecord_shiftRecord] at *
    rw [State.setShiftRecord_veh, hvx, hvf]
    by_cases e : l = k
    · exact ⟨c.lane, by rw [e]⟩
    · exfalso
      next hk hpk =>
      rw [State.presentIn_congr (x.setShiftRecord_footing l _), State.presentIn_eq_footing, hfx] at hpk
      simp only [Footing.shifted, e, if_false] at hpk
      split at hpk <;> simp at hpk
  · refine State.effort_shunt (l := c.lane) (v := v) (fun m hm => hda m ?_) hstate ?_ fun w hw => ?_
    · rw [State.setShiftRecord_ds_stepDue, hyn.ds, hdf] at hm
      exact hm
    · rw [State.setShiftRecord_veh, hvx, hvf]; simp
    · rw [State.setShiftRecord_veh, hox w hw]

theorem State.presentIn_of_head {e : Entry} (he : (s.lane l).entries.head? = some e) (hp : e.standing = .present) :
    s.presentIn l e.slot = true := by
  simp only [State.presentIn, List.any_eq_true]
  exact ⟨e, List.mem_of_mem_head? he, by simp [hp]⟩

theorem State.Sound.shiftStep (h : s.Sound ∅ {l}) :
    (s.shiftStep l).Sound ∅ ∅ ∧ (s.shiftStep l).effort ≤ s.effort := by
  have ha := h.callAtMouth l
  have heff : (s.callAtMouth l).effort = s.effort :=
    State.effort_congr (s.callAtMouth_stepDue l) fun v => (s.callAtMouth_spares l v).veh
  unfold State.shiftStep
  dsimp only
  rw [← heff]
  generalize s.callAtMouth l = a at *
  split
  · next hs =>
    refine ⟨ha.shed fun v hv => ?_, le_rfl⟩
    rw [State.shiftStands, hv] at hs
    exact hs
  · next hs =>
    have hs : a.shiftStands l = false := by simpa using hs
    have hset {r : ShiftRecord} (hr : ∀ v, r ≠ .shifting v) : (a.setShiftRecord l r).Sound ∅ ∅ :=
      ha.setRecord (fun v _ m => ha.noBlocker hs (fun k => k) m) fun v hv => absurd hv (hr v)
    rcases a.shiftEntry0_cases l with e | ⟨e, c, -, hhead, hp, hc, hplace, heq⟩ | ⟨b, i, e⟩
    · rw [e]
      exact ⟨hset (by simp), (State.effort_congr rfl fun _ => rfl).le⟩
    · rw [heq]
      exact ha.shunt hs (State.presentIn_of_head hhead hp) hc hplace
    · rw [e]
      have hfull : (a.setShiftRecord l (.noRoom b)).Sound ∅ ∅ := hset (by simp)
      refine ⟨?_, (State.effort_congr ?_ fun v => (a.shuntFull_spares l b i v).veh).le⟩
      · unfold State.shuntFull
        extract_lets k x
        split
        · exact hfull
        · exact hfull.raise.notify
      · unfold State.shuntFull
        extract_lets k x
        split
        · rfl
        · simp [x]

/-! ### The shift steps of an event (R140) -/

theorem State.Sound.dropStep (h : s.Sound X ∅) (l : LaneNo) : (s.dropStep l).Sound X {l} :=
  { tags := h.tags
    stands := fun v hx => (h.stands v hx).spared ⟨rfl, by simp⟩ Iff.rfl
    blocks := h.blocks
    shifts := fun m v hm => by
      rcases h.shifts m v hm with hp | ⟨hp, hd⟩
      · exact .inl hp
      · refine .inr ⟨hp, ?_⟩
        by_cases e : m = l
        · exact .inr e
        · exact .inl (List.mem_filter.mpr ⟨hd.resolve_right id, by simpa using e⟩)
    lanes := h.lanes.congr (fun _ => rfl) fun _ => rfl
    connects := h.connects
    desk := h.desk.of_stc rfl
    plan := ⟨h.plan.bound, h.plan.unheld, h.plan.active, h.plan.standby, h.plan.pending⟩ }

theorem State.dropStep_effort (hl : l ∈ s.ds.stepDue) : (s.dropStep l).effort < s.effort := by
  have : (Finset.univ.filter fun m => m ∈ (s.dropStep l).ds.stepDue).card
      < (Finset.univ.filter fun m => m ∈ s.ds.stepDue).card := by
    refine Finset.card_lt_card (Finset.ssubset_iff_of_subset (fun m hm => ?_) |>.mpr
      ⟨l, by simpa using hl, by simp [State.dropStep]⟩)
    simp only [State.dropStep, Finset.mem_filter, Finset.mem_univ, true_and, List.mem_filter] at hm ⊢
    exact hm.1
  exact Nat.add_lt_add_right this _

theorem State.nextStep_some (h : s.nextStep = some l) : l ∈ s.ds.stepDue := by
  simpa using List.find?_some h

theorem State.nextStep_none (h : s.nextStep = none) : s.ds.stepDue = [] := by
  rw [List.eq_nil_iff_forall_not_mem]
  exact fun l => by simpa using List.find?_eq_none.mp h l (mem_upTo l)

/-- With fuel for what is before them, the shift steps of an event come to an end. -/
theorem State.Sound.shiftSteps (h : s.Sound ∅ ∅) {fuel : Nat} (hf : s.effort < fuel) :
    (s.shiftSteps fuel).Sound ∅ ∅ ∧ (s.shiftSteps fuel).ds.stepDue = [] := by
  induction fuel generalizing s with
  | zero => cases hf
  | succ fuel ih =>
    unfold State.shiftSteps
    split
    · next l hl =>
      obtain ⟨hs, he⟩ := (h.dropStep l).shiftStep
      have := State.dropStep_effort (State.nextStep_some hl)
      exact ih hs (by omega)
    · next hn => exact ⟨h, State.nextStep_none hn⟩

theorem State.effort_lt_fuel (s : State) : s.effort < stepFuel := by
  have h1 := Finset.card_filter_le (Finset.univ : Finset LaneNo) fun l => l ∈ s.ds.stepDue
  have h2 := Finset.card_filter_le (Finset.univ : Finset Slot) fun v => (s.veh v).state = .parked
  have e1 : (Finset.univ : Finset LaneNo).card = 32 := Finset.card_fin 32
  have e2 : (Finset.univ : Finset Slot).card = 256 := Finset.card_fin 256
  unfold State.effort stepFuel
  omega

end

end Sys2Proof.Machine
end

section
/-! What the exchange of the banks and the end of an event keep of the invariant (R118, R119, R140). -/

namespace Sys2Proof.Machine

section
variable {s t u : State} {v w : Slot} {l m : LaneNo} {X : Set Slot} {L : Set LaneNo} {bank : List PlanRow} {i j : Nat}

/-! ### The bindings of a new bank (R116, R118) -/

/-- Whether a row binds a slot in state BOUND. -/
def PlanRow.holds (r : PlanRow) (v : Slot) : Prop := r.state = .bound ∧ r.bound = some v

theorem boundSlots_cons (r : PlanRow) (rest : List PlanRow) : boundSlots (r :: rest) =
    if r.state = .bound then r.bound.toList ++ boundSlots rest else boundSlots rest := by
  unfold boundSlots
  by_cases h : r.state = .bound
  · cases hb : r.bound <;> simp [h, hb]
  · simp [h]

theorem mem_boundSlots : v ∈ boundSlots bank ↔ ∃ r ∈ bank, r.holds v := by
  simp [boundSlots, PlanRow.holds, and_assoc]

/-- No two rows of a bank whose bound slots differ hold one bus. -/
theorem holds_unique (hn : (boundSlots bank).Nodup) {a b : PlanRow} (ha : bank[i]? = some a) (hb : bank[j]? = some b)
    (hva : a.holds v) (hvb : b.holds v) : i = j := by
  induction bank generalizing i j with
  | nil => cases ha
  | cons r rest ih =>
    rw [boundSlots_cons] at hn
    have hrest : (boundSlots rest).Nodup := by
      split at hn
      · exact (List.nodup_append.mp hn).2.1
      · exact hn
    have hno (x : PlanRow) (hr : r.holds v) (hx : x ∈ rest) : ¬ x.holds v := fun hxv => by
      rw [if_pos hr.1, hr.2] at hn
      exact (List.nodup_cons.mp hn).1 (mem_boundSlots.mpr ⟨x, hx, hxv⟩)
    cases i with
    | zero =>
      obtain rfl := Option.some.inj ha
      cases j with
      | zero => rfl
      | succ j => exact absurd hvb (hno b hva (List.mem_of_getElem? hb))
    | succ i =>
      cases j with
      | zero =>
        obtain rfl := Option.some.inj hb
        exact absurd hva (hno a hvb (List.mem_of_getElem? ha))
      | succ j => rw [ih hrest ha hb]

theorem bindingRow_eq_some (hn : (boundSlots bank).Nodup) :
    bindingRow bank v = some i ↔ ∃ r, bank[i]? = some r ∧ r.holds v := by
  have hfirst (h : (bank.findIdx fun r => r.state = .bound && r.bound = some v) < bank.length) :
      bank[bank.findIdx fun r => r.state = .bound && r.bound = some v].holds v := by
    simpa [PlanRow.holds] using List.findIdx_getElem (w := h)
  unfold bindingRow
  dsimp only
  constructor
  · split
    · next h =>
      rintro ⟨⟩
      exact ⟨_, List.getElem?_eq_getElem h, hfirst h⟩
    · rintro ⟨⟩
  · rintro ⟨r, hr, hv⟩
    have hlt : (bank.findIdx fun r => r.state = .bound && r.bound = some v) < bank.length :=
      List.findIdx_lt_length_of_exists ⟨r, List.mem_of_getElem? hr, by simpa [PlanRow.holds] using hv⟩
    rw [if_pos hlt, holds_unique hn (List.getElem?_eq_getElem hlt) hr (hfirst hlt) hv]

theorem State.dropHeld_eq (s : State) (r : PlanRow) :
    s.dropHeld r = r ∨ s.dropHeld r = { r with state := .planned, bound := none } := by
  unfold State.dropHeld
  repeat' split
  all_goals simp

/-- A row of the new bank holds a bus when the STANDBY row does and the bus is not held (R118). -/
theorem State.dropHeld_holds (s : State) (r : PlanRow) (v : Slot) :
    (s.dropHeld r).holds v ↔ r.holds v ∧ (s.veh v).held = false := by
  unfold State.dropHeld PlanRow.holds
  cases hs : r.state <;> cases hb : r.bound <;> simp [hs, hb]
  next x =>
  cases hx : (s.veh x).held
  · simp only [Bool.false_eq_true, if_false, hs, hb, true_and, Option.some.injEq]
    exact ⟨fun e => ⟨e, by rw [← e]; exact hx⟩, fun e => e.1⟩
  · simp only [if_true]
    refine ⟨fun k => by simp at k, ?_⟩
    rintro ⟨rfl, hv⟩
    rw [hx] at hv
    cases hv

theorem State.newBank_slots (s : State) (rows : List PlanRow) (hn : (boundSlots rows).Nodup) :
    (boundSlots (rows.map s.dropHeld)).Nodup := by
  refine List.Sublist.nodup (l₂ := boundSlots rows) ?_ hn
  clear hn
  induction rows with
  | nil => exact .refl _
  | cons r rest ih =>
    rw [List.map_cons, boundSlots_cons, boundSlots_cons]
    rcases s.dropHeld_eq r with e | e <;> rw [e]
    · split
      · exact ih.append_left _
      · exact ih
    · rw [if_neg (by simp)]
      split
      · exact ih.trans (List.sublist_append_right _ _)
      · exact ih

/-- The bindings set from a bank, for the slots of a list. -/
theorem State.setBindings_spec (list : List Slot) (s : State) :
    (forEach list (fun v s => s.modVeh v fun r => { r with boundRow := bindingRow s.ds.active v }) s).ds = s.ds
    ∧ ∀ w, (forEach list (fun v s => s.modVeh v fun r => { r with boundRow := bindingRow s.ds.active v }) s).veh w =
      if w ∈ list then { s.veh w with boundRow := bindingRow s.ds.active w } else s.veh w := by
  induction list generalizing s with
  | nil => exact ⟨rfl, fun w => by simp [forEach_nil]⟩
  | cons v rest ih =>
    obtain ⟨hds, hveh⟩ := ih (s.modVeh v fun r => { r with boundRow := bindingRow s.ds.active v })
    rw [forEach_cons]
    refine ⟨by rw [hds]; rfl, fun w => ?_⟩
    have hsame : (s.modVeh v fun r => { r with boundRow := bindingRow s.ds.active v }).ds = s.ds := rfl
    rw [hveh, State.modVeh_veh, hsame]
    by_cases hw : v = w
    · subst hw
      simp
    · simp [hw, Ne.symm hw]

theorem State.rebuildBindings_spec (s : State) : s.rebuildBindings.ds = s.ds
    ∧ ∀ w, s.rebuildBindings.veh w = { s.veh w with boundRow := bindingRow s.ds.active w } := by
  obtain ⟨hds, hveh⟩ := State.setBindings_spec (upTo 256) s
  exact ⟨hds, fun w => by rw [State.rebuildBindings, hveh, if_pos (mem_upTo w)]⟩

theorem validBank_nodup (h : validBank bank = true) : (boundSlots bank).Nodup := by
  simp only [validBank, Bool.and_eq_true, decide_eq_true_eq] at h
  exact h.2

/-! ### The exchange (R118) -/

theorem State.notCalled_of_anyCalled (h : s.anyCalled = false) (v : Slot) : ¬ s.CallHeld v := by
  rintro ⟨r, hr, hc⟩
  obtain ⟨i, -, hi⟩ := Option.bind_eq_some_iff.mp hr
  have := List.any_eq_false.mp h r (State.row_mem hi)
  simp [hc] at this

/-- The plan after the bank has been exchanged and the bindings set. -/
theorem State.PlanHolds.rebuilt (h : s.PlanHolds) (hv : validBank s.ds.standby = true) :
    s.newBank.rebuildBindings.PlanHolds ∧ s.newBank.rebuildBindings.anyCalled = false := by
  obtain ⟨hds, hveh⟩ := s.newBank.rebuildBindings_spec
  have hact : s.newBank.rebuildBindings.ds.active = s.ds.standby.map s.dropHeld := by rw [hds]; rfl
  have hbound (v : Slot) : (s.newBank.rebuildBindings.veh v).boundRow = bindingRow (s.ds.standby.map s.dropHeld) v := by
    rw [hveh]; rfl
  have hheld (v : Slot) : (s.newBank.rebuildBindings.veh v).held = (s.veh v).held := by rw [hveh]; rfl
  have hstandby : s.newBank.rebuildBindings.ds.standby = [] := by rw [hds]; rfl
  generalize s.newBank.rebuildBindings = t at *
  have hn := s.newBank_slots _ (validBank_nodup hv)
  have hrow (r : PlanRow) (hr : r ∈ t.ds.active) : (r.state = .planned ∨ r.state = .bound)
      ∧ (r.state = .bound ↔ r.bound.isSome = true) ∧ (r.blocked || r.carried) = false := by
    rw [hact, List.mem_map] at hr
    obtain ⟨x, hx, rfl⟩ := hr
    obtain ⟨hs, hb, hm, -⟩ := h.standby x hx
    rcases s.dropHeld_eq x with e | e <;> rw [e]
    · exact ⟨hs, hb, hm⟩
    · exact ⟨.inl rfl, by simp, hm⟩
  have hbinds (v : Slot) (i : Nat) : (t.veh v).boundRow = some i ↔ ∃ r, t.row i = some r ∧ r.binds v = true := by
    rw [hbound, bindingRow_eq_some hn, State.row, hact]
    refine exists_congr fun r => and_congr_right fun hr => ?_
    have hs := (hrow r (by rw [hact]; exact List.mem_of_getElem? hr)).1
    rw [PlanRow.binds_iff, PlanRow.holds]
    refine and_congr_left fun _ => ⟨.inl, fun k => k.resolve_right fun e => ?_⟩
    rw [e] at hs
    simp at hs
  refine ⟨⟨hbinds, fun v hv => ?_, fun r hr => ?_, by rw [hstandby]; simp, fun _ => by rw [hstandby]; rfl⟩, ?_⟩
  · cases hb : (t.veh v).boundRow with
    | none => rfl
    | some i =>
      rw [hbound, bindingRow_eq_some hn] at hb
      obtain ⟨r, hr, hrv⟩ := hb
      obtain ⟨x, -, rfl⟩ := List.mem_map.mp (List.mem_of_getElem? hr)
      rw [hheld, (s.dropHeld_holds x v).mp hrv |>.2] at hv
      cases hv
  · obtain ⟨hs, hb, hm⟩ := hrow r hr
    refine ⟨fun k => ?_, fun k => ?_, fun k => ?_⟩
    · rcases k with k | k | k
      · exact hb.mp k
      all_goals
        rw [k] at hs
        simp at hs
    · rcases k with k | k | k
      · rw [← Option.not_isSome_iff_eq_none, ← hb, k]; simp
      all_goals
        rw [k] at hs
        simp at hs
    · rw [← Bool.or_eq_true, hm] at k
      cases k
  · refine List.any_eq_false.mpr fun r hr => ?_
    rcases (hrow r hr).1 with k | k <;> simp [k]

theorem State.Sound.clearSwap (h : s.Sound X L) {x : SwapRegister} (hx : x = .pending → validBank s.ds.standby = true) :
    ({ s with ds := { s.ds with swap := x } } : State).Sound X L :=
  h.redraft (fun v => ⟨(s.veh v).boundRow, rfl⟩) (fun _ _ => rfl) rfl rfl rfl (.of_eq rfl rfl rfl) rfl (fun _ k => k)
    (fun _ => Iff.rfl) ⟨h.plan.bound, h.plan.unheld, h.plan.active, h.plan.standby, hx⟩

theorem State.Sound.exchange (h : s.Sound X L) (hv : validBank s.ds.standby = true) (hc : s.anyCalled = false)
    (ht : ∀ v, (s.veh v).tag = 0 → (s.veh v).boundRow = none) : s.exchange.Sound X L := by
  obtain ⟨hplan, hnone⟩ := h.plan.rebuilt hv
  obtain ⟨hcore, -⟩ := s.newBank.rebuildBindings_core
  obtain ⟨hds, hveh⟩ := s.newBank.rebuildBindings_spec
  have hempty (v : Slot) (h0 : (s.veh v).tag = 0) : (s.newBank.rebuildBindings.veh v).boundRow = none := by
    cases hb : (s.newBank.rebuildBindings.veh v).boundRow with
    | none => rfl
    | some i =>
      obtain ⟨r, hr, hrv⟩ := (hplan.bound v i).mp hb
      have hmem := State.row_mem hr
      rw [hds] at hmem
      obtain ⟨x, hx, rfl⟩ := List.mem_map.mp hmem
      rw [PlanRow.binds_iff] at hrv
      have hxv : x.bound = some v := by
        rcases s.dropHeld_eq x with e | e <;> rw [e] at hrv
        · exact hrv.2
        · simp at hrv
      exact absurd h0 ((h.plan.standby x hx).2.2.2 v hxv)
  rw [State.exchange_eq]
  refine (State.Sound.testAllLanes ?_).clearSwap (fun k => by cases k)
  refine h.redraft (fun v => ⟨_, hveh v⟩) (fun v h0 => (hempty v h0).trans (ht v h0).symm) ?_ ?_ ?_
    ⟨?_, ?_, fun c => .inl ?_, fun v => ?_⟩ ?_ (fun l hl => ?_)
    (fun v => iff_of_false (State.notCalled_of_anyCalled hnone v) (State.notCalled_of_anyCalled hc v)) hplan
  · exact (congrArg State.lanes hcore).trans rfl
  · exact (congrArg State.stc hcore).trans rfl
  · exact (congrArg State.waitList hcore).trans rfl
  · exact (congrArg (fun x => x.blc.stations) hcore).trans rfl
  · exact (congrArg (fun x => x.ca.feeders) hcore).trans rfl
  · exact (congrArg (fun x => x.ca.chargers.get c) hcore).trans rfl
  · rw [hveh]; rfl
  · rw [hds]; rfl
  · rw [hds]; exact hl

theorem State.exchange_stepDue (s : State) : s.exchange.ds.stepDue = s.ds.stepDue := by
  have hds : s.newBank.rebuildBindings.testAllLanes.ds = s.newBank.ds :=
    (State.testAllLanes_remarks _).ds.trans s.newBank.rebuildBindings_spec.1
  rw [State.exchange_eq]
  generalize s.newBank.rebuildBindings.testAllLanes = t at *
  show t.ds.stepDue = _
  rw [hds]
  rfl

/-! ### Between events -/

/-- The invariant as it holds between events: every vehicle stands, and no lane is owed a shift step (R140). -/
structure State.Settled (s : State) : Prop where
  sound : s.Sound ∅ ∅
  rest : s.ds.stepDue = []

theorem State.Sound.emptySlot (h : s.Sound ∅ L) (v : Slot) (h0 : (s.veh v).tag = 0) : (s.veh v).boundRow = none := by
  rw [(h.stands v id).empty h0]

theorem State.Settled.exchange (h : s.Settled) (hv : validBank s.ds.standby = true) (hc : s.anyCalled = false) :
    s.exchange.Settled :=
  ⟨h.sound.exchange hv hc h.sound.emptySlot, by rw [State.exchange_stepDue]; exact h.rest⟩

theorem State.Settled.exchangeIfDue (h : s.Settled) : s.exchangeIfDue.Settled := by
  unfold State.exchangeIfDue
  split
  · next hc =>
    simp only [Bool.and_eq_true, decide_eq_true_eq, Bool.not_eq_true'] at hc
    exact h.exchange (h.sound.plan.pending hc.1) hc.2
  · exact h

/-- The end of an event leaves the invariant as it holds between events (R140, R119). -/
theorem State.Sound.settle (h : s.Sound ∅ ∅) : s.settle.Settled := by
  obtain ⟨hs, hd⟩ := h.shiftSteps s.effort_lt_fuel
  exact State.Settled.exchangeIfDue ⟨hs, hd⟩

end

end Sys2Proof.Machine
end

section
/-! What the plan's own events keep of the invariant: rows that become SHORT, MISSED or CANCELLED, calls, the call scan and the
rollover (R117 to R136). -/

namespace Sys2Proof.Machine

section
variable {s t u : State} {v w : Slot} {l m : LaneNo} {X : Set Slot} {L : Set LaneNo} {i : Nat} {r : PlanRow}

/-! ### Rows that lose their bus, or have none -/

theorem State.Sound.frame (h : s.Sound X L) (k : s.SameCore t) : t.Sound X L :=
  h.grow k.fleet k.lanes k.stc k.waitList (.of_ds k.ds fun v => by simp [State.veh, k.fleet]) (.of_eq k.ca k.stations k.fleet)

theorem State.Settled.frame (h : s.Settled) (k : s.SameCore t) : t.Settled :=
  ⟨h.sound.frame k, by rw [k.ds]; exact h.rest⟩

/-- A row that binds nothing is made one that binds nothing (R121, R123, R128, R135). -/
theorem State.Sound.close (h : s.Sound X L) (hr : s.row i = some r) {f : PlanRow → PlanRow}
    (hfree : r.state ≠ .bound ∧ r.state ≠ .called) (hf : (f r).Sound ∧ ∀ w, (f r).binds w = false)
    (hc : (f r).state ≠ .called) : (s.modRow i f).Sound X L := by
  refine h.relabel fun r' hr' => ?_
  obtain rfl : r = r' := Option.some.inj (hr.symm.trans hr')
  refine ⟨hf.1, fun w => ?_, iff_of_false hc hfree.2⟩
  rw [hf.2, eq_comm, Bool.eq_false_iff, ne_eq, PlanRow.binds_iff]
  exact fun k => k.1.elim hfree.1 hfree.2

/-- A BOUND row loses its bus (R121, R123, R131). -/
theorem State.Sound.release (h : s.Sound ∅ L) (hr : s.row i = some r) (hb : r.state = .bound) (hv : r.bound = some v)
    {f : PlanRow → PlanRow} (hf : (f r).Sound ∧ ∀ w, (f r).binds w = false) :
    ((s.modRow i f).clearBinding v).Sound ∅ L := by
  have hst := h.stands v id
  have hi : (s.veh v).boundRow = some i := (h.plan.bound v i).mpr ⟨r, hr, (r.binds_iff v).mpr ⟨.inl hb, hv⟩⟩
  have htag : (s.veh v).tag ≠ 0 := fun h0 => by rw [h.emptySlot v h0] at hi; cases hi
  have hk := (h.lift htag).unbind (.inl rfl) hi (f := f) fun r' hr' => by
    obtain rfl : r = r' := Option.some.inj (hr.symm.trans hr')
    exact hf
  have hveh : ((s.modRow i f).clearBinding v).veh v = { s.veh v with boundRow := none } := by
    rw [State.clearBinding, State.modVeh_veh, if_pos rfl]; rfl
  refine hk.landSame hst (State.modVeh_footing _ _ _) (by rw [hveh]; exact htag) (by rw [hveh]) (by rw [hveh]) (by rw [hveh])
    (by rw [hveh]) (iff_of_false (fun k => ?_) ?_) (h.blocks v id) (fun l => h.shifts_stand id) fun l => rfl
  · obtain ⟨x, hx, hc⟩ := hst.call.mp k
    rw [State.boundPlan, hi, Option.bind_some, hr] at hx
    cases hx
    rw [hb] at hc
    cases hc
  · rintro ⟨x, hx, -⟩
    rw [State.boundPlan, hveh] at hx
    cases hx

theorem PlanRow.Sound.shortRow (h : r.Sound) (hc : r.state ≠ .called) :
    ({ r with state := .short, bound := none } : PlanRow).Sound
      ∧ ∀ w, ({ r with state := .short, bound := none } : PlanRow).binds w = false := by
  refine ⟨⟨?_, fun _ => rfl, fun k => absurd (h.marks k) hc⟩, fun w => ?_⟩ <;> simp [PlanRow.binds]

theorem PlanRow.Sound.cancelledRow (h : r.Sound) (hc : r.state ≠ .called) :
    r.cancelledRow.Sound ∧ ∀ w, r.cancelledRow.binds w = false := by
  refine ⟨⟨?_, fun _ => rfl, fun k => absurd (h.marks k) hc⟩, fun w => ?_⟩ <;> simp [PlanRow.binds, PlanRow.cancelledRow]

theorem State.Sound.makeShort (h : s.Sound ∅ L) (hr : s.row i = some r) (hs : r.state = .planned) :
    (s.makeShort i r none).Sound ∅ L :=
  ((h.close hr (by simp [hs]) ((h.plan.active r (State.row_mem hr)).shortRow (by simp [hs])) (by simp)).raise).notify

theorem State.Sound.releaseShort (h : s.Sound ∅ L) (hr : s.row i = some r) (hb : r.state = .bound) (hv : r.bound = some v)
    (x : Option (Nat × VehicleState)) : ((s.clearBinding v).makeShort i r x).Sound ∅ L := by
  have hcomm : (s.clearBinding v).makeShort i r x = (((s.modRow i fun r => { r with state := .short, bound := none }).clearBinding
    v).raise .rowShort).notify (.short i r.block r.key x) := rfl
  rw [hcomm]
  exact ((h.release hr hb hv ((h.plan.active r (State.row_mem hr)).shortRow (by simp [hb]))).raise).notify

theorem State.reportMissed_sound (h : s.Sound X L) (i : Nat) (r : PlanRow) (c : MissCause) :
    (s.reportMissed i r c).Sound X L := h.raise.notify

/-- A row that binds nothing becomes MISSED (R121, R128). -/
theorem State.Sound.missFree (h : s.Sound X L) (hr : s.row i = some r) (hfree : r.state ≠ .bound ∧ r.state ≠ .called)
    (c : MissCause) : ((s.modRow i PlanRow.missedRow).reportMissed i r c).Sound X L :=
  State.reportMissed_sound (h.close hr hfree (PlanRow.Sound.missedRow r) (by simp [PlanRow.missedRow])) i r c

/-- A CALLED row fails its grace test (R128). -/
theorem State.Sound.missCalled (h : s.Sound ∅ L) (hr : s.row i = some r) (hc : r.state = .called) :
    (s.missCalled i r).Sound ∅ L := by
  obtain ⟨v, hv⟩ := Option.isSome_iff_exists.mp ((h.plan.active r (State.row_mem hr)).names (.inr (.inl hc)))
  have hst := h.stands v id
  have hi : (s.veh v).boundRow = some i := (h.plan.bound v i).mpr ⟨r, hr, (r.binds_iff v).mpr ⟨.inr hc, hv⟩⟩
  have hplan : s.boundPlan v = some r := by rw [State.boundPlan, hi]; exact hr
  have hon := onCall_iff.mpr (hst.call.mpr ⟨r, hplan, hc⟩)
  have htag : (s.veh v).tag ≠ 0 := fun h0 => by rw [h.emptySlot v h0] at hi; cases hi
  have hk := (h.lift htag).unbind (.inl rfl) hi (f := PlanRow.missedRow) fun r _ => PlanRow.Sound.missedRow r
  have hveh : ((s.modRow i PlanRow.missedRow).clearBinding v).veh v = { s.veh v with boundRow := none } := by
    rw [State.clearBinding, State.modVeh_veh, if_pos rfl]; rfl
  have hend := hk.endCall hst hon (State.modVeh_footing _ _ _) (by rw [hveh]) (by rw [hveh]) (by rw [hveh]) (by rw [hveh])
    (fun ⟨x, hx, _⟩ => by rw [State.boundPlan, hveh] at hx; cases hx) (fun l => h.shifts_stand id) fun l => rfl
  unfold State.missCalled
  simp only [hv]
  exact (State.reportMissed_sound hend i r .grace).keepsOwing _

/-! ### The call of a row (R132 to R137) -/

theorem State.Replans.callHeld {f : PlanRow → PlanRow} (h : s.Replans v i f t) (hi : (t.veh v).boundRow = some i)
    (hr : s.row i = some r) (hc : (f r).state = .called) : t.CallHeld v := by
  refine ⟨f r, ?_, hc⟩
  rw [State.boundPlan, hi, Option.bind_some, h.row, if_pos rfl, hr]
  rfl

/-- A row takes a bus (R132, R134): one that it bound already, or a free bus for a row that bound none. -/
theorem State.PlanHolds.bind {f : PlanRow → PlanRow} (h : s.PlanHolds) (hr : s.Replans v i f t) (hrow : s.row i = some r)
    (hi : (t.veh v).boundRow = some i) (hheld : (s.veh v).held = false)
    (hbus : ∀ j, (s.veh v).boundRow = some j → j = i) (hold : ∀ w, r.binds w = true → w = v)
    (hf : (f r).Sound ∧ ∀ w, (f r).binds w = true ↔ w = v) : t.PlanHolds where
  bound w j := by
    rw [hr.row]
    by_cases hij : i = j
    · subst hij
      have hval : (∃ x, (if i = i then (s.row i).map f else s.row i) = some x ∧ x.binds w = true) ↔ w = v := by
        rw [if_pos rfl, hrow]
        simp [hf.2]
      rw [hval]
      refine ⟨fun hb => ?_, fun e => e ▸ hi⟩
      by_contra e
      rw [hr.others w e] at hb
      obtain ⟨x, hx, hbinds⟩ := (h.bound w i).mp hb
      rw [hrow] at hx
      cases hx
      exact e (hold w hbinds)
    · rw [if_neg hij]
      by_cases e : w = v
      · subst e
        rw [hi]
        refine iff_of_false (fun k => hij (Option.some.inj k)) fun k => ?_
        exact hij (hbus j ((h.bound w j).mpr k)).symm
      · rw [hr.others w e]; exact h.bound w j
  unheld w hw := by
    rw [hr.works.held] at hw
    by_cases e : w = v
    · subst e; rw [hheld] at hw; cases hw
    · rw [hr.others w e]; exact h.unheld w hw
  active x hx := by
    obtain ⟨j, hj⟩ := State.mem_row hx
    rw [hr.row] at hj
    split at hj
    · next e =>
      subst e
      rw [hrow] at hj
      cases hj
      exact hf.1
    · exact h.active x (State.row_mem hj)
  standby := by
    rw [hr.standby]
    intro x hx
    obtain ⟨a, b, c, d⟩ := h.standby x hx
    exact ⟨a, b, c, fun w hw => by rw [hr.works.tag]; exact d w hw⟩
  pending := by rw [hr.swap, hr.standby]; exact h.pending

/-- A row that is called (R132). -/
def calledRow (v : Slot) (minute : Nat) (l : LaneNo) (low blocked : Bool) (r : PlanRow) : PlanRow :=
  { r with
    state := .called, bound := some v, callMinute := some minute, originLane := some l, lowEnergy := low,
    blocked := blocked, carried := false }

theorem calledRow_sound (v : Slot) (minute : Nat) (l : LaneNo) (low blocked : Bool) (r : PlanRow) :
    (calledRow v minute l low blocked r).Sound ∧ ∀ w, (calledRow v minute l low blocked r).binds w = true ↔ w = v := by
  refine ⟨⟨fun _ => rfl, fun k => ?_, fun _ => rfl⟩, fun w => ?_⟩
  · simp [calledRow] at k
  · simp [PlanRow.binds, calledRow, eq_comm]

/-- The row and the bus of a call, before the bus's record is CALLED. -/
def State.claimed (s : State) (i : Nat) (f : PlanRow → PlanRow) (v : Slot) : State :=
  (s.modRow i f).modVeh v fun x => { x with boundRow := some i }

theorem State.claimed_replans (s : State) (i : Nat) (f : PlanRow → PlanRow) (v : Slot) :
    s.Replans v i f (s.claimed i f v) where
  row j := s.modRow_row i j f
  standby := rfl
  swap := rfl
  shifts := rfl
  due := rfl
  others w hw := by rw [State.claimed, State.modVeh_veh, if_neg (Ne.symm hw)]; rfl
  self := ⟨some i, by rw [State.claimed, State.modVeh_veh, if_pos rfl]; rfl⟩
  lanes := rfl
  waitList := rfl
  stc := rfl
  works := .modVeh (.modRow (.refl s)) fun _ => rfl

theorem State.claimed_called (s : State) (i : Nat) (f : PlanRow → PlanRow) (v : Slot) :
    (s.modRow i f).modVeh v (fun x => { x with state := .called, boundRow := some i })
      = (s.claimed i f v).modVeh v fun x => { x with state := .called } := by
  simp [State.claimed, State.modVeh_eq, State.setVeh_setVeh]

/-- A row that may be called with a bus that is PARKED (R131, R134). -/
structure State.Callable (s : State) (i : Nat) (r : PlanRow) (v : Slot) (l : LaneNo) : Prop where
  row : s.row i = some r
  parked : (s.veh v).state = .parked
  present : s.presentIn l v = true
  unheld : (s.veh v).held = false
  bus : ∀ j, (s.veh v).boundRow = some j → j = i
  old : ∀ w, r.binds w = true → w = v
  uncalled : r.state ≠ .called

theorem State.Sound.callRow (h : s.Sound ∅ L) (hc : s.Callable i r v l) (x : Bool) : (s.callRow i r v l x).Sound ∅ L := by
  have hst := h.stands v id
  have htag := hst.tag (by rw [hc.parked]; simp)
  obtain ⟨hloc, hfoot⟩ : (s.veh v).location = .lane l .present none ∧ s.footing v = .parked v l := by
    have hp := hc.present
    rw [State.presentIn_eq_footing, List.any_eq_true] at hp
    obtain ⟨e, he, hpe⟩ := hp
    rcases hst.fits.of_present he (by simpa using hpe) with ⟨-, hl, hf⟩ | ⟨hs, -⟩
    · exact ⟨hl, hf⟩
    · rw [hc.parked] at hs; cases hs
  have hshift := hst.shift_false (by rw [hc.parked]; simp)
  unfold State.callRow
  extract_lets k low a b d e f g
  have hf := calledRow_sound v s.ycs.minute l low (k ≠ 0)
  have hr := s.claimed_replans i (calledRow v s.ycs.minute l low (k ≠ 0)) v
  have hb : b = (s.claimed i (calledRow v s.ycs.minute l low (k ≠ 0)) v).modVeh v fun x => { x with state := .called } := s.claimed_called _ _ _
  have hbound : ((s.claimed i (calledRow v s.ycs.minute l low (k ≠ 0)) v).veh v) = { s.veh v with boundRow := some i } := by
    rw [State.claimed, State.modVeh_veh, if_pos rfl]; rfl
  have hcall := hr.callHeld (r := r) (by rw [hbound]) hc.row rfl
  have hclaim := (h.lift htag).replan hr (.inl rfl)
    (fun r' hr' w hw => .inl (hc.old w (by rw [hc.row] at hr'; cases hr'; exact hw)))
    (h.plan.bind hr hc.row (by rw [hbound]) hc.unheld hc.bus hc.old (hf r))
  generalize s.claimed i (calledRow v s.ycs.minute l low (k ≠ 0)) v = c at *
  have hk : c.Keeps (insert v ∅) L d := by
    rw [show d = b.recheckChargers from rfl, hb]
    exact hclaim.keeps.rewrite (.inl rfl) rfl rfl
  have hy : b.SameYard d := b.recheckChargers_sameYard
  have hveh : d.veh v = { s.veh v with boundRow := some i, state := .called } := by
    rw [hy.veh, hb, State.modVeh_veh, if_pos rfl, hbound]
  have hfd : d.footing v = .parked v l := by
    rw [hy.footing, hb, State.modVeh_footing, hr.footing, hfoot]
  have hd : d.Sound ∅ L := by
    refine hk.sound.land ⟨?_, fun h0 => absurd h0 (hk.sound.tags v (.inl rfl)), fun hs => ?_, fun m n hm => ?_, fun hin => ?_,
      iff_of_true ?_ ?_⟩ (fun m n hm => ?_) fun m hm hp => ?_
    · rw [hveh, hfd]
      show Fits v .called (s.veh v).location _
      rw [hloc]
      exact .called l
    · rw [hveh] at hs
      exact absurd hs (by simp [hshift])
    · rw [hveh] at hm
      rw [show _ = Location.lane m .present (some n) from hm] at hloc
      cases hloc
    · have := State.inSomeLane_false_iff.mp hin l
      rw [hfd] at this
      simp [Footing.parked] at this
    · rw [hveh]; exact .inl rfl
    · exact (hk.plan.callHeld v).mpr hcall
    · rw [hveh] at hm
      rw [show _ = Location.lane m .present (some n) from hm] at hloc
      cases hloc
    · rw [hk.plan.shiftRecord, hr.shiftRecord] at hm
      rw [State.presentIn_eq_footing, hfd, ← hfoot, ← State.presentIn_eq_footing] at hp
      obtain ⟨n, hn⟩ := h.shifts_stand id hm hp
      rw [hn] at hloc
      cases hloc
  clear_value d
  have he : e.Sound ∅ L := by
    simp only [e]
    split
    · exact hd.raise
    · exact hd
  clear_value e
  have hfs : f.Sound ∅ L := by
    simp only [f]
    split
    · exact he.direct
    · exact he.raise
  clear_value f
  have hg : g.Sound ∅ L := hfs.notify
  clear_value g
  split
  · exact hg
  · exact hg.notify.keeps.oweStep.sound

/-! ### The window pass (R130, R134, R135) -/

theorem State.seekBus_some (h : s.seekBus r = some (v, l)) :
    fitsRow r (s.veh v) = true ∧ s.presentIn l v = true := by
  obtain ⟨m, -, hm⟩ := List.exists_of_findSome?_eq_some h
  obtain ⟨x, hx, he⟩ := Option.map_eq_some_iff.mp hm
  cases he
  unfold State.mouthCandidate at hx
  split at hx
  · next e he =>
    split at hx
    · next hc =>
      cases hx
      simp only [Bool.and_eq_true, decide_eq_true_eq] at hc
      exact ⟨hc.2, State.presentIn_of_head he hc.1⟩
    · cases hx
  · cases hx

/-- The bus found at call time may be called (R134). -/
theorem State.callable_seek (hr : s.row i = some r) (hs : r.state = .planned ∨ r.state = .short)
    (hv : s.seekBus r = some (v, l)) : s.Callable i r v l := by
  obtain ⟨hfit, hp⟩ := State.seekBus_some hv
  simp only [fitsRow, Bool.and_eq_true, decide_eq_true_eq, Bool.not_eq_true', Option.isNone_iff_eq_none] at hfit
  obtain ⟨⟨⟨⟨⟨hpark, hfree⟩, hheld⟩, -⟩, -⟩, -⟩ := hfit
  refine ⟨hr, hpark, hp, hheld, fun j hj => ?_, fun w hw => ?_, ?_⟩
  · rw [hfree] at hj; cases hj
  · rw [PlanRow.binds_iff] at hw
    rcases hs with e | e <;> simp [e] at hw
  · rcases hs with e | e <;> simp [e]

/-- The bus of a BOUND row may be called when it is PARKED (R131). -/
theorem State.Sound.callable_bound (h : s.Sound ∅ L) (hr : s.row i = some r) (hb : r.state = .bound) (hv : r.bound = some v)
    (hpark : (s.veh v).state = .parked) (hl : s.presentLane v = some l) : s.Callable i r v l := by
  have hi : (s.veh v).boundRow = some i := (h.plan.bound v i).mpr ⟨r, hr, (r.binds_iff v).mpr ⟨.inl hb, hv⟩⟩
  refine ⟨hr, hpark, State.presentLane_some hl, ?_, fun j hj => ?_, fun w hw => ?_, by simp [hb]⟩
  · cases hh : (s.veh v).held
    · rfl
    · rw [h.plan.unheld v hh] at hi; cases hi
  · rw [hi] at hj
    exact (Option.some.inj hj).symm
  · rw [PlanRow.binds_iff, hv] at hw
    exact (Option.some.inj hw.2).symm

theorem State.Sound.takeRow (h : s.Sound ∅ L) (hr : s.row i = some r) : (s.takeRow i r).Sound ∅ L := by
  unfold State.takeRow
  split
  · next v hs hb =>
    split
    · next hp =>
      split
      · next l hl => exact h.callRow (h.callable_bound hr hs hb hp hl) _
      · exact h
    · exact h.releaseShort hr hs hb _
  · next hs =>
    split
    · next v l hv => exact h.callRow (State.callable_seek hr (.inl hs) hv) _
    · exact h.makeShort hr hs
  · next hs =>
    split
    · next v l hv => exact h.callRow (State.callable_seek hr (.inr hs) hv) _
    · exact h
  · exact h

theorem State.Settled.windowRow (h : s.Settled) (i : Nat) : (s.windowRow i).Settled := by
  unfold State.windowRow
  split
  · exact h
  · next r hr =>
    split
    · exact (h.sound.takeRow hr).settle
    · exact h

theorem State.Settled.windowPass (h : s.Settled) : s.windowPass.Settled := by
  unfold State.windowPass
  split
  · exact h
  · exact forEach_keeps State.Settled _ _ s h fun i _ _ ht => ht.windowRow i

/-! ### Grace tests, retries and the scan (R127 to R129) -/

theorem State.Settled.graceTest (h : s.Settled) (i : Nat) : (s.graceTest i).Settled := by
  unfold State.graceTest
  split
  · exact h
  · next r hr =>
    split
    · exact h
    · split
      · next hc => exact (h.sound.missCalled hr hc).settle
      · next hs => exact ⟨h.sound.missFree hr (by simp [hs]) _, by
          rw [State.reportMissed, State.notify_ds]; exact h.rest⟩
      · exact h

theorem State.Settled.graceTests (h : s.Settled) : s.graceTests.Settled :=
  forEach_keeps State.Settled _ _ s h fun i _ _ ht => ht.graceTest i

theorem State.Settled.shiftRetries (h : s.Settled) : s.shiftRetries.Settled := by
  refine State.Sound.settle (forEach_keeps (fun t => t.Sound ∅ ∅) _ _ s h.sound fun l _ t ht => ?_)
  split
  · exact ht.keeps.oweStep.sound
  · exact ht

theorem State.Settled.callScan (h : s.Settled) : s.callScan.Settled := h.graceTests.windowPass.shiftRetries

theorem State.Settled.setClock (h : s.Settled) (minute : Nat) : (s.setClock minute).2.Settled := by
  have hm : s.SameCore { s with ycs := { s.ycs with minute := min 1439 minute, clockSet := true } } := .byRfl
  unfold State.setClock
  dsimp only
  generalize { s with ycs := { s.ycs with minute := min 1439 minute, clockSet := true } } = m at *
  exact (h.frame hm).callScan

/-! ### Rollover (R121, R122) -/

theorem State.Settled.rollRow (h : s.Settled) (i : Nat) : (s.rollRow i).Settled := by
  unfold State.rollRow
  split
  · exact h
  next r hr =>
  split
  · next hs => exact ⟨h.sound.missFree hr (by simp [hs]) _, by
      rw [State.reportMissed, State.notify_ds]; exact h.rest⟩
  · next hs => exact ⟨h.sound.missFree hr (by simp [hs]) _, by
      rw [State.reportMissed, State.notify_ds]; exact h.rest⟩
  · next hb =>
    obtain ⟨v, hv⟩ := Option.isSome_iff_exists.mp ((h.sound.plan.active r (State.row_mem hr)).names (.inl hb))
    simp only [hv]
    exact ⟨State.reportMissed_sound (h.sound.release hr hb hv (PlanRow.Sound.missedRow r)) i r _, by
      rw [State.reportMissed, State.notify_ds]; exact h.rest⟩
  · next hc =>
    have hsound := h.sound.plan.active r (State.row_mem hr)
    refine ⟨h.sound.relabel fun r' hr' => ?_, h.rest⟩
    obtain rfl : r = r' := Option.some.inj (hr.symm.trans hr')
    exact ⟨⟨hsound.names, hsound.unnamed, fun _ => hc⟩, fun _ => rfl, Iff.rfl⟩
  · exact h

theorem State.Settled.rollRows (h : s.Settled) : s.rollRows.Settled :=
  forEach_keeps State.Settled _ _ s h fun i _ _ ht => ht.rollRow i

theorem State.Settled.setSwap (h : s.Settled) {x : SwapRegister} (hx : x = .pending → validBank s.ds.standby = true) :
    ({ s with ds := { s.ds with swap := x } } : State).Settled := ⟨h.sound.clearSwap hx, h.rest⟩

theorem State.Settled.armedSwap (h : s.Settled) : s.armedSwap.Settled := by
  unfold State.armedSwap
  split
  · split
    · next hv => exact (h.setSwap fun _ => hv).exchangeIfDue
    · exact (h.setSwap (x := .none) fun k => by cases k).frame (State.placeFault_sameCore _ _)
  · exact h

theorem State.Settled.departureAdvance (h : s.Settled) : s.departureAdvance.Settled := by
  unfold State.departureAdvance
  split
  · split
    · exact h.rollRows.armedSwap.callScan
    · exact h.callScan
  · exact h.shiftRetries

/-! ### Orders of the plan (R117, R120, R123) -/

theorem State.Settled.swapNow (h : s.Settled) : s.swapNow.2.Settled := by
  unfold State.swapNow
  split
  · exact h
  · next hv =>
    have hv : validBank s.ds.standby = true := by simpa using hv
    split
    · exact h.setSwap fun _ => hv
    · next hc => exact h.exchange hv (by simpa using hc)

theorem State.Settled.swapAtRollover (h : s.Settled) : s.swapAtRollover.2.Settled := by
  unfold State.swapAtRollover
  split
  · exact h
  · exact h.setSwap (x := .armed) fun k => by cases k

theorem State.Settled.cancelSwap (h : s.Settled) : s.cancelSwap.2.Settled :=
  h.setSwap (x := .none) fun k => by cases k

theorem State.Settled.cancelRow (h : s.Settled) (i : Nat) : (s.cancelRow i).2.Settled := by
  unfold State.cancelRow
  split
  · exact h
  next r hr =>
  have hrow := h.sound.plan.active r (State.row_mem hr)
  have hfree (hs : r.state = .planned ∨ r.state = .short) : (s.modRow i PlanRow.cancelledRow).Settled := by
    have hn : r.state ≠ .bound ∧ r.state ≠ .called := by rcases hs with e | e <;> simp [e]
    exact ⟨h.sound.close hr hn (hrow.cancelledRow hn.2) (by simp [PlanRow.cancelledRow]), h.rest⟩
  split
  · next hs => exact hfree (.inl hs)
  · next hs => exact hfree (.inr hs)
  · next hb =>
    obtain ⟨v, hv⟩ := Option.isSome_iff_exists.mp (hrow.names (.inl hb))
    simp only [hv]
    exact ⟨h.sound.release hr hb hv (hrow.cancelledRow (by simp [hb])), h.rest⟩
  · exact h
  · exact h
  · exact h
  · exact h

end

end Sys2Proof.Machine
end

section
/-! What the charging keeps of the invariant (R82 to R104): reports, SILENT marks and allocation rounds leave the yard, and
connect a vehicle only where it stands. -/

namespace Sys2Proof.Machine

section
variable {s t u : State} {v w : Slot} {l m : LaneNo} {X : Set Slot} {L : Set LaneNo} {c : ChargerNo} {f : FeederNo}

/-- A feeder's accumulator fits 16 bits, it is in SHED with a nonzero accumulator only, and it has a limit (R84, R95). -/
structure Feeder.Fair (r : Feeder) : Prop where
  word : r.accumulator ≤ 65535
  shed : r.state = .shed → r.accumulator ≠ 0
  limit : 0 < r.cfg.limit

/-- From `s` to `t` the yard and the law of the feeders stay, and a charger keeps its connection at its place, or connects a
vehicle that stands there. -/
structure State.Charges (s t : State) : Prop where
  yard : s.SameYard t
  feeder : ∀ g, (s.feeder g).Fair → (t.feeder g).Fair
  charger : ∀ c v, (t.charger c).connected = some v →
    ((s.charger c).connected = some v ∧ (t.charger c).cfg.lane = (s.charger c).cfg.lane
      ∧ (t.charger c).cfg.position = (s.charger c).cfg.position) ∨ t.parkedAt v c = true

theorem State.SameYard.units (h : s.SameYard t) (x : Slot) : t.units x = s.units x := by simp [State.units, h.veh]

/-- Where a vehicle is PARKED depends on the yard and on the charger's place. -/
theorem State.SameYard.parkedAt (h : s.SameYard t) (hl : (t.charger c).cfg.lane = (s.charger c).cfg.lane)
    (hp : (t.charger c).cfg.position = (s.charger c).cfg.position) : t.parkedAt v c = s.parkedAt v c := by
  simp only [State.parkedAt, h.veh, State.covers_congr h.lane h.units, hl, hp]

theorem State.Charges.refl (s : State) : s.Charges s := ⟨.refl s, fun _ h => h, fun _ _ h => .inl ⟨h, rfl, rfl⟩⟩

/-- A step in which every charger stays connected at its place, or is disconnected. -/
theorem State.Charges.step (h : s.Charges t) (hy : t.SameYard u) (hf : ∀ g, (t.feeder g).Fair → (u.feeder g).Fair)
    (hc : ∀ c, (u.charger c).connected = none ∨ (u.charger c).connected = (t.charger c).connected
      ∧ (u.charger c).cfg.lane = (t.charger c).cfg.lane ∧ (u.charger c).cfg.position = (t.charger c).cfg.position) :
    s.Charges u := by
  refine ⟨h.yard.trans hy, fun g hg => hf g (h.feeder g hg), fun c v hv => ?_⟩
  rcases hc c with e | ⟨e, hl, hp⟩
  · rw [hv] at e; cases e
  · rw [e] at hv
    rcases h.charger c v hv with ⟨hs, hl', hp'⟩ | hpark
    · exact .inl ⟨hs, hl.trans hl', hp.trans hp'⟩
    · exact .inr ((hy.parkedAt hl hp).trans hpark)

theorem State.feeder_of_feeders (h : t.ca.feeders = s.ca.feeders) (f : FeederNo) : t.feeder f = s.feeder f := by
  simp [State.feeder, h]

theorem State.Charges.keep (h : s.Charges t) (hy : t.SameYard u) (hc : u.ca = t.ca) : s.Charges u :=
  h.step hy (fun g hg => State.feeder_of_feeders (congrArg Ca.feeders hc) g ▸ hg) fun c => .inr (by simp [State.charger, hc])

theorem State.Charges.raise (h : s.Charges t) {f : EventFlag} : s.Charges (t.raise f) := h.keep (t.raise_sameYard f) rfl

theorem State.Charges.notify (h : s.Charges t) {n : Notice} : s.Charges (t.notify n) :=
  h.keep (t.notify_sameYard n) (t.notify_ca n)

theorem State.Charges.modFeeder (h : s.Charges t) {f : FeederNo} {x : Feeder → Feeder}
    (hx : (t.feeder f).Fair → (x (t.feeder f)).Fair) : s.Charges (t.modFeeder f x) :=
  h.step ⟨rfl, rfl, rfl, rfl, rfl, rfl, rfl⟩ (fun g hg => by
    rw [State.modFeeder_feeder]
    split
    · next e => subst e; exact hx hg
    · exact hg) fun _ => .inr ⟨rfl, rfl, rfl⟩

/-- A change of a feeder's other fields leaves its law. -/
theorem Feeder.Fair.same {r x : Feeder} (h : r.Fair) (ha : x.accumulator = r.accumulator) (hs : x.state = r.state)
    (hl : 0 < x.cfg.limit) : x.Fair := ⟨ha ▸ h.word, fun k => by rw [ha]; exact h.shed (hs ▸ k), hl⟩

theorem State.Charges.modCharger (h : s.Charges t) {c : ChargerNo} {x : Charger → Charger}
    (hx : (x (t.charger c)).connected = none ∨ (x (t.charger c)).connected = (t.charger c).connected
      ∧ (x (t.charger c)).cfg.lane = (t.charger c).cfg.lane
      ∧ (x (t.charger c)).cfg.position = (t.charger c).cfg.position) : s.Charges (t.modCharger c x) :=
  h.step (t.modCharger_sameYard c x) (fun _ hg => hg) fun d => by
    rw [State.modCharger_charger]
    split
    · next e => subst e; exact hx
    · exact .inr ⟨rfl, rfl, rfl⟩

theorem State.Charges.setpoint (h : s.Charges t) {c : ChargerNo} {kw : Nat} {placed : Bool} :
    s.Charges (t.setpoint c kw placed) :=
  h.step (t.setpoint_sameYard c kw placed) (fun g hg => State.feeder_of_feeders (t.setpoint_feeders c kw placed) g ▸ hg)
    fun d => by
    obtain ⟨mark, hmark⟩ := t.setpoint_charger c kw placed
    rw [hmark]
    split <;> exact .inr ⟨rfl, rfl, rfl⟩

theorem State.Charges.withdrawGrant (h : s.Charges t) {c : ChargerNo} : s.Charges (t.withdrawGrant c) :=
  h.step (t.withdrawGrant_sameYard c) (fun g hg => State.feeder_of_feeders (t.withdrawGrant_feeders c) g ▸ hg) fun d => by
    obtain ⟨mark, hmark⟩ := t.withdrawGrant_charger c
    rw [hmark]
    split <;> exact .inr ⟨rfl, rfl, rfl⟩

theorem State.Charges.disconnect (h : s.Charges t) {c : ChargerNo} : s.Charges (t.disconnect c) :=
  h.step (t.disconnect_sameYard c) (fun g hg => State.feeder_of_feeders (State.Works.disconnect (.refl t)).feeders g ▸ hg) fun d => by
    obtain ⟨mark, hmark⟩ := t.disconnect_charger c
    rw [hmark]
    split
    · exact .inl rfl
    · exact .inr ⟨rfl, rfl, rfl⟩

theorem State.Charges.forEach {α : Type} (h : s.Charges t) {list : List α} {x : α → State → State}
    (hx : ∀ a u, s.Charges u → s.Charges (x a u)) : s.Charges (Machine.forEach list x t) :=
  forEach_keeps s.Charges list x t h fun a _ u hu => hx a u hu

theorem State.Connects.charges (h : s.Connects) (k : s.Charges t) : t.Connects := fun c v hc => by
  rcases k.charger c v hc with ⟨hs, hl, hp⟩ | hpark
  · rw [k.yard.parkedAt hl hp]; exact h c v hs
  · exact hpark

/-- What leaves the yard and connects vehicles where they stand keeps the invariant. -/
theorem State.Sound.charges (h : s.Sound X L) (k : s.Charges t) : t.Sound X L where
  tags v hx := by rw [k.yard.veh]; exact h.tags v hx
  stands v hx := (h.stands v hx).spared (k.yard.spares v)
    ((State.SamePlan.of_ds k.yard.ds fun v => by rw [k.yard.veh]).callHeld v)
  blocks v hx l m := by rw [k.yard.veh, k.yard.shiftRecord]; exact h.blocks v hx l m
  shifts l v := by
    rw [k.yard.shiftRecord, State.presentIn_congr (k.yard.footing v), k.yard.veh, k.yard.ds]
    exact h.shifts l v
  lanes := h.lanes.congr k.yard.lane k.yard.units
  connects := h.connects.charges k
  desk := h.desk.of_stc k.yard.stc
  plan := by
    have hp := h.plan
    refine ⟨fun v i => ?_, fun v => ?_, ?_, ?_, ?_⟩
    · rw [k.yard.veh, k.yard.row]; exact hp.bound v i
    · rw [k.yard.veh]; exact hp.unheld v
    · rw [k.yard.ds]; exact hp.active
    · rw [k.yard.ds]
      intro r hr
      obtain ⟨a, b, c, d⟩ := hp.standby r hr
      exact ⟨a, b, c, fun v hv => by rw [k.yard.veh]; exact d v hv⟩
    · rw [k.yard.ds]; exact hp.pending

theorem State.Settled.charges (h : s.Settled) (k : s.Charges t) : t.Settled :=
  ⟨h.sound.charges k, by rw [k.yard.ds]; exact h.rest⟩

/-! ### The round (R92 to R104) -/

theorem State.Charges.cancelHolds (h : s.Charges t) (f : FeederNo) : s.Charges (t.cancelHolds f) :=
  h.forEach fun _ _ hu => hu.modCharger (.inr ⟨rfl, rfl, rfl⟩)

theorem accumulatorAfter_le {a drawn rated : Nat} (h : a ≤ 65535) : accumulatorAfter a drawn rated ≤ 65535 := by
  unfold accumulatorAfter
  split <;> omega

/-- A feeder is in SHED after step 2 with a nonzero accumulator only, because its limit is not 0 (R95). -/
theorem accumulator_of_shed {x : FeederState} {a limit : Nat} (hl : 0 < limit) (h : feederStateAfter x a limit = .shed) :
    a ≠ 0 := by
  rintro rfl
  cases x with
  | normal => simp [feederStateAfter, hl.ne'] at h
  | shed => simp [feederStateAfter, hl.ne'] at h
  | tripped => cases h

/-- The feeder after steps 1 and 2 (R94, R95). -/
theorem Feeder.Fair.rated {r : Feeder} (h : r.Fair) (base drawn : Nat) :
    { r with
      baseLoad := base
      accumulator := accumulatorAfter r.accumulator drawn r.cfg.rated
      state := feederStateAfter r.state (accumulatorAfter r.accumulator drawn r.cfg.rated) r.cfg.limit : Feeder }.Fair :=
  ⟨accumulatorAfter_le h.word, accumulator_of_shed h.limit, h.limit⟩

/-- Steps 1 and 2 of the round (R93 to R96). -/
theorem State.roundSteps_charges (s : State) (f : FeederNo) (drawn : Nat) (hd : drawn = (s.drawnAndBase f).1) :
    s.Charges ((s.roundStep1 f).roundStep2 f drawn) := by
  subst hd
  unfold State.roundStep2
  extract_lets r after x
  have hr : r = { s.feeder f with
      baseLoad := (s.drawnAndBase f).2
      accumulator := accumulatorAfter (s.feeder f).accumulator (s.drawnAndBase f).1 (s.feeder f).cfg.rated } := by
    rw [show r = (s.roundStep1 f).feeder f from rfl, State.roundStep1, State.modFeeder_feeder, if_pos rfl]
  have hfair (hs : (s.feeder f).Fair) : { r with state := after : Feeder }.Fair := by
    have := hs.rated (s.drawnAndBase f).2 (s.drawnAndBase f).1
    simpa only [after, hr] using this
  have hone : after = r.state → s.Charges (s.roundStep1 f) := fun e =>
    (State.Charges.refl s).modFeeder fun hs => by
      have := hfair hs
      rw [e] at this
      simpa only [hr] using this
  have hx : s.Charges x := by
    refine ⟨⟨rfl, rfl, rfl, rfl, rfl, rfl, rfl⟩, fun g hg => ?_, fun _ _ h => .inl ⟨h, rfl, rfl⟩⟩
    rw [State.modFeeder_feeder]
    split
    · next e => subst e; exact hfair hg
    · next e => rw [State.roundStep1, State.modFeeder_feeder, if_neg e]; exact hg
  split
  · next e => exact hone e
  · clear_value after
    split
    · exact hx.cancelHolds f
    · exact (hx.cancelHolds f).raise.notify
    · exact ((hx.cancelHolds f).forEach fun _ _ hu => hu.withdrawGrant).raise.notify

theorem State.Charges.markFull (h : s.Charges t) (f : FeederNo) : s.Charges (t.markFull f) :=
  h.forEach fun c u hu => by
    split
    · split
      · exact hu.modCharger (.inr ⟨rfl, rfl, rfl⟩)
      · exact hu
    · exact hu

theorem State.Charges.walk (list : List Candidate) : ∀ {t : State}, s.Charges t → ∀ n, s.Charges (t.walk n list) := by
  induction list with
  | nil => exact fun h _ => h
  | cons a rest ih =>
    intro t h n
    simp only [State.walk]
    exact ih (h.modCharger (.inr ⟨by simp, by simp, by simp⟩)) _

theorem State.Charges.sendSetpoints (h : s.Charges t) (f : FeederNo) (before : State) :
    s.Charges (t.sendSetpoints f before) :=
  h.forEach fun c u hu => by
    unfold State.setpointIfChanged
    split
    · exact hu.setpoint
    · exact hu

theorem State.round_charges (s : State) (f : FeederNo) : s.Charges (s.round f) := by
  have h3 : s.Charges (((s.roundStep1 f).roundStep2 f (s.drawnAndBase f).1).roundStep3 f) :=
    (s.roundSteps_charges f _ rfl).modFeeder fun h => h.same rfl rfl h.limit
  unfold State.round
  generalize ((s.roundStep1 f).roundStep2 f (s.drawnAndBase f).1).roundStep3 f = t at *
  exact ((h3.markFull f).walk _ _).sendSetpoints f _

/-! ### Reports and SILENT marks (R86 to R91) -/

theorem State.connect_charges (s : State) (c : ChargerNo) (slot : Option Slot) :
    s.Charges (s.connect c (s.connection c slot)) := by
  have hmatch : ∀ v, s.connection c slot = .changed v → s.parkedAt v c = true := by
    intro v hv
    unfold State.connection at hv
    split at hv
    · split at hv
      · next hm =>
        split at hv
        · cases hv
        · cases hv
          simp only [State.matches, Bool.and_eq_true] at hm
          exact hm.2
      · cases hv
    · cases hv
  unfold State.connect
  split
  · exact .refl s
  · next v hv =>
    have hset : s.Charges (s.modCharger c fun r => { r with connected := some v }) := by
      have hy := s.modCharger_sameYard c fun r => { r with connected := some v }
      refine ⟨hy, fun _ hg => hg, fun d w hw => ?_⟩
      rw [State.modCharger_charger] at hw ⊢
      split at hw
      · next e =>
        subst e
        cases hw
        refine .inr ?_
        rw [hy.parkedAt (by rw [State.modCharger_charger, if_pos rfl]) (by rw [State.modCharger_charger, if_pos rfl])]
        exact hmatch v hv
      · next e => exact .inl ⟨hw, by rw [if_neg e], by rw [if_neg e]⟩
    exact hset.withdrawGrant.modCharger (.inr ⟨rfl, rfl, rfl⟩)
  · exact (State.Charges.refl s).disconnect

/-- A last state of charge is noted (R86). -/
theorem State.Sound.noteSoc (h : s.Sound ∅ L) (ht : (s.veh v).tag ≠ 0) (x : Option Nat) :
    (s.modVeh v fun r => { r with lastSoc := x }).Sound ∅ L := by
  have hveh : (s.modVeh v fun r => { r with lastSoc := x }).veh v = { s.veh v with lastSoc := x } := by
    rw [State.modVeh_veh, if_pos rfl]
  have hp : s.SamePlan (s.modVeh v fun r => { r with lastSoc := x }) := State.modVeh_samePlan rfl
  have hst := h.stands v id
  refine ((h.keeps.lift ht).modMarks (.inl rfl) rfl rfl rfl).sound.landSame hst (State.modVeh_footing _ _ _)
    (by rw [hveh]; exact ht) (by rw [hveh]) (by rw [hveh]) (by rw [hveh]) (by rw [hveh]) (by rw [hp.callHeld]; exact hst.call)
    (h.blocks v id) (fun l => h.shifts_stand id) hp.shiftRecord

theorem State.Settled.chargerReport (h : s.Settled) (c : ChargerNo) (tagged : Bool) {slot : Option Slot}
    (ht : ∀ v, slot = some v → (s.veh v).tag ≠ 0) (soc power : Nat) (fault : Bool) :
    (s.chargerReport c tagged slot soc power fault).Settled := by
  unfold State.chargerReport
  extract_lets a b before connection d e f
  have ha : a.Settled := h.charges ((State.Charges.refl s).modCharger (.inr ⟨rfl, rfl, rfl⟩))
  have hb : b.Settled := by
    unfold b
    split
    · next v =>
      exact ⟨ha.sound.noteSoc (ht v rfl) _, ha.rest⟩
    · exact ha
  have hconn : b.connection c slot = connection := rfl
  clear_value b connection
  have hbd : b.Charges d := by
    unfold d
    split
    · exact (State.Charges.refl b).raise
    · exact .refl b
  have hsame : d.connection c slot = connection := by
    rw [← hconn]
    unfold State.connection State.matches
    have hcharger : d.charger c = b.charger c := by
      unfold d
      split <;> rfl
    have hpark (v : Slot) : d.parkedAt v c = b.parkedAt v c := hbd.yard.parkedAt (by rw [hcharger]) (by rw [hcharger])
    simp only [hcharger, hpark, hbd.yard.veh]
  have hd : d.Settled := hb.charges hbd
  have he : e.Settled := by
    unfold e
    rw [← hsame]
    exact hd.charges (d.connect_charges c slot)
  have hf : f.Settled := by
    unfold f
    split
    · exact he.charges (State.Charges.refl e).withdrawGrant
    · exact he
  exact hf.charges ((State.Charges.refl f).modCharger (.inr ⟨rfl, rfl, rfl⟩))

theorem State.chargingSilenced_charges (s : State) (a : Addr) : s.Charges (s.chargingSilenced a) := by
  unfold State.chargingSilenced
  refine State.Charges.forEach (.forEach (.refl s) fun c u hu => ?_) fun f u hu => ?_
  · split
    · exact hu.modCharger (.inr ⟨rfl, rfl, rfl⟩)
    · exact hu
  · split
    · exact hu.modFeeder fun h => h.same rfl rfl h.limit
    · exact hu

theorem State.modStation_charges (s : State) (a : Addr) (x : Station → Station) : s.Charges (s.modStation a x) :=
  (State.Charges.refl s).keep ⟨rfl, rfl, rfl, rfl, rfl, rfl, rfl⟩ rfl

theorem State.Charges.trans (h : s.Charges t) (k : t.Charges u) : s.Charges u := by
  refine ⟨h.yard.trans k.yard, fun g hg => k.feeder g (h.feeder g hg), fun c v hv => ?_⟩
  rcases k.charger c v hv with ⟨ht, hl, hp⟩ | hpark
  · rcases h.charger c v ht with ⟨hs, hl', hp'⟩ | hpark
    · exact .inl ⟨hs, hl.trans hl', hp.trans hp'⟩
    · exact .inr ((k.yard.parkedAt hl hp).trans hpark)
  · exact .inr hpark

theorem State.missPoll_charges (s : State) (a : Addr) : s.Charges (s.missPoll a) := by
  unfold State.missPoll
  extract_lets m
  have hm : s.Charges m := s.modStation_charges a _
  split
  · unfold State.becomeSilent
    extract_lets p q
    have hp : s.Charges p := hm.trans (m.modStation_charges a _)
    exact hp.raise.notify.trans (q.chargingSilenced_charges a)
  · exact hm

theorem State.Sound.reportRecovery (h : t.Sound ∅ L) (s : State) (recovered : Addr → Bool) :
    (State.reportRecovery s t recovered).Sound ∅ L := by
  unfold State.reportRecovery
  extract_lets a
  have ha : t.Keeps ∅ L a := by
    unfold a
    split
    · exact h.keeps.retry_empty
    · exact h.keeps
  refine (ha.chooses _ fun b u => ?_).sound
  split
  · split
    · exact .inr rfl
    · exact .inl rfl
  · exact .inl rfl

theorem State.Settled.heardFrom (h : s.Settled) (a : Addr) : (s.heardFrom a).Settled := by
  have hm : (s.modStation a fun r => { r with misses := 0 }).Settled := h.charges (s.modStation_charges a _)
  unfold State.heardFrom
  generalize (s.modStation a fun r => { r with misses := 0 }) = m at *
  refine State.Sound.settle ?_
  unfold State.recover
  split
  · exact ((hm.charges (m.modStation_charges a _)).sound).reportRecovery m _
  · exact hm.sound

theorem State.Settled.putStation (h : s.Settled) (a : Addr) (p : List Byte) : (s.putStationRow a p).2.Settled := by
  unfold State.putStationRow
  split
  · exact h
  · split
    · exact h
    · unfold State.writeStation
      extract_lets t
      have ht : t.Settled := h.charges (s.modStation_charges a _)
      split
      · exact ht.heardFrom a
      · exact ht

/-! ### PUT to CHARGER and FEEDER, and CLEAR_FEEDER (R82, R84, R105) -/

theorem State.writeCharger_charges (s : State) (c : ChargerNo) (cfg : ChargerCfg) : s.Charges (s.writeCharger c cfg) := by
  have hmove : ∀ t : State, s.Charges t → s.Charges (t.moveCharger c cfg) := by
    intro t h
    unfold State.moveCharger
    split
    · refine h.disconnect.modCharger (.inl ?_)
      obtain ⟨mark, hmark⟩ := t.disconnect_charger c
      rw [hmark, if_pos rfl]
    · next hm =>
      simp only [chargerMoved, Bool.or_eq_true, decide_eq_true_eq, not_or, not_not] at hm
      obtain ⟨⟨⟨-, hl⟩, hp⟩, -⟩ := hm
      exact h.modCharger (.inr ⟨rfl, hl.symm, hp.symm⟩)
  unfold State.writeCharger
  split
  · exact hmove _ (State.Charges.refl s).withdrawGrant
  · exact hmove s (.refl s)

theorem State.putChargerRow_charges (s : State) (c : ChargerNo) (p : List Byte) : s.Charges (s.putChargerRow c p).2 := by
  unfold State.putChargerRow
  split
  · exact .refl s
  · split
    · exact .refl s
    · split
      · exact .refl s
      · exact s.writeCharger_charges c _

theorem decodeFeeder_limit {p : List Byte} {cfg : FeederCfg} (h : decodeFeeder p = some cfg) : 0 < cfg.limit := by
  obtain ⟨meter, -, rfl⟩ := Option.map_eq_some_iff.mp h
  simp only [clamp]
  omega

theorem State.putFeederRow_charges (s : State) (f : FeederNo) (p : List Byte) : s.Charges (s.putFeederRow f p).2 := by
  unfold State.putFeederRow
  split
  · exact .refl s
  · next cfg hcfg =>
    split
    · exact .refl s
    · exact (State.Charges.refl s).modFeeder (x := fun r => feederWith r cfg) fun h =>
        h.same rfl rfl (decodeFeeder_limit hcfg)

theorem State.clearFeeder_charges (s : State) (f : FeederNo) : s.Charges (s.clearFeeder f).2 :=
  (State.Charges.refl s).modFeeder (x := fun r => { r with state := .normal, accumulator := 0 }) fun h =>
    ⟨Nat.zero_le _, fun k => by (cases k), h.limit⟩

theorem State.meterReport_charges (s : State) (f : FeederNo) (draw : Nat) : s.Charges (s.meterReport f draw) :=
  (State.Charges.refl s).modFeeder fun h => h.same rfl rfl h.limit

end

end Sys2Proof.Machine
end

section
/-! What the orders and the PUTs of lanes and bays, and the minute advance, keep of the invariant (R36, R37, R60, R63, R79,
R180). -/

namespace Sys2Proof.Machine

section
variable {s t u : State} {v w : Slot} {l m : LaneNo} {X : Set Slot} {L : Set LaneNo} {b : BayNo} {k : QueueKind}

/-! ### Orders with the end of their event -/

/-- An order that is refused leaves the state; one that is carried out ends with its shift steps (R140, R174). -/
theorem State.Settled.settled (h : s.Settled) {r : Outcome × State} (hr : r.2.Sound ∅ ∅)
    (hn : r.1.carriedOut = false → r.2 = s) : (settled r).2.Settled := by
  unfold Machine.settled
  split
  · exact hr.settle
  · next hc => rw [hn (by simpa using hc)]; exact h

/-! ### Lanes and bays that take a new static part, and keep what stands in them -/

theorem State.PlanHolds.of_eq (h : s.PlanHolds) (hf : t.fleet = s.fleet) (hd : t.ds = s.ds) : t.PlanHolds := by
  have hv (v : Slot) : t.veh v = s.veh v := by simp [State.veh, hf]
  have hr (i : Nat) : t.row i = s.row i := by simp [State.row, hd]
  refine ⟨fun v i => by rw [hv, hr]; exact h.bound v i, fun v => by rw [hv]; exact h.unheld v, by rw [hd]; exact h.active,
    ?_, by rw [hd]; exact h.pending⟩
  rw [hd]
  intro r hr
  obtain ⟨a, b, c, d⟩ := h.standby r hr
  exact ⟨a, b, c, fun v e => by rw [hv]; exact d v e⟩

/-- A lane with a list is of its kind and its capacity. -/
def Lane.Keeps (r r' : Lane) : Prop :=
  r'.entries = r.entries ∧ r'.front = r.front
    ∧ (r.entries ≠ [] → r'.cfg.kind = r.cfg.kind ∧ r'.cfg.capacity = r.cfg.capacity)

theorem Lane.Keeps.refl (r : Lane) : r.Keeps r := ⟨rfl, rfl, fun _ => ⟨rfl, rfl⟩⟩

theorem State.covers_keeps (hu : ∀ x, t.units x = s.units x) (hl : (s.lane l).Keeps (t.lane l)) (p : Nat) :
    t.covers l v p = s.covers l v p := by
  obtain ⟨he, hf, hk⟩ := hl
  have hpres : t.presentIn l v = s.presentIn l v := by simp [State.presentIn, he]
  by_cases hn : (s.lane l).entries = []
  · have h1 : s.presentIn l v = false := by simp [State.presentIn, hn]
    simp [State.covers, hpres, h1]
  · have hfirst (i : Nat) : t.firstPosition l i = s.firstPosition l i := by
      simp only [State.firstPosition, State.unitsIn, he, hf, hu, (hk hn).1]
    have hindex : t.entryIndex l v = s.entryIndex l v := by simp only [State.entryIndex, he]
    simp only [State.covers, hpres, hfirst, hindex, hu]

theorem State.LanesFit.keeps (h : s.LanesFit) (hu : ∀ x, t.units x = s.units x) (hl : ∀ l, (s.lane l).Keeps (t.lane l)) :
    t.LanesFit where
  nodup l := by rw [(hl l).1]; exact h.nodup l
  room l := by
    obtain ⟨he, hf, hk⟩ := hl l
    rw [he, hf, State.unitsIn_congr hu]
    by_cases hn : (s.lane l).entries = []
    · rw [hn, h.front l (.inr hn)]
      exact Nat.zero_le _
    · rw [(hk hn).2]; exact h.room l
  front l := by
    obtain ⟨he, hf, hk⟩ := hl l
    rw [he, hf]
    intro hc
    by_cases hn : (s.lane l).entries = []
    · exact h.front l (.inr hn)
    · rw [(hk hn).1] at hc
      exact h.front l hc

theorem State.Sound.refit (h : s.Sound X L) (hf : t.fleet = s.fleet) (hd : t.ds = s.ds)
    (hfoot : ∀ v, t.footing v = s.footing v) (hl : ∀ l, (s.lane l).Keeps (t.lane l))
    (hc : ∀ c, (t.charger c).connected = (s.charger c).connected ∧ (t.charger c).cfg = (s.charger c).cfg)
    (hdesk : t.DeskHolds) : t.Sound X L := by
  have hv (v : Slot) : t.veh v = s.veh v := by simp [State.veh, hf]
  have hu (x : Slot) : t.units x = s.units x := by simp [State.units, hv]
  have hrec (l : LaneNo) : t.shiftRecord l = s.shiftRecord l := by simp [State.shiftRecord, hd]
  refine ⟨fun v hx => by rw [hv]; exact h.tags v hx,
    fun v hx => (h.stands v hx).spared ⟨hv v, hfoot v⟩ ((State.SamePlan.of_ds hd fun v => by rw [hv]).callHeld v),
    fun v hx l m => by rw [hv, hrec]; exact h.blocks v hx l m, fun l v => ?_, h.lanes.keeps hu hl, fun c v hcv => ?_, hdesk,
    h.plan.of_eq hf hd⟩
  · rw [hrec, State.presentIn_congr (hfoot v), hv, hd]
    exact h.shifts l v
  · obtain ⟨e1, e2⟩ := hc c
    rw [e1] at hcv
    have := h.connects c v hcv
    simp only [State.parkedAt, e2, hv, State.covers_keeps hu (hl _)] at this ⊢
    exact this

theorem State.footing_of_entries (he : ∀ l, (t.lane l).entries = (s.lane l).entries) (hq : ∀ k, t.queue k = s.queue k)
    (hb : ∀ b, (t.bay b).ticket = (s.bay b).ticket) (hw : t.waitList = s.waitList) (v : Slot) :
    t.footing v = s.footing v := by
  simp only [State.footing, he, hq, hb, hw]

/-- A lane is given a new static part, or a set state (R36, R37). -/
theorem State.Sound.modLane (h : s.Sound X L) {f : Lane → Lane} (hl : (s.lane l).Keeps (f (s.lane l))) :
    (s.modLane l f).Sound X L := by
  have hkeeps (m : LaneNo) : (s.lane m).Keeps ((s.modLane l f).lane m) := by
    rw [State.modLane_lane]
    split
    · next e => subst e; exact hl
    · exact .refl _
  exact h.refit rfl rfl
    (State.footing_of_entries (fun m => (hkeeps m).1) (fun k => by cases k <;> rfl) (fun _ => rfl) rfl) hkeeps
    (fun _ => ⟨rfl, rfl⟩) (h.desk.of_stc rfl)

theorem State.Settled.modLane (h : s.Settled) {f : Lane → Lane} (hl : (s.lane l).Keeps (f (s.lane l))) :
    (s.modLane l f).Settled := ⟨h.sound.modLane hl, h.rest⟩

/-! ### Lane orders and PUT to LANE (R36, R37) -/

theorem State.Sound.orderSetState (h : s.Sound ∅ L) (l : LaneNo) (x : SetState) : (s.orderSetState l x).Sound ∅ L := by
  unfold State.orderSetState
  extract_lets t
  have ht : t.Sound ∅ L := h.modLane ⟨rfl, rfl, fun _ => ⟨rfl, rfl⟩⟩
  split
  · exact ht.keeps.retry_empty.sound
  · exact ht

theorem State.Settled.openLane (h : s.Settled) (l : LaneNo) : (Machine.settled (s.openLane l)).2.Settled := by
  refine h.settled ?_ ?_
  · unfold State.openLane
    split
    · exact h.sound
    · exact h.sound.orderSetState l _
  · unfold State.openLane
    split
    · exact fun _ => rfl
    · exact fun hc => by cases hc

theorem State.laneOpened_closed (s : State) (l : LaneNo) :
    laneOpened s (s.modLane l fun r => { r with setState := .closed }) = false := by
  refine List.any_eq_false.mpr fun m _ => ?_
  simp only [Bool.and_eq_true, decide_eq_true_eq, not_and, ne_eq, not_not]
  intro ho
  by_cases e : l = m
  · subst e
    unfold State.laneState at ho
    rw [State.modLane_lane, if_pos rfl] at ho
    dsimp only at ho
    repeat' split at ho
    all_goals cases ho
  · unfold State.laneState at ho ⊢
    rw [State.modLane_lane, if_neg e] at ho
    exact ho

theorem State.Settled.closeLane (h : s.Settled) (l : LaneNo) : (s.closeLane l).2.Settled := by
  unfold State.closeLane State.orderSetState
  dsimp only
  rw [State.laneOpened_closed, if_neg (by simp)]
  exact h.modLane ⟨rfl, rfl, fun _ => ⟨rfl, rfl⟩⟩

theorem State.Settled.putLane (h : s.Settled) (l : LaneNo) (p : List Byte) : (s.putLaneRow l p).2.Settled := by
  unfold State.putLaneRow
  split
  · exact h
  next cfg _ =>
  split
  · exact h
  split
  · exact h
  next hshape =>
  unfold State.writeLane
  extract_lets t
  have ht : t.Settled := by
    refine h.modLane ⟨rfl, rfl, fun hne => ?_⟩
    have hs : shapeChanged (s.lane l).cfg cfg = false := by
      by_contra hs
      exact hshape ⟨hne, by simpa using hs⟩
    simp only [shapeChanged, Bool.or_eq_false_iff, decide_eq_false_iff_not, ne_eq, not_not] at hs
    exact ⟨hs.1.1.symm, hs.2.symm⟩
  split
  · exact ht.sound.keeps.retry_empty.sound.settle
  · exact ht

/-! ### Bays (R63, R79) -/

theorem State.choose_ds (s : State) (b : BayNo) : (s.choose b).ds = s.ds := by
  obtain ⟨-, -, hd, -⟩ := s.choose_frame b
  exact hd

theorem State.Settled.choose (h : s.Settled) (b : BayNo) : (s.choose b).Settled :=
  ⟨(h.sound.keeps.choose .empty b).1.sound, by rw [State.choose_ds]; exact h.rest⟩

theorem State.Settled.chooseKind (h : s.Settled) (k : QueueKind) : (s.chooseKind k).Settled :=
  forEach_keeps State.Settled _ _ s h fun b _ t ht => by
    split
    · exact ht.choose b
    · exact ht

theorem State.Settled.putBay (h : s.Settled) (b : BayNo) (p : List Byte) : (s.putBayRow b p).2.Settled := by
  unfold State.putBayRow
  split
  · exact h
  split
  · exact h
  split
  · exact h
  next cfg _ _ hkind =>
  have hdesk : (s.modBay b fun r => { r with cfg := cfg }).DeskHolds := by
    refine h.sound.desk.sameTicket rfl (h.sound.desk.held b) fun T hT hs => ?_
    obtain ⟨hk, hn, hc, hi⟩ := hT
    have hused := h.sound.desk.held b (by rw [hs]; rfl)
    exact ⟨hk.trans (by_contra fun hne => hkind ⟨hused, hne⟩), hn, hc, hi⟩
  exact State.Settled.choose ⟨(h.sound.keeps.modBay (.inl rfl) hdesk).sound, h.rest⟩ b

theorem State.Settled.releaseBay (h : s.Settled) (hb : inUse (s.bay b).state = false) (x : BayState) :
    (s.releaseBay b x).Settled := by
  have hnone : (s.bay b).ticket = none := by
    rw [← Option.not_isSome_iff_eq_none]
    intro hs
    rw [h.sound.desk.held b hs] at hb
    cases hb
  exact ⟨(h.sound.keeps.releaseBay (fun U hU => by rw [hnone] at hU; cases hU) x).sound, h.rest⟩

theorem State.Settled.openBay (h : s.Settled) (b : BayNo) : (s.openBay b).2.Settled := by
  unfold State.openBay
  split
  · exact h
  · exact h
  · exact h
  · exact h
  · exact h
  · next hs => exact (h.releaseBay (by rw [hs]; rfl) .free).choose b

theorem State.Settled.clearBay (h : s.Settled) (b : BayNo) : (s.clearBay b).2.Settled := by
  unfold State.clearBay
  split
  · exact h
  · exact h
  · exact h
  · exact h
  · next hs => exact (h.releaseBay (by rw [hs]; rfl) .free).choose b
  · exact h

theorem State.Settled.returned (h : s.Settled) (b : BayNo) (x : BayState) :
    ((s.returnTicket b).releaseBay b x).Settled := by
  unfold State.returnTicket
  split
  · next T hT =>
    have hd : ((s.enqueue T).releaseBay b x).ds = s.ds := by
      simp [State.releaseBay, State.modBay_eq, State.enqueue, State.modVeh_eq]
    exact ⟨(h.sound.keeps.turnedAway hT rfl rfl (h.sound.desk.taken b T hT).2.1 x).sound, by rw [hd]; exact h.rest⟩
  · next hn =>
    exact ⟨(h.sound.keeps.releaseBay (fun U hU => by rw [hn] at hU; cases hU) x).sound, h.rest⟩

theorem State.Settled.closeBay (h : s.Settled) (b : BayNo) : (s.closeBay b).2.Settled := by
  unfold State.closeBay
  split
  · next hs => exact h.releaseBay (by rw [hs]; rfl) .closed
  · next hs => exact h.releaseBay (by rw [hs]; rfl) .closed
  · have hback := h.returned b .closed
    dsimp only
    generalize (s.returnTicket b).releaseBay b .closed = u at *
    exact hback.chooseKind _
  · exact h
  · exact h
  · exact h

/-! ### The minute advance (R60, R180) -/

theorem State.insertTickets_perm (s : State) (list : List Ticket) : ∀ done : List Ticket,
    (list.foldl (fun q t => s.insertTicket t q) done).Perm (list ++ done) := by
  induction list with
  | nil => exact fun _ => .refl _
  | cons T rest ih =>
    intro done
    rw [List.foldl_cons]
    exact (ih _).trans (((s.insertTicket_perm T done).append_left rest).trans List.perm_middle)

theorem State.requeueWrapped_eq (s : State) (k : QueueKind) :
    ∃ q, q.Perm (s.queue k) ∧ s.requeueWrapped k = s.setQueue k q := by
  refine ⟨_, ?_, rfl⟩
  refine (s.insertTickets_perm _ _).trans ?_
  simpa using List.filter_append_perm (fun t => decide (s.waiting t = 0)) (s.queue k)

theorem perm_eq_of_length_le_one {α : Type} {a b : List α} (h : a.Perm b) (hb : b.length ≤ 1) : a = b := by
  match b, hb with
  | [], _ => exact List.perm_nil.mp h
  | [x], _ => exact List.perm_singleton.mp h

/-- The order of the new minute changes the order of the queues alone (R60). -/
theorem State.Settled.requeueWrapped (h : s.Settled) (k : QueueKind) : (s.requeueWrapped k).Settled := by
  obtain ⟨q, hperm, e⟩ := s.requeueWrapped_eq k
  rw [e]
  have hfoot (w : Slot) : (s.setQueue k q).footing w = s.footing w := by
    rw [State.setQueue_footing]
    ext1 <;> try rfl
    funext j
    dsimp only
    split
    · next e =>
      subst e
      exact perm_eq_of_length_le_one (hperm.filter _) (h.sound.tickets_le_one k w)
    · rfl
  have hdesk := h.sound.desk.fewer (k := k) (q := q) fun T hT => hperm.mem_iff.mp hT
  have hd := s.setQueue_ds k q
  have hk := h.sound.keeps.still (u := s.setQueue k q) (.setQueue (.refl s)) (by cases k <;> rfl) (by cases k <;> rfl) hd
    (fun w _ => hfoot w) hdesk
  exact ⟨hk.sound, by rw [hd]; exact h.rest⟩

theorem State.Settled.takeAdvance (h : s.Settled) (x : AdvanceTaker) : (s.takeAdvance x).Settled := by
  cases x with
  | yardMap => exact h
  | placement => exact h.sound.keeps.retry_empty.sound.settle
  | service => exact h.sound.keeps.serviceAdvance.sound.settle
  | departures => exact h.departureAdvance
  | round f => exact h.charges (s.round_charges f)

theorem State.Settled.advance (h : s.Settled) (order : List AdvanceTaker) : (s.advance order).Settled := by
  have hm : s.nextMinute.Settled := h.frame .byRfl
  exact forEach_keeps State.Settled _ _ _ ((hm.requeueWrapped .fuel).requeueWrapped .wash) fun x _ _ ht => ht.takeAdvance x

end

end Sys2Proof.Machine
end

section
/-! What the PUTs of the plan banks and of the fleet keep of the invariant (R3, R113, R114). -/

namespace Sys2Proof.Machine

section
variable {s t u : State} {v w : Slot} {l m : LaneNo} {X : Set Slot} {L : Set LaneNo} {i j : Nat} {r : PlanRow} {p : List Byte}

/-! ### Rows that are written (R109, R113, R114) -/

theorem State.decodePlanRow_spec (h : s.decodePlanRow p = some r) : (r.state = .planned ∨ r.state = .bound)
    ∧ (r.state = .bound ↔ r.bound.isSome = true) ∧ (r.blocked || r.carried) = false
    ∧ ∀ v, r.bound = some v → (s.veh v).tag ≠ 0 := by
  unfold State.decodePlanRow at h
  split at h
  · next bound _ _ _ =>
    split at h
    · cases h
    · next ht =>
      cases h
      refine ⟨?_, ?_, rfl, fun v hv => ?_⟩
      · dsimp only
        split
        · exact .inr rfl
        · exact .inl rfl
      · dsimp only
        split <;> simp [*]
      · intro h0
        rw [show bound = some v from hv] at ht
        simp [h0] at ht
  · cases h

theorem PlanRow.Sound.written (hs : r.state = .planned ∨ r.state = .bound) (hb : r.state = .bound ↔ r.bound.isSome = true)
    (hm : (r.blocked || r.carried) = false) : r.Sound where
  names k := by
    rcases k with k | k | k
    · exact hb.mp k
    all_goals
      rw [k] at hs
      simp at hs
  unnamed k := by
    rcases k with k | k | k
    · rw [← Option.not_isSome_iff_eq_none, ← hb, k]; simp
    all_goals
      rw [k] at hs
      simp at hs
  marks k := by
    rw [← Bool.or_eq_true, hm] at k
    cases k

theorem mem_writeRow {bank : List PlanRow} {x : PlanRow} (h : x ∈ writeRow bank i r) : x = r ∨ x ∈ bank := by
  unfold writeRow at h
  split at h
  · exact (List.mem_or_eq_of_mem_set h).symm
  · simpa [or_comm] using h

theorem getElem?_writeRow {bank : List PlanRow} (hi : i ≤ bank.length) :
    (writeRow bank i r)[j]? = if i = j then some r else bank[j]? := by
  unfold writeRow
  split
  · next hlt =>
    rw [List.getElem?_set]
    by_cases e : i = j
    · rw [if_pos e, if_pos e, if_pos hlt]
    · rw [if_neg e, if_neg e]
  · next hge =>
    obtain rfl : i = bank.length := by omega
    by_cases e : bank.length = j
    · subst e; simp
    · rw [if_neg e]
      by_cases hlt : j < bank.length
      · rw [List.getElem?_append_left hlt]
      · rw [List.getElem?_eq_none (by simp; omega), List.getElem?_eq_none (by omega)]

theorem State.Settled.putStandby (h : s.Settled) (i : Nat) (p : List Byte) : (s.putStandbyRow i p).2.Settled := by
  unfold State.putStandbyRow
  split
  · exact h
  next r hr =>
  split
  · exact h
  next hswap =>
  split
  · exact h
  have hp := h.sound.plan
  refine ⟨h.sound.redraft (fun v => ⟨(s.veh v).boundRow, rfl⟩) (fun _ _ => rfl) rfl rfl rfl (.of_eq rfl rfl rfl) rfl
    (fun _ k => k) (fun _ => Iff.rfl) ⟨hp.bound, hp.unheld, hp.active, fun x hx => ?_, fun k => absurd k hswap⟩, h.rest⟩
  rcases mem_writeRow hx with rfl | hx
  · exact State.decodePlanRow_spec hr
  · exact hp.standby x hx

/-! ### PUT to an ACTIVE row (R114) -/

/-- A bus is called when a CALLED row names it. -/
theorem State.PlanHolds.callHeld_iff (h : s.PlanHolds) (v : Slot) :
    s.CallHeld v ↔ ∃ i r, s.row i = some r ∧ r.state = .called ∧ r.bound = some v := by
  constructor
  · rintro ⟨r, hr, hc⟩
    obtain ⟨i, hi, hrow⟩ := Option.bind_eq_some_iff.mp hr
    obtain ⟨x, hx, hb⟩ := (h.bound v i).mp hi
    obtain rfl : r = x := Option.some.inj (hrow.symm.trans hx)
    exact ⟨i, r, hrow, hc, ((r.binds_iff v).mp hb).2⟩
  · rintro ⟨i, r, hr, hc, hb⟩
    refine ⟨r, ?_, hc⟩
    rw [State.boundPlan, (h.bound v i).mpr ⟨r, hr, (r.binds_iff v).mpr ⟨.inr hc, hb⟩⟩]
    exact hr

/-- The bus that a rewritten row loses (R114 step 1). -/
def State.loses (s : State) (i : Nat) (bound : Option Slot) (w : Slot) : Prop :=
  bound ≠ some w ∧ ∃ r, s.row i = some r ∧ r.state = .bound ∧ r.bound = some w

theorem State.unbindRewritten_spec (s : State) (i : Nat) (bound : Option Slot) :
    s.unbindRewritten i bound = { s with fleet := (s.unbindRewritten i bound).fleet }
      ∧ ∀ w, (s.loses i bound w ∧ (s.unbindRewritten i bound).veh w = { s.veh w with boundRow := none })
        ∨ ¬ s.loses i bound w ∧ (s.unbindRewritten i bound).veh w = s.veh w := by
  have hsame (hn : ∀ w, ¬ s.loses i bound w) : s = { s with fleet := s.fleet }
      ∧ ∀ w, (s.loses i bound w ∧ s.veh w = { s.veh w with boundRow := none }) ∨ ¬ s.loses i bound w ∧ s.veh w = s.veh w :=
    ⟨rfl, fun w => .inr ⟨hn w, rfl⟩⟩
  unfold State.unbindRewritten
  split
  · next old hold =>
    split
    · next v hs hb =>
      split
      · next e =>
        refine hsame fun w ⟨hne, r, hr, _, hw⟩ => hne ?_
        obtain rfl : old = r := Option.some.inj (hold.symm.trans hr)
        rw [e, ← hb, hw]
      · next e =>
        refine ⟨rfl, fun w => ?_⟩
        rw [State.clearBinding, State.modVeh_veh]
        split
        · next hvw =>
          subst hvw
          exact .inl ⟨⟨e, old, hold, hs, hb⟩, rfl⟩
        · next hvw =>
          refine .inr ⟨fun ⟨_, r, hr, _, hw⟩ => hvw ?_, rfl⟩
          obtain rfl : old = r := Option.some.inj (hold.symm.trans hr)
          exact Option.some.inj (hb.symm.trans hw)
    · next hno =>
      refine hsame fun w ⟨_, r, hr, hs, hw⟩ => ?_
      obtain rfl : old = r := Option.some.inj (hold.symm.trans hr)
      exact hno w hs hw
  · next hnone =>
    refine hsame fun w ⟨_, r, hr, _⟩ => ?_
    rw [hnone] at hr
    cases hr

theorem State.writeActive_spec (s : State) (i : Nat) (r : PlanRow) :
    s.writeActive i r = { s with fleet := (s.writeActive i r).fleet, ds := { s.ds with active := writeRow s.ds.active i r } }
      ∧ (∀ w, r.bound = some w → (s.writeActive i r).veh w = { s.veh w with boundRow := some i })
      ∧ (∀ w, s.loses i r.bound w → (s.writeActive i r).veh w = { s.veh w with boundRow := none })
      ∧ ∀ w, r.bound ≠ some w → ¬ s.loses i r.bound w → (s.writeActive i r).veh w = s.veh w := by
  obtain ⟨hcore, hveh⟩ := s.unbindRewritten_spec i r.bound
  unfold State.writeActive
  generalize s.unbindRewritten i r.bound = a at *
  have hb : ({ a with ds := { a.ds with active := writeRow a.ds.active i r } } : State)
      = { s with fleet := a.fleet, ds := { s.ds with active := writeRow s.ds.active i r } } := by rw [hcore]
  have hbv (w : Slot) : ({ a with ds := { a.ds with active := writeRow a.ds.active i r } } : State).veh w = a.veh w := rfl
  dsimp only
  generalize ({ a with ds := { a.ds with active := writeRow a.ds.active i r } } : State) = b at *
  cases hv : r.bound with
  | some v =>
    rw [hv] at hveh
    have hset (w : Slot) : (b.bindWritten i (some v)).veh w
        = if v = w then { a.veh w with boundRow := some i } else a.veh w := by
      rw [State.bindWritten, State.modVeh_veh, hbv]
    refine ⟨?_, fun w hw => ?_, fun w hw => ?_, fun w hw hn => ?_⟩
    · show { b with fleet := _ } = _
      rw [hb]; rfl
    · cases hw
      rw [hset, if_pos rfl]
      rcases hveh v with ⟨hl, -⟩ | ⟨-, e⟩
      · exact absurd rfl hl.1
      · rw [e]
    · have hne : v ≠ w := fun e => hw.1 (by rw [e])
      rw [hset, if_neg hne]
      exact (hveh w).elim (fun k => k.2) fun k => absurd hw k.1
    · have hne : v ≠ w := fun e => hw (by rw [e])
      rw [hset, if_neg hne]
      exact (hveh w).elim (fun k => absurd k.1 hn) fun k => k.2
  | none =>
    rw [hv] at hveh
    refine ⟨?_, fun w hw => (by cases hw), fun w hw => ?_, fun w hw hn => ?_⟩
    · rw [State.bindWritten, hb]
    · rw [State.bindWritten, hbv]
      exact (hveh w).elim (fun k => k.2) fun k => absurd hw k.1
    · rw [State.bindWritten, hbv]
      exact (hveh w).elim (fun k => absurd k.1 hn) fun k => k.2

theorem State.boundElsewhere_false {bank : List PlanRow} (h : boundElsewhere bank i v = false) {x : PlanRow}
    (hx : bank[j]? = some x) (hne : j ≠ i) : x.binds v = false := by
  by_contra hb
  have hmem : (bank.mapIdx fun j r => j ≠ i && r.binds v).any id = true := by
    rw [List.any_eq_true]
    refine ⟨true, List.mem_mapIdx.mpr ?_, rfl⟩
    obtain ⟨hj, rfl⟩ := List.getElem?_eq_some_iff.mp hx
    exact ⟨j, hj, by simpa [hne] using hb⟩
  rw [boundElsewhere] at h
  rw [h] at hmem
  cases hmem

theorem State.Sound.writeActive (h : s.Sound ∅ L) (hi : i ≤ s.ds.active.length) (hr : r.Sound)
    (hs : r.state = .planned ∨ r.state = .bound) (htag : ∀ v, r.bound = some v → (s.veh v).tag ≠ 0)
    (hb : r.state = .bound ↔ r.bound.isSome = true) (hfix : ∀ old, s.row i = some old → old.state ≠ .called)
    (helse : ∀ v, r.bound = some v → boundElsewhere s.ds.active i v = false)
    (hheld : ∀ v, r.bound = some v → (s.veh v).held = false) : (s.writeActive i r).Sound ∅ L := by
  obtain ⟨hcore, hnew, hlost, hsame⟩ := s.writeActive_spec i r
  have hplan := h.plan
  generalize s.writeActive i r = t at *
  have hrow (j : Nat) : t.row j = if i = j then some r else s.row j := by
    rw [State.row, hcore]
    exact getElem?_writeRow hi
  have hveh (w : Slot) : ∃ b, t.veh w = { s.veh w with boundRow := b } := by
    by_cases e : r.bound = some w
    · exact ⟨_, hnew w e⟩
    · by_cases k : s.loses i r.bound w
      · exact ⟨_, hlost w k⟩
      · exact ⟨_, hsame w e k⟩
  have hbinds (w : Slot) : r.binds w = true ↔ r.bound = some w := by
    rw [PlanRow.binds_iff]
    exact ⟨fun k => k.2, fun k => ⟨.inl (hb.mpr (by rw [k]; rfl)), k⟩⟩
  have hbound (w : Slot) (j : Nat) : (t.veh w).boundRow = some j ↔ ∃ x, t.row j = some x ∧ x.binds w = true := by
    rw [hrow]
    by_cases e : r.bound = some w
    · rw [hnew w e]
      by_cases hij : i = j
      · subst hij
        simpa using (hbinds w).mpr e
      · rw [if_neg hij]
        refine iff_of_false (by simpa using hij) ?_
        rintro ⟨x, hx, hw⟩
        rw [State.boundElsewhere_false (helse w e) hx (Ne.symm hij)] at hw
        cases hw
    · have hno : ¬ (∃ x, (if i = i then some r else s.row i) = some x ∧ x.binds w = true) := by
        rw [if_pos rfl]
        rintro ⟨x, hx, hw⟩
        cases hx
        exact e ((hbinds w).mp hw)
      by_cases k : s.loses i r.bound w
      · rw [hlost w k]
        refine iff_of_false (by simp) fun hx => ?_
        by_cases hij : i = j
        · subst hij; exact hno hx
        · rw [if_neg hij] at hx
          obtain ⟨-, old, hold, hos, hob⟩ := k
          have h1 := (hplan.bound w j).mpr hx
          rw [(hplan.bound w i).mpr ⟨old, hold, (old.binds_iff w).mpr ⟨.inl hos, hob⟩⟩] at h1
          exact hij (Option.some.inj h1)
      · rw [hsame w e k]
        by_cases hij : i = j
        · subst hij
          refine iff_of_false (fun hx => k ⟨e, ?_⟩) hno
          obtain ⟨old, hold, hob⟩ := (hplan.bound w i).mp hx
          rw [PlanRow.binds_iff] at hob
          exact ⟨old, hold, hob.1.resolve_right (hfix old hold), hob.2⟩
        · rw [if_neg hij]; exact hplan.bound w j
  have htags (w : Slot) : (t.veh w).tag = (s.veh w).tag := by obtain ⟨b, e⟩ := hveh w; rw [e]
  have hp : t.PlanHolds := by
    refine ⟨hbound, fun w hw => ?_, fun x hx => ?_, ?_, by rw [hcore]; exact hplan.pending⟩
    · obtain ⟨b, e⟩ := hveh w
      have hsw : (s.veh w).held = true := by rw [e] at hw; exact hw
      by_cases e : r.bound = some w
      · rw [hheld w e] at hsw; cases hsw
      · by_cases k : s.loses i r.bound w
        · rw [hlost w k]
        · rw [hsame w e k]; exact hplan.unheld w hsw
    · rw [hcore] at hx
      rcases mem_writeRow hx with rfl | hx
      · exact hr
      · exact hplan.active x hx
    · rw [hcore]
      intro x hx
      obtain ⟨a, b, c, d⟩ := hplan.standby x hx
      rw [← hcore]
      exact ⟨a, b, c, fun w hw => by rw [htags]; exact d w hw⟩
  refine h.redraft hveh (fun w h0 => ?_) (by rw [hcore]) (by rw [hcore]) (by rw [hcore]) ⟨by rw [hcore], by rw [hcore],
    fun c => .inl (by rw [hcore]; rfl), fun w => by obtain ⟨b, e⟩ := hveh w; rw [e]; rfl⟩ (by rw [hcore])
    (fun l hl => by rw [hcore]; exact hl) (fun w => ?_) hp
  · have hnone := h.emptySlot w h0
    by_cases k : s.loses i r.bound w
    · rw [hlost w k, hnone]
    · rw [hsame w (fun e => htag w e h0) k]
  · rw [hp.callHeld_iff, hplan.callHeld_iff]
    refine exists_congr fun j => exists_congr fun x => ?_
    rw [hrow]
    split
    · next e =>
      subst e
      refine iff_of_false ?_ ?_
      · rintro ⟨hx, hc, -⟩
        cases hx
        rcases hs with e | e <;> rw [e] at hc <;> cases hc
      · rintro ⟨hx, hc, -⟩
        exact hfix x hx hc
    · exact Iff.rfl

theorem State.Settled.putActive (h : s.Settled) (i : Nat) (p : List Byte) : (s.putActiveRow i p).2.Settled := by
  unfold State.putActiveRow
  split
  · exact h
  next r hr =>
  split
  · exact h
  next hlen =>
  split
  · exact h
  next hfix =>
  split
  · exact h
  split
  · exact h
  next helse =>
  split
  · exact h
  next hheld =>
  obtain ⟨hs, hb, hm, ht⟩ := State.decodePlanRow_spec hr
  refine ⟨h.sound.writeActive (Nat.le_of_not_lt hlen) (PlanRow.Sound.written hs hb hm) hs ht hb (fun old hold hc => ?_)
    (fun v hv => ?_) (fun v hv => ?_), ?_⟩
  · rw [hold] at hfix
    simp [rowFixed, hc] at hfix
  · rw [hv] at helse
    simpa using helse
  · rw [hv] at hheld
    simpa using hheld
  · rw [(s.writeActive_spec i r).1]; exact h.rest

/-! ### PUT to a FLEET row (R3) -/

theorem State.unitsIn_eq {es : List Entry} (hu : ∀ e ∈ es, t.units e.slot = s.units e.slot) : t.unitsIn es = s.unitsIn es := by
  unfold State.unitsIn
  rw [List.map_congr_left hu]

/-- A vehicle's record is replaced by one that stands where it stood, and takes as many units wherever it takes any. -/
theorem State.Sound.reface (h : s.Sound ∅ L) {x : Vehicle} (hstate : x.state = (s.veh v).state)
    (hloc : x.location = (s.veh v).location) (hshift : x.shift = (s.veh v).shift) (hmis : x.misorder = (s.veh v).misorder)
    (hbound : x.boundRow = (s.veh v).boundRow) (h0 : x.tag = 0 → x = {})
    (hheld : x.held = true → (s.veh v).boundRow = none)
    (hlen : x.length = (s.veh v).length ∨ ∀ l, (s.footing v).entries l = [])
    (hstandby : x.tag = 0 → ∀ r ∈ s.ds.standby, r.bound ≠ some v) : (s.setVeh v x).Sound ∅ L := by
  have hveh (w : Slot) : (s.setVeh v x).veh w = if v = w then x else s.veh w := s.setVeh_veh v w x
  have hfoot (w : Slot) : (s.setVeh v x).footing w = s.footing w := s.setVeh_footing v x
  have hsame (w : Slot) : ((s.setVeh v x).veh w).state = (s.veh w).state
      ∧ ((s.setVeh v x).veh w).location = (s.veh w).location ∧ ((s.setVeh v x).veh w).boundRow = (s.veh w).boundRow := by
    rw [hveh]
    split
    · next e => subst e; exact ⟨hstate, hloc, hbound⟩
    · exact ⟨rfl, rfl, rfl⟩
  have hunits (w : Slot) (hw : x.length = (s.veh v).length ∨ w ≠ v) : (s.setVeh v x).units w = s.units w := by
    simp only [State.units, hveh]
    split
    · next e =>
      subst e
      rcases hw with hw | hw
      · simp only [unitsOf, hw]
      · exact absurd rfl hw
    · rfl
  have hentries (l : LaneNo) (e : Entry) (he : e ∈ (s.lane l).entries) :
      (s.setVeh v x).units e.slot = s.units e.slot := by
    refine hunits e.slot (hlen.imp id fun hno hw => ?_)
    have := State.mem_footing_entries he
    rw [hw, hno] at this
    cases this
  have hp : s.SamePlan (s.setVeh v x) := .of_ds rfl fun w => (hsame w).2.2
  refine ⟨fun _ k => absurd k id, fun w _ => ?_, fun w _ l m => ?_, fun l w => ?_, ⟨h.lanes.nodup, fun l => ?_, h.lanes.front⟩,
    fun c w hc => ?_, h.desk.of_stc rfl, ⟨fun w i => ?_, fun w hw => ?_, h.plan.active, fun r hr => ?_, h.plan.pending⟩⟩
  · have hst := h.stands w id
    by_cases e : v = w
    · subst e
      refine ⟨by rw [hveh, if_pos rfl, hfoot, hstate, hloc]; exact hst.fits, ?_, ?_, ?_, ?_, ?_⟩
      · rw [hveh, if_pos rfl]; exact h0
      · rw [hveh, if_pos rfl, hshift, hstate]; exact hst.shift
      · rw [hveh, if_pos rfl, hshift, hloc]; exact hst.blocker
      · rw [State.inSomeLane_congr (hfoot v), hveh, if_pos rfl, hmis]; exact hst.misorder
      · rw [hp.callHeld, hveh, if_pos rfl, hstate]; exact hst.call
    · exact hst.spared ⟨by rw [hveh, if_neg e], hfoot w⟩ (hp.callHeld w)
  · rw [(hsame w).2.1]; exact h.blocks w id l m
  · rw [State.presentIn_congr (hfoot w), (hsame w).2.1]; exact h.shifts l w
  · show (s.setVeh v x).unitsIn (s.lane l).entries + _ ≤ _
    rw [State.unitsIn_eq (hentries l)]
    exact h.lanes.room l
  · have hs := h.connects c w hc
    simp only [State.parkedAt, Bool.and_eq_true, decide_eq_true_eq] at hs ⊢
    refine ⟨by rw [(hsame w).1]; exact hs.1, ?_⟩
    have hcov := hs.2
    have hpres : s.presentIn (s.charger c).cfg.lane w = true := by
      simp only [State.covers, Bool.and_eq_true] at hcov
      exact hcov.1.1
    obtain ⟨e, he, hes⟩ := List.any_eq_true.mp hpres
    simp only [Bool.and_eq_true, decide_eq_true_eq] at hes
    have huw : (s.setVeh v x).units w = s.units w := by rw [← hes.1]; exact hentries _ e he
    have hfirst (k : Nat) : (s.setVeh v x).firstPosition (s.charger c).cfg.lane k
        = s.firstPosition (s.charger c).cfg.lane k := by
      unfold State.firstPosition
      have h1 : (s.setVeh v x).lane (s.charger c).cfg.lane = s.lane (s.charger c).cfg.lane := rfl
      rw [h1]
      split
      · rw [State.unitsIn_eq fun e he => hentries _ e (List.mem_of_mem_take he)]
      · rw [State.unitsIn_eq fun e he => hentries _ e (List.mem_of_mem_drop he)]
    have hindex : (s.setVeh v x).entryIndex (s.charger c).cfg.lane w = s.entryIndex (s.charger c).cfg.lane w := rfl
    simp only [State.covers, State.setVeh_charger, hfirst, hindex, huw] at hcov ⊢
    exact hcov
  · rw [(hsame w).2.2]; exact h.plan.bound w i
  · rw [(hsame w).2.2]
    rw [hveh] at hw
    split at hw
    · next e => subst e; exact hheld hw
    · exact h.plan.unheld w hw
  · obtain ⟨a, b, c, d⟩ := h.plan.standby r hr
    refine ⟨a, b, c, fun w hw => ?_⟩
    rw [hveh]
    split
    · next e => subst e; exact fun h0 => hstandby h0 r hr hw
    · exact d w hw

/-- A slot that no row names binds no row, and no STANDBY row names it. -/
theorem State.PlanHolds.unplanned (h : s.PlanHolds) (hp : s.planned v = false) :
    (s.veh v).boundRow = none ∧ ∀ r ∈ s.ds.standby, r.bound ≠ some v := by
  simp only [State.planned, Bool.or_eq_false_iff, List.any_eq_false] at hp
  refine ⟨?_, fun r hr hb => hp.2 r hr ?_⟩
  · cases hb : (s.veh v).boundRow with
    | none => rfl
    | some i =>
      obtain ⟨r, hr, hbinds⟩ := (h.bound v i).mp hb
      exact absurd hbinds (hp.1 r (State.row_mem hr))
  · obtain ⟨-, hbound, -, -⟩ := h.standby r hr
    exact (r.binds_iff v).mpr ⟨.inl (hbound.mpr (by rw [hb]; rfl)), hb⟩

theorem State.Sound.fleetAfter (h : s.Sound ∅ L) {new : Vehicle}
    (hout : (s.veh v).tag ≠ 0 → identityChanged (s.veh v) new = true → (s.veh v).state = .out)
    (hplan : (s.veh v).tag ≠ 0 → (s.veh v).tag ≠ new.tag → s.planned v = false) :
    (s.setVeh v (fleetAfter (s.veh v) new)).Sound ∅ L := by
  have hst := h.stands v id
  by_cases htag : (s.veh v).tag = 0
  · have hempty := hst.empty htag
    have hstandby : ∀ r ∈ s.ds.standby, r.bound ≠ some v := fun r hr hb => by
      obtain ⟨-, -, -, d⟩ := h.plan.standby r hr
      exact d v hb htag
    have hfoot := hst.footing_out (by rw [hempty])
    have hno : ∀ l, (s.footing v).entries l = [] := fun l => by rw [hfoot]; rfl
    unfold Machine.fleetAfter
    split
    · exact h.reface (by rw [hempty]) (by rw [hempty]) (by rw [hempty]) (by rw [hempty]) (by rw [hempty]) (fun _ => rfl)
        (fun k => by cases k) (.inr hno) fun _ => hstandby
    · next hn =>
      exact h.reface (by rw [hempty]; rfl) (by rw [hempty]; rfl) (by rw [hempty]; rfl) (by rw [hempty]; rfl)
        (by rw [hempty]; rfl) (fun k => absurd k hn) (fun k => by cases k) (.inr hno) fun _ => hstandby
  · unfold Machine.fleetAfter
    split
    · next hn =>
      have hne : (s.veh v).tag ≠ new.tag := by rw [hn]; exact htag
      have hs := hout htag (by simp [identityChanged, hne])
      obtain ⟨hb, hstandby⟩ := h.plan.unplanned (hplan htag hne)
      have ha := hst.out hs
      have hloc : (s.veh v).location = .none := by
        have hf := hst.fits
        rw [hs] at hf
        generalize (s.veh v).location = loc at *
        generalize s.footing v = f at *
        cases hf
        rfl
      exact h.reface hs.symm hloc.symm ha.shift.symm ha.misorder.symm hb.symm (fun _ => rfl) (fun k => by cases k)
        (.inr fun l => by rw [ha.footing]; rfl) fun _ => hstandby
    · next hn =>
      refine h.reface rfl rfl rfl rfl rfl (fun k => absurd k hn) (h.plan.unheld v) ?_ (fun k => absurd k hn)
      by_cases hlen : new.length = (s.veh v).length
      · exact .inl hlen
      · have hs := hout htag (by simp [identityChanged, Ne.symm hlen])
        exact .inr fun l => by rw [hst.footing_out hs]; rfl

theorem State.Settled.putFleet (h : s.Settled) (v : Slot) (p : List Byte) : (s.putFleetRow v p).2.Settled := by
  unfold State.putFleetRow
  split
  · exact h
  next new _ =>
  extract_lets old
  split
  · exact h
  split
  · exact h
  next hout =>
  split
  · exact h
  next hplan =>
  refine ⟨h.sound.fleetAfter (fun ht hi => ?_) fun ht hne => ?_, h.rest⟩
  · by_contra hs
    exact hout ⟨ht, hi, hs⟩
  · by_contra hp
    exact hplan ⟨ht, hne, by simpa using hp⟩

end

end Sys2Proof.Machine
end

section
/-! What power-on, the soft reset and the end of a LOAD keep of the invariant (R20, R38, R81, R176, R184, R186). -/

namespace Sys2Proof.Machine

section
variable {s t u : State} {v w : Slot} {l m : LaneNo} {X : Set Slot} {L : Set LaneNo}

/-! ### A part in which nothing stands -/

/-- A part in which every bus is OUT and nothing is listed, planned or connected. -/
structure State.Vacant (s : State) : Prop where
  veh : ∀ v, (s.veh v).state = .out ∧ (s.veh v).location = .none ∧ (s.veh v).boundRow = none ∧ (s.veh v).shift = false
    ∧ (s.veh v).misorder = false
  empty : ∀ v, (s.veh v).tag = 0 → s.veh v = {}
  lane : ∀ l, (s.lane l).entries = [] ∧ (s.lane l).front = 0
  queue : ∀ k, s.queue k = []
  bay : ∀ b, (s.bay b).ticket = none
  waits : s.waitList = []
  plan : s.ds = {}
  charger : ∀ c, (s.charger c).connected = none

theorem State.Vacant.settled (h : s.Vacant) : s.Settled := by
  have hfoot (v : Slot) : s.footing v = .none := by
    simp [State.footing, Footing.none, h.lane, h.queue, h.bay, h.waits]
  have hrow (i : Nat) : s.row i = none := by simp [State.row, h.plan]
  have hrec (l : LaneNo) : s.shiftRecord l = .idle := by simp [State.shiftRecord, h.plan, Vector.get_eq_getElem]
  refine ⟨⟨fun _ k => absurd k id, fun v _ => ?_, fun v _ l m hl => ?_, fun l v hl => ?_, ⟨fun l => ?_, fun l => ?_, fun l _ => (h.lane l).2⟩,
    fun c v hc => ?_, ⟨fun k T hT => ?_, fun b hb => ?_, fun b T hT => ?_, fun k => ?_⟩, ⟨fun v i => ?_, fun v _ => ?_, ?_, ?_, ?_⟩⟩, by rw [h.plan]⟩
  · obtain ⟨hs, hl, hb, hshift, hmis⟩ := h.veh v
    refine ⟨by rw [hs, hl, hfoot]; exact .out, h.empty v, fun k => ?_, fun l m k => ?_, fun _ => hmis,
      iff_of_false ?_ ?_⟩
    · rw [hshift] at k; cases k
    · rw [hl] at k; cases k
    · rw [hs]; simp
    · rintro ⟨r, hr, -⟩
      rw [State.boundPlan, hb] at hr
      cases hr
  · rw [(h.veh v).2.1] at hl; cases hl
  · rw [hrec] at hl; cases hl
  · rw [(h.lane l).1]; exact List.nodup_nil
  · rw [(h.lane l).1, (h.lane l).2]; exact Nat.zero_le _
  · rw [h.charger] at hc; cases hc
  · rw [h.queue] at hT; cases hT
  · rw [h.bay] at hb; cases hb
  · rw [h.bay] at hT; cases hT
  · have hnone : s.takenUp k = ∅ := by simp [State.takenUp, h.queue, h.bay]
    rw [hnone, Set.ncard_empty]
    exact Nat.zero_le _
  · refine iff_of_false ?_ ?_
    · obtain ⟨-, -, hb, -⟩ := h.veh v
      rw [hb]; simp
    · rintro ⟨r, hr, -⟩
      rw [hrow] at hr
      cases hr
  · obtain ⟨-, -, hb, -⟩ := h.veh v
    exact hb
  · rw [h.plan]; exact fun _ k => by cases k
  · rw [h.plan]; exact fun _ k => by cases k
  · rw [h.plan]; exact fun k => by cases k

theorem State.Vacant.frame (h : s.Vacant) (k : s.SameCore t) : t.Vacant where
  veh v := by simpa [State.veh, k.fleet] using h.veh v
  empty v := by simpa [State.veh, k.fleet] using h.empty v
  lane l := by simpa [State.lane, k.lanes] using h.lane l
  queue j := by
    have : t.queue j = s.queue j := by cases j <;> simp [State.queue, k.stc]
    rw [this]; exact h.queue j
  bay b := by simpa [State.bay, k.stc] using h.bay b
  waits := k.waitList.trans h.waits
  plan := k.ds.trans h.plan
  charger c := by simpa [State.charger, k.ca] using h.charger c

/-! ### Power-on and soft reset (R20, R38, R81, R184) -/

theorem State.ofConfiguration_vacant (c : Configuration) : (State.ofConfiguration c).Vacant where
  veh v := by simp [State.ofConfiguration, State.veh, Vector.get_eq_getElem]
  empty v _ := by simp [State.ofConfiguration, State.veh, Vector.get_eq_getElem]
  lane l := by simp [State.ofConfiguration, State.lane, Vector.get_eq_getElem, freshLane]
  queue k := by cases k <;> rfl
  bay b := by simp [State.ofConfiguration, State.bay, Vector.get_eq_getElem]
  waits := rfl
  plan := rfl
  charger d := by simp [State.ofConfiguration, State.charger, Vector.get_eq_getElem]

theorem State.startUp_settled (s : State) (straps : Addr) : (s.startUp straps).Settled := by
  have hraise : (State.ofConfiguration (s.ss.flash.getD {})).SameCore
      ((State.ofConfiguration (s.ss.flash.getD {})).defaulted s.ss.flash) := by
    unfold State.defaulted
    split
    · exact .byRfl
    · exact State.raise_sameCore _ _
  have h := (State.ofConfiguration_vacant (s.ss.flash.getD {})).frame hraise
  unfold State.startUp
  dsimp only
  generalize (State.ofConfiguration (s.ss.flash.getD {})).defaulted s.ss.flash = t at *
  exact (h.frame (t := { t with
    ss := { (State.ofConfiguration (s.ss.flash.getD {})).ss with flash := s.ss.flash }, ownAddr := straps,
    pending := s.pending }) .byRfl).settled

theorem State.softly_vacant (h : ∀ v, (s.veh v).tag = 0 → s.veh v = {}) : s.softly.Vacant where
  veh v := by simp [State.softly, State.veh, Vector.get_eq_getElem, Vehicle.afterReset, withStatic]
  empty v h0 := by
    have hv : s.softly.veh v = (s.veh v).afterReset := by simp [State.softly, State.veh, Vector.get_eq_getElem]
    have he : (s.veh v).tag = 0 := by rw [hv] at h0; exact h0
    rw [hv, h v he]
    rfl
  lane l := by simp [State.softly, State.lane, Vector.get_eq_getElem, freshLane]
  queue k := by cases k <;> rfl
  bay b := by simp [State.softly, State.bay, Vector.get_eq_getElem, Bay.afterReset]
  waits := rfl
  plan := rfl
  charger d := by simp [State.softly, State.charger, Vector.get_eq_getElem]

theorem State.Settled.softReset (h : s.Settled) : s.softReset.Settled := by
  have hv := State.softly_vacant fun v => (h.sound.stands v id).empty
  unfold State.softReset
  generalize s.softly = t at *
  split
  · exact ((hv.frame (t.raise_sameCore _)).frame (State.raise_sameCore _ _)).settled
  · exact (hv.frame (t.raise_sameCore _)).settled

/-! ### The end of a LOAD (R186) -/

theorem State.Settled.rewired (h : s.Settled) (c : Configuration) : (s.rewired c).Settled :=
  forEach_keeps State.Settled _ _ s h fun n _ _ ht => ht.charges (State.writeCharger_charges _ n _)

theorem loadedLane_keeps (r : Lane) (cfg : LaneCfg) : r.Keeps (loadedLane r cfg) := by
  unfold loadedLane
  split
  · next hn => exact ⟨rfl, rfl, fun k => absurd hn k⟩
  · exact ⟨rfl, rfl, fun _ => ⟨rfl, rfl⟩⟩

theorem loadedBay_suits {r : Bay} {T : Ticket} (hr : inUse r.state = true) (h : r.Suits T) (cfg : BayCfg) :
    (loadedBay r cfg).Suits T := by
  obtain ⟨hk, hn, hc, hi⟩ := h
  refine ⟨?_, hn, hc, hi⟩
  simpa [loadedBay, hr] using hk

theorem State.Settled.installed (h : s.Settled) (c : Configuration) : (s.installed c).Settled := by
  have hlane (l : LaneNo) : (s.lane l).Keeps ((s.installed c).lane l) := by
    have : (s.installed c).lane l = loadedLane (s.lane l) (c.lanes.get l) := by
      simp [State.installed, State.lane, Vector.get_eq_getElem]
    rw [this]
    exact loadedLane_keeps _ _
  have hbay (b : BayNo) : (s.installed c).bay b = loadedBay (s.bay b) (c.bays.get b) := by
    simp [State.installed, State.bay, Vector.get_eq_getElem]
  have hticket (b : BayNo) : ((s.installed c).bay b).ticket = (s.bay b).ticket := by rw [hbay]; rfl
  have hq (k : QueueKind) : (s.installed c).queue k = s.queue k := by cases k <;> rfl
  refine ⟨h.sound.refit rfl rfl (State.footing_of_entries (fun l => (hlane l).1) hq hticket rfl) hlane
    (fun _ => ⟨rfl, rfl⟩) ⟨fun k => by rw [hq]; exact h.sound.desk.queued k, fun b => ?_, fun b T hT => ?_, fun k => ?_⟩,
    h.rest⟩
  · rw [hbay]
    exact h.sound.desk.held b
  · rw [hticket] at hT
    rw [hbay]
    exact loadedBay_suits (h.sound.desk.held b (by rw [hT]; rfl)) (h.sound.desk.taken b T hT) _
  · have htaken : (s.installed c).takenUp k = s.takenUp k := by simp only [State.takenUp, hq, hticket]
    rw [htaken]
    exact h.sound.desk.limit k

theorem State.Settled.endLoad (h : s.Settled) : s.endLoad.Settled := by
  have hm : s.SameCore { s with ss := { s.ss with loading := false } } := .byRfl
  unfold State.endLoad
  extract_lets x m
  have hms : m.Settled := h.frame hm
  clear_value m
  split
  · exact hms.frame (m.placeFault_sameCore _)
  · next c _ =>
    have hi := (hms.rewired c).installed c
    rw [← State.install_eq] at hi
    generalize m.install c = y at *
    exact hi.sound.keeps.retry_empty.chooseAll.sound.settle

end

end Sys2Proof.Machine
end

section
/-! No two slots ever hold one tag (R1), and the feeders keep their law (R95). -/

namespace Sys2Proof.Machine

/-! ### The law, and what keeps it -/

/-- From `s` to `t` every slot keeps its tag, and the feeders keep their law. -/
structure State.Bears (s t : State) : Prop where
  tag : ∀ v, (t.veh v).tag = (s.veh v).tag
  feeder : ∀ g, (s.feeder g).Fair → (t.feeder g).Fair

/-- No two slots hold one tag, and the feeders keep their law. -/
structure State.Registered (s : State) : Prop where
  tags : ∀ v w, (s.veh v).tag = (s.veh w).tag → (s.veh v).tag ≠ 0 → v = w
  feeder : ∀ g, (s.feeder g).Fair

/-- The flash image gives every feeder a limit, beside what is registered (R84). -/
structure State.Registers (s : State) : Prop where
  now : s.Registered
  flash : ∀ c, s.ss.flash = some c → ∀ f, 0 < (c.feeders.get f).limit

section
variable {s t u : State} {v : Slot} {c : ChargerNo} {f : FeederNo}

theorem State.Bears.trans (h : s.Bears t) (k : t.Bears u) : s.Bears u :=
  ⟨fun v => (k.tag v).trans (h.tag v), fun g hg => k.feeder g (h.feeder g hg)⟩

theorem State.Works.bears (h : s.Works t) : s.Bears t :=
  ⟨h.tag, fun g hg => State.feeder_of_feeders h.feeders g ▸ hg⟩

theorem State.Charges.bears (h : s.Charges t) : s.Bears t := ⟨fun v => by rw [h.yard.veh], h.feeder⟩

theorem State.Bears.refl (s : State) : s.Bears s := (State.Works.refl s).bears

theorem State.Bears.modVeh {x : Vehicle → Vehicle} (hx : (x (s.veh v)).tag = (s.veh v).tag) : s.Bears (s.modVeh v x) :=
  ⟨fun w => by
    rw [State.modVeh_veh]
    split
    · next e => subst e; exact hx
    · rfl, fun _ hg => hg⟩

theorem State.SameCore.bears (h : s.SameCore t) : s.Bears t :=
  ⟨fun v => by simp [State.veh, h.fleet], fun g hg => State.feeder_of_feeders (congrArg Ca.feeders h.ca) g ▸ hg⟩

theorem State.Registered.bears (h : s.Registered) (k : s.Bears t) : t.Registered :=
  ⟨fun v w => by rw [k.tag, k.tag]; exact h.tags v w, fun g => k.feeder g (h.feeder g)⟩

theorem State.Registered.works (h : s.Registered) (k : s.Works t) : t.Registered := h.bears k.bears

/-! ### Start-up, soft reset and the end of a LOAD (R20, R108, R184, R186) -/

theorem FeederCfg.limit_pos (h : ∀ c, s.ss.flash = some c → ∀ f, 0 < (c.feeders.get f).limit) (f : FeederNo) :
    0 < ((s.ss.flash.getD {}).feeders.get f).limit := by
  cases hc : s.ss.flash with
  | none => simp [Vector.get_eq_getElem]
  | some c => exact h c hc f

theorem State.ofConfiguration_registered {c : Configuration} (h : ∀ f, 0 < (c.feeders.get f).limit) :
    (State.ofConfiguration c).Registered where
  tags v w _ hne := absurd (by simp [State.ofConfiguration, State.veh, Vector.get_eq_getElem]) hne
  feeder g := by
    have hg : (State.ofConfiguration c).feeder g = { cfg := c.feeders.get g } := by
      simp [State.ofConfiguration, State.feeder, Vector.get_eq_getElem]
    rw [hg]
    exact ⟨Nat.zero_le _, fun k => by (cases k), h g⟩

theorem State.defaulted_sameCore (s : State) (flash : Option Configuration) : s.SameCore (s.defaulted flash) := by
  unfold State.defaulted
  split
  · exact .byRfl
  · exact State.raise_sameCore _ _

theorem State.Registers.startUp (h : s.Registers) (straps : Addr) : (s.startUp straps).Registered := by
  have hc := (State.ofConfiguration_registered (FeederCfg.limit_pos h.flash)).bears
    (State.defaulted_sameCore _ s.ss.flash).bears
  unfold State.startUp
  dsimp only
  generalize (State.ofConfiguration (s.ss.flash.getD {})).defaulted s.ss.flash = t at *
  exact hc.bears (State.SameCore.bears .byRfl)

theorem State.Registered.softReset (h : s.Registered) : s.softReset.Registered := by
  have hs : s.Bears s.softly := by
    refine ⟨fun v => by simp [State.softly, State.veh, Vector.get_eq_getElem, Vehicle.afterReset, withStatic], fun g hg => ?_⟩
    have hf : s.softly.feeder g = (s.feeder g).afterReset := by simp [State.softly, State.feeder, Vector.get_eq_getElem]
    rw [hf]
    exact hg.same rfl rfl hg.limit
  unfold State.softReset
  generalize s.softly = t at *
  split
  · exact h.bears (hs.trans ((t.raise_sameCore _).bears.trans (State.raise_sameCore _ _).bears))
  · exact h.bears (hs.trans (t.raise_sameCore _).bears)

theorem State.rewired_charges (s : State) (c : Configuration) : s.Charges (s.rewired c) :=
  (State.Charges.refl s).forEach fun n u hu => hu.trans (u.writeCharger_charges n _)

theorem State.installed_bears (s : State) {c : Configuration} (h : ∀ f, 0 < (c.feeders.get f).limit) :
    s.Bears (s.installed c) := by
  refine ⟨fun _ => rfl, fun g hg => ?_⟩
  have hf : (s.installed c).feeder g = { s.feeder g with cfg := c.feeders.get g } := by
    simp [State.installed, State.feeder, Vector.get_eq_getElem]
  rw [hf]
  exact hg.same rfl rfl (h g)

theorem State.Registers.endLoad (h : s.Registers) : s.endLoad.Registered := by
  have hm : s.SameCore { s with ss := { s.ss with loading := false } } := .byRfl
  unfold State.endLoad
  extract_lets x m
  have hms : m.Registered := h.now.bears hm.bears
  have hflash : m.ss.flash = s.ss.flash := rfl
  clear_value m
  split
  · exact hms.bears (m.placeFault_sameCore _).bears
  · next c hc =>
    have hi := (hms.bears (m.rewired_charges c).bears).bears (State.installed_bears _ (h.flash c (hflash ▸ hc)))
    rw [← State.install_eq] at hi
    generalize m.install c = y at *
    exact hi.works (.settle (.chooseAll (.retry (.refl y))))

/-! ### The minute advance (R180) -/

theorem State.armedSwap_bears (s : State) : s.Bears s.armedSwap := by
  unfold State.armedSwap
  split
  · split
    · exact State.Works.bears (.exchangeIfDue (.ds (.refl s)))
    · exact (State.Works.bears (.ds (.refl s))).trans (State.placeFault_sameCore _ _).bears
  · exact .refl s

theorem State.departureAdvance_bears (s : State) : s.Bears s.departureAdvance := by
  unfold State.departureAdvance
  split
  · split
    · exact ((State.Works.bears (.rollRows (.refl s))).trans (State.armedSwap_bears _)).trans
        (State.Works.bears (.callScan (.refl _)))
    · exact State.Works.bears (.callScan (.refl s))
  · exact State.Works.bears (.shiftRetries (.refl s))

theorem State.Registered.takeAdvance (h : s.Registered) (x : AdvanceTaker) : (s.takeAdvance x).Registered := by
  cases x with
  | yardMap => exact h
  | placement => exact h.works (.settle (.retry (.refl s)))
  | service => exact h.works (.settle (.serviceAdvance (.refl s)))
  | departures => exact h.bears s.departureAdvance_bears
  | round f => exact h.bears (s.round_charges f).bears

theorem State.Registered.advance (h : s.Registered) (order : List AdvanceTaker) : (s.advance order).Registered := by
  have hminute : s.Works s.nextMinute := .of_eq rfl rfl rfl
  have hstart : s.Works ((s.nextMinute.requeueWrapped .fuel).requeueWrapped .wash) := hminute.requeueWrapped.requeueWrapped
  exact forEach_keeps State.Registered _ _ _ (h.works hstart) fun x _ t ht => ht.takeAdvance x

/-! ### Stations, chargers and the fleet -/

theorem State.heardFrom_bears (s : State) (a : Addr) : s.Bears (s.heardFrom a) := by
  have hm : s.Bears (s.modStation a fun r => { r with misses := 0 }) := (s.modStation_charges a _).bears
  unfold State.heardFrom
  generalize s.modStation a (fun r => { r with misses := 0 }) = m at *
  refine (hm.trans ?_).trans (State.Works.bears (.settle (.refl _)))
  unfold State.recover
  split
  · exact (m.modStation_charges a _).bears.trans (State.reportRecovery_works m _ _).bears
  · exact .refl m

theorem State.putStationRow_bears (s : State) (a : Addr) (p : List Byte) : s.Bears (s.putStationRow a p).2 := by
  unfold State.putStationRow
  split
  · exact .refl s
  · split
    · exact .refl s
    · unfold State.writeStation
      extract_lets t
      have ht : s.Bears t := (s.modStation_charges a _).bears
      split
      · exact ht.trans (t.heardFrom_bears a)
      · exact ht

theorem State.modCharger_bears (s : State) (c : ChargerNo) (x : Charger → Charger) : s.Bears (s.modCharger c x) :=
  ⟨fun _ => rfl, fun _ h => h⟩

theorem State.withdrawGrant_bears (s : State) (c : ChargerNo) : s.Bears (s.withdrawGrant c) :=
  (State.Charges.refl s).withdrawGrant.bears

theorem State.connect_bears (s : State) (c : ChargerNo) (x : Connection) : s.Bears (s.connect c x) := by
  unfold State.connect
  cases x with
  | kept => exact .refl s
  | changed v => exact ((s.modCharger_bears c _).trans (State.withdrawGrant_bears _ c)).trans (State.modCharger_bears _ c _)
  | cleared => exact (State.Charges.refl s).disconnect.bears

theorem State.chargerReport_bears (s : State) (c : ChargerNo) (tagged : Bool) (slot : Option Slot) (soc power : Nat)
    (fault : Bool) : s.Bears (s.chargerReport c tagged slot soc power fault) := by
  unfold State.chargerReport
  extract_lets a b before connection d e f
  have ha : s.Bears a := s.modCharger_bears c _
  have hb : a.Bears b := by
    unfold b
    split
    · exact .modVeh rfl
    · exact .refl a
  have hd : b.Bears d := by
    unfold d
    split
    · exact (b.raise_sameCore _).bears
    · exact .refl b
  have he : d.Bears e := d.connect_bears c connection
  have hf : e.Bears f := by
    unfold f
    split
    · exact e.withdrawGrant_bears c
    · exact .refl e
  exact ((((ha.trans hb).trans hd).trans he).trans hf).trans (f.modCharger_bears c _)

theorem fleetAfter_tag (old new : Vehicle) : (fleetAfter old new).tag = new.tag := by
  unfold fleetAfter
  split
  · next h => exact h.symm
  · split <;> rfl

theorem State.Registered.putFleet (h : s.Registered) (v : Slot) (p : List Byte) : (s.putFleetRow v p).2.Registered := by
  unfold State.putFleetRow
  split
  · exact h
  next new _ =>
  extract_lets old
  split
  · exact h
  next hfree =>
  split
  · exact h
  split
  · exact h
  have htaken : new.tag ≠ 0 → ∀ w, w ≠ v → (s.veh w).tag ≠ new.tag := by
    simpa [State.tagTaken, mem_upTo] using hfree
  have htag (w : Slot) : ((s.setVeh v (fleetAfter old new)).veh w).tag = if v = w then new.tag else (s.veh w).tag := by
    rw [State.setVeh_veh]
    split
    · exact fleetAfter_tag _ _
    · rfl
  refine ⟨fun w x he hne => ?_, h.feeder⟩
  rw [htag w, htag x] at he
  rw [htag w] at hne
  by_cases hw : v = w <;> by_cases hx : v = x
  · exact hw.symm.trans hx
  · rw [if_pos hw, if_neg hx] at he
    rw [if_pos hw] at hne
    exact absurd he.symm (htaken hne x (Ne.symm hx))
  · rw [if_neg hw, if_pos hx] at he
    rw [if_neg hw] at hne
    exact absurd he (htaken (he ▸ hne) w (Ne.symm hw))
  · rw [if_neg hw, if_neg hx] at he
    rw [if_neg hw] at hne
    exact h.tags w x he hne

/-! ### HOLD and UNHOLD (R16) -/

theorem State.hold_bears (s : State) (v : Slot) : s.Bears (s.hold v).2 := by
  unfold State.hold
  split
  · exact .refl s
  · split
    · exact .refl s
    · extract_lets call m
      have hm : s.Bears m := .modVeh rfl
      dsimp only
      split
      · exact hm.trans (State.Works.bears (.modVeh (.undoCall (.refl m)) endedCall_badge))
      · exact hm.trans (State.Works.bears (.unbindBound (.refl m)))

theorem State.unhold_bears (s : State) (v : Slot) : s.Bears (s.unhold v).2 := by
  unfold State.unhold
  split
  · exact .refl s
  · exact State.Bears.modVeh (s := s) (v := v) (x := fun r => { r with held := false }) rfl

theorem State.setClock_works (s : State) (minute : Nat) : s.Works (s.setClock minute).2 := by
  have h : s.Works { s with ycs := { s.ycs with minute := min 1439 minute, clockSet := true } } := .of_eq rfl rfl rfl
  unfold State.setClock
  dsimp only
  generalize { s with ycs := { s.ycs with minute := min 1439 minute, clockSet := true } } = m at *
  exact .callScan h

/-! ### Every owner -/

theorem registered_ownersKeep : OwnersKeep State.Registers State.Registered where
  start h := h.now
  frame e h := h.bears e.bears
  startUp straps h := h.startUp straps
  softReset h := h.now.softReset
  endLoad h := h.endLoad
  advance order h := h.now.advance order
  missPoll a h := h.bears (State.missPoll_charges _ a).bears
  heardFrom a h := h.bears (State.heardFrom_bears _ a)
  settle h := h.works (.settle (.refl _))
  gateIn _ _ h := h.works (.settle (.gateIn (.refl _)))
  gateOut _ _ h := h.works (.settle (.gateOut (.refl _)))
  laneEntry _ _ _ h := h.works (.settle (.laneEntry (.refl _)))
  laneExit _ _ _ h := h.works (.settle (.laneExit (.refl _)))
  bayArrive _ _ _ h := h.works (.settle (.bayArrive (.refl _)))
  bayDone _ h := h.works (.settle (.bayDone (.refl _)))
  bayFault _ h := h.works (.settle (.bayFault (.refl _)))
  chargerReport c tagged slot soc power fault _ h :=
    (h.bears (State.chargerReport_bears _ c tagged slot soc power fault)).works (.settle (.refl _))
  meterReport f draw h := (h.bears (State.meterReport_charges _ f draw).bears).works (.settle (.refl _))
  putStation a p h := h.bears (State.putStationRow_bears _ a p)
  putLane l p h := h.works (State.putLaneRow_works _ l p)
  putCharger c p h := h.bears (State.putChargerRow_charges _ c p).bears
  putFeeder f p h := h.bears (State.putFeederRow_charges _ f p).bears
  putBay b p h := h.works (State.putBayRow_works _ b p)
  putFleet v p h := h.putFleet v p
  putActive i p h := h.works (State.putActiveRow_works _ i p)
  putStandby i p h := h.works (State.putStandbyRow_works _ i p)
  swapNow _ h := h.works (State.swapNow_works _)
  swapAtRollover _ h := h.works (State.swapAtRollover_works _)
  cancelSwap h := h.works (.ds (.refl _))
  cancelRow i h := h.works (State.cancelRow_works _ i)
  hold v h := (h.bears (State.hold_bears _ v)).works (settled_works (.refl _))
  unhold v h := h.bears (State.unhold_bears _ v)
  yardSet v l h := h.works (settled_works (State.yardSet_works _ v l))
  yardSetOut v h := h.works (settled_works (State.yardSetOut_works _ v))
  openLane l h := h.works (settled_works (State.openLane_works _ l))
  closeLane l h := h.works (State.orderSetState_works _ l _)
  openBay b h := h.works (State.openBay_works _ b)
  closeBay b h := h.works (State.closeBay_works _ b)
  clearBay b h := h.works (State.clearBay_works _ b)
  clearFeeder f h := h.bears (State.clearFeeder_charges _ f).bears
  setClock minute h := h.works (State.setClock_works _ minute)
  arrivalLapse _ _ h := h.works (.settle (.arrivalLapse (.refl _)))
  noShow _ h := h.works (.settle (.noShow (.refl _)))
  retryBay _ h := h.works (.retryBay (.refl _))
  overstayed _ h := h.works (.overstayed (.refl _))

end

end Sys2Proof.Machine
end

section
/-! Every owner keeps the invariant of the yard. -/

namespace Sys2Proof.Machine

section
variable {s t : State} {v : Slot} {l : LaneNo} {b : BayNo}

/-! ### Orders on a vehicle (R16 to R18) -/

theorem State.hold_of_refused (s : State) (v : Slot) : (s.hold v).1.carriedOut = false → (s.hold v).2 = s := by
  unfold State.hold
  split
  · exact fun _ => rfl
  split
  · exact fun _ => rfl
  · exact fun h => by cases h

theorem State.yardSet_of_refused (s : State) (v : Slot) (l : LaneNo) :
    (s.yardSet v l).1.carriedOut = false → (s.yardSet v l).2 = s := by
  unfold State.yardSet
  split
  · exact fun _ => rfl
  split
  · exact fun _ => rfl
  split
  · exact fun _ => rfl
  split
  · exact fun _ => rfl
  · exact fun h => by cases h

theorem State.yardSetOut_of_refused (s : State) (v : Slot) :
    (s.yardSetOut v).1.carriedOut = false → (s.yardSetOut v).2 = s := by
  unfold State.yardSetOut
  split
  · exact fun _ => rfl
  split
  · exact fun _ => rfl
  split
  · exact fun _ => rfl
  · exact fun h => by cases h

theorem State.Settled.hold (h : s.Settled) (v : Slot) : (Machine.settled (s.hold v)).2.Settled :=
  h.settled (h.sound.hold v) (s.hold_of_refused v)

theorem State.Settled.unhold (h : s.Settled) (v : Slot) : (s.unhold v).2.Settled := by
  refine ⟨h.sound.unhold v, ?_⟩
  unfold State.unhold
  split <;> exact h.rest

theorem State.Settled.yardSet (h : s.Settled) (v : Slot) (l : LaneNo) : (Machine.settled (s.yardSet v l)).2.Settled :=
  h.settled (h.sound.yardSet h.rest v l) (s.yardSet_of_refused v l)

theorem State.Settled.yardSetOut (h : s.Settled) (v : Slot) : (Machine.settled (s.yardSetOut v)).2.Settled :=
  h.settled (h.sound.yardSetOut v) (s.yardSetOut_of_refused v)

/-! ### Timers of the bays (R75, R77) -/

theorem State.Settled.retryBay (h : s.Settled) (b : BayNo) : (s.retryBay b).Settled := by
  refine ⟨(h.sound.keeps.retryBay b).sound, ?_⟩
  have hd : (s.retryBay b).ds = s.ds := by
    unfold State.retryBay
    split
    · exact (State.direct_sameYard _ _ _ _).ds
    · rfl
  rw [hd]
  exact h.rest

theorem State.Settled.overstayed (h : s.Settled) (b : BayNo) : (s.overstayed b).Settled := by
  refine ⟨(h.sound.keeps.overstayed b).sound, ?_⟩
  have hd : (s.overstayed b).ds = s.ds := by
    unfold State.overstayed
    split
    · rfl
    · dsimp only
      split <;> rfl
  rw [hd]
  exact h.rest

/-! ### Every owner -/

theorem settled_ownersKeep : OwnersKeep State.Settled State.Settled where
  start h := h
  frame e h := h.frame e
  startUp straps _ := State.startUp_settled _ straps
  softReset h := h.softReset
  endLoad h := h.endLoad
  advance order h := h.advance order
  missPoll a h := h.charges (State.missPoll_charges _ a)
  heardFrom a h := h.heardFrom a
  settle h := h.sound.settle
  gateIn _ ht h := (h.sound.gateIn ht).settle
  gateOut _ ht h := (h.sound.gateOut ht).settle
  laneEntry _ l ht h := (h.sound.laneEntry h.rest ht l).settle
  laneExit _ l ht h := (h.sound.laneExit ht l).settle
  bayArrive b v _ h := (h.sound.keeps.bayArrive b v).sound.settle
  bayDone b h := (h.sound.keeps.bayDone b).sound.settle
  bayFault b h := (h.sound.keeps.bayFault b).sound.settle
  chargerReport c tagged _ soc power fault ht h := (h.chargerReport c tagged ht soc power fault).sound.settle
  meterReport f draw h := (h.charges (State.meterReport_charges _ f draw)).sound.settle
  putStation a p h := h.putStation a p
  putLane l p h := h.putLane l p
  putCharger c p h := h.charges (State.putChargerRow_charges _ c p)
  putFeeder f p h := h.charges (State.putFeederRow_charges _ f p)
  putBay b p h := h.putBay b p
  putFleet v p h := h.putFleet v p
  putActive i p h := h.putActive i p
  putStandby i p h := h.putStandby i p
  swapNow _ h := h.swapNow
  swapAtRollover _ h := h.swapAtRollover
  cancelSwap h := h.cancelSwap
  cancelRow i h := h.cancelRow i
  hold v h := h.hold v
  unhold v h := h.unhold v
  yardSet v l h := h.yardSet v l
  yardSetOut v h := h.yardSetOut v
  openLane l h := h.openLane l
  closeLane l h := h.closeLane l
  openBay b h := h.openBay b
  closeBay b h := h.closeBay b
  clearBay b h := h.clearBay b
  clearFeeder f h := h.charges (State.clearFeeder_charges _ f)
  setClock minute h := h.setClock minute
  arrivalLapse v l h := (h.sound.arrivalLapse v l).settle
  noShow b h := (h.sound.keeps.noShow b).sound.settle
  retryBay b h := h.retryBay b
  overstayed b h := h.overstayed b

end

end Sys2Proof.Machine
end

section
/-! The laws of the yard are the invariant of the yard: the places that the tables of R5 and R6 name are the footings that fit a
state and a location record. -/

namespace Sys2Proof.Machine

/-! ### The places of a footing -/

/-- The places in which a footing stands. -/
def Footing.places (f : Footing) : Places where
  lanes := (upTo 32).flatMap fun l => (f.entries l).map fun e => (l, e.standing)
  queues := (f.tickets .fuel ++ f.tickets .wash).map Ticket.kind
  bays := (upTo 6).filter fun b => (f.bays b).isSome
  waits := f.waits.length

section
variable {s t : State} {v w : Slot} {l m : LaneNo} {f : Footing} {st : VehicleState} {loc : Location} {k : QueueKind} {b : BayNo}

theorem State.placesOf_eq (s : State) (v : Slot) : s.placesOf v = (s.footing v).places := by
  have hbay (b : BayNo) : s.bayHolds b v = ((s.bay b).ticket.filter fun t => t.slot = v).isSome := by
    unfold State.bayHolds
    split
    · next T hT => rw [hT]; by_cases h : T.slot = v <;> simp [Option.filter, h]
    · next hT => rw [hT]; rfl
  simp only [State.placesOf, Footing.places, State.footing, List.filter_append, hbay]

/-! #### Lists with one or two places -/

theorem flatMap_at_most {α β : Type} [DecidableEq α] {ls : List α} (h : ls.Nodup) {a : α} (ha : a ∈ ls) (xs : List β) :
    (ls.flatMap fun x => if a = x then xs else []) = xs := by
  induction ls with
  | nil => cases ha
  | cons x rest ih =>
    rw [List.nodup_cons] at h
    rw [List.flatMap_cons]
    by_cases hx : a = x
    · subst hx
      have hnil : (rest.flatMap fun y => if a = y then xs else []) = [] :=
        List.flatMap_eq_nil_iff.mpr fun y hy => if_neg fun e : a = y => h.1 (e ▸ hy)
      rw [if_pos rfl, hnil, List.append_nil]
    · rw [if_neg hx, List.nil_append]
      exact ih h.2 ((List.mem_cons.mp ha).resolve_left hx)

theorem flatMap_two {α β : Type} [LinearOrder α] {ls : List α} (h : ls.Pairwise (· < ·)) {a b : α} (ha : a ∈ ls) (hb : b ∈ ls)
    (hab : a < b) (xs ys : List β) :
    (ls.flatMap fun x => if a = x then xs else if b = x then ys else []) = xs ++ ys := by
  induction ls with
  | nil => cases ha
  | cons x rest ih =>
    obtain ⟨hx, hrest⟩ := List.pairwise_cons.mp h
    rw [List.flatMap_cons]
    by_cases hax : a = x
    · subst hax
      have hb' : b ∈ rest := (List.mem_cons.mp hb).resolve_left (ne_of_gt hab)
      have hsame : (rest.flatMap fun y => if a = y then xs else if b = y then ys else [])
          = rest.flatMap fun y => if b = y then ys else [] :=
        List.flatMap_congr fun y hy => by rw [if_neg (ne_of_lt (hx y hy))]
      rw [if_pos rfl, hsame, flatMap_at_most (hrest.imp ne_of_lt) hb']
    · have ha' : a ∈ rest := (List.mem_cons.mp ha).resolve_left hax
      have hbx : b ≠ x := ne_of_gt ((hx a ha').trans hab)
      rw [if_neg hax, if_neg hbx, List.nil_append]
      exact ih hrest ha' ((List.mem_cons.mp hb).resolve_left hbx)

theorem upTo_pairwise (n : Nat) [NeZero n] : (upTo n).Pairwise (· < ·) := by
  rw [upTo_eq_finRange]
  exact List.pairwise_lt_finRange n

/-! #### From a footing to its places -/

theorem Footing.none_places : Footing.none.places = {} := by
  simp [Footing.places, Footing.none]

theorem Footing.waiting_places (x : WaitEntry) : (Footing.waiting x).places = { waits := 1 } := by
  simp [Footing.places, Footing.waiting, Footing.none]

theorem Footing.queued_places (k : QueueKind) (T : Ticket) : (Footing.queued k T).places = { queues := [T.kind] } := by
  cases k <;> simp [Footing.places, Footing.queued, Footing.none]

theorem Footing.served_places (b : BayNo) (T : Ticket) : (Footing.served b T).places = { bays := [b] } := by
  have hb : ((upTo 6).filter fun c => ((Footing.served b T).bays c).isSome) = [b] := by
    have hone (c : BayNo) : ((Footing.served b T).bays c).isSome = decide (c = b) := by
      by_cases h : b = c
      · subst h; simp [Footing.served]
      · simp [Footing.served, h, Ne.symm h]
    simp only [hone]
    rw [List.filter_eq, List.count_eq_one_of_mem (upTo_nodup 6) (mem_upTo b)]
    rfl
  simp only [Footing.places]
  rw [hb]
  simp [Footing.served, Footing.none]

theorem Footing.lone_places (l : LaneNo) (e : Entry) : (Footing.lone l e).places = { lanes := [(l, e.standing)] } := by
  have hl : ((upTo 32).flatMap fun m => ((Footing.lone l e).entries m).map fun x => (m, x.standing)) = [(l, e.standing)] := by
    rw [← flatMap_at_most (upTo_nodup 32) (mem_upTo l) [(l, e.standing)]]
    refine List.flatMap_congr fun m _ => ?_
    by_cases h : l = m
    · subst h; simp [Footing.lone]
    · simp [Footing.lone, h]
  simp only [Footing.places]
  rw [hl]
  simp [Footing.lone, Footing.none]

theorem Footing.shifted_lanes (v : Slot) (l m : LaneNo) (h : l ≠ m) : (Footing.shifted v l m).places.lanes =
    if l < m then [(l, .present), (m, .expected)] else [(m, .expected), (l, .present)] := by
  have hrow (k : LaneNo) : ((Footing.shifted v l m).entries k).map (fun x => (k, x.standing))
      = if l = k then [(l, .present)] else if m = k then [(m, .expected)] else [] := by
    simp only [Footing.shifted]
    split
    · next e => subst e; rfl
    · split
      · next e => subst e; rfl
      · rfl
  simp only [Footing.places, hrow]
  split
  · next hlt => exact flatMap_two (upTo_pairwise 32) (mem_upTo l) (mem_upTo m) hlt _ _
  · next hge =>
    have hlt : m < l := lt_of_le_of_ne (not_lt.mp hge) (Ne.symm h)
    refine Eq.trans ?_ (flatMap_two (upTo_pairwise 32) (mem_upTo m) (mem_upTo l) hlt [(m, Standing.expected)] [(l, Standing.present)])
    refine List.flatMap_congr fun k _ => ?_
    by_cases hl : l = k
    · rw [if_pos hl, if_neg fun e => h (hl.trans e.symm), if_pos hl]
    · rw [if_neg hl, if_neg hl]

/-- A footing that fits names the places that the state and the location record name (R5, R6). -/
theorem Fits.places (h : Fits v st loc f) (hk : ∀ k, ∀ T ∈ f.tickets k, T.kind = k) :
    placesNamed st loc = some f.places := by
  cases h with
  | out | lost | moving | departing => rw [Footing.none_places]; rfl
  | inbound x => rw [Footing.waiting_places]; rfl
  | queued k T =>
    rw [Footing.queued_places, hk k T (by simp [Footing.queued])]
    rfl
  | served b T => rw [Footing.served_places]; rfl
  | reserved l n => rw [Footing.lone_places]; rfl
  | parked l | called l => rw [Footing.parked_eq, Footing.lone_places]; rfl
  | shifted l m hne =>
    have hp : (Footing.shifted v l m).places = { lanes := (Footing.shifted v l m).places.lanes } := by
      simp [Footing.places, Footing.shifted, Footing.none]
    rw [hp, Footing.shifted_lanes v l m hne]
    rcases lt_or_gt_of_ne hne with hlt | hgt
    · rw [if_pos hlt]
      exact if_pos hlt
    · rw [if_neg (not_lt_of_gt hgt)]
      exact (if_neg (not_lt_of_gt hgt)).trans (if_pos hgt)

/-! #### From the places to the footing -/

theorem Footing.map_entries (f : Footing) (l : LaneNo) :
    (f.entries l).map (fun e => (l, e.standing)) = f.places.lanes.filter fun p => p.1 = l := by
  simp only [Footing.places, List.filter_flatMap]
  rw [← flatMap_at_most (upTo_nodup 32) (mem_upTo l) ((f.entries l).map fun e => (l, e.standing))]
  refine List.flatMap_congr fun m _ => ?_
  by_cases h : l = m
  · subst h; simp [List.filter_map, Function.comp_def]
  · simp [h, Ne.symm h, List.filter_map, Function.comp_def]

theorem Footing.mem_places_bays (f : Footing) (b : BayNo) : b ∈ f.places.bays ↔ (f.bays b).isSome = true := by
  simp [Footing.places, mem_upTo]

theorem Footing.map_tickets (hk : ∀ k, ∀ T ∈ f.tickets k, T.kind = k) (k : QueueKind) :
    (f.tickets k).map Ticket.kind = f.places.queues.filter fun j => j = k := by
  have hpart (j : QueueKind) : ((f.tickets j).map Ticket.kind).filter (fun i => i = k)
      = if j = k then (f.tickets j).map Ticket.kind else [] := by
    split
    · next e =>
      refine List.filter_eq_self.mpr fun i hi => ?_
      obtain ⟨T, hT, rfl⟩ := List.mem_map.mp hi
      simpa [hk j T hT] using e
    · next e =>
      refine List.filter_eq_nil_iff.mpr fun i hi => ?_
      obtain ⟨T, hT, rfl⟩ := List.mem_map.mp hi
      simpa [hk j T hT] using e
  simp only [Footing.places, List.map_append, List.filter_append, hpart]
  cases k <;> simp

/-- The lanes of a footing whose places name no lane. -/
theorem Footing.entries_nil (h : f.places.lanes = []) (l : LaneNo) : f.entries l = [] := by
  have := f.map_entries l
  rw [h] at this
  exact List.map_eq_nil_iff.mp this

/-- The lanes of a footing whose places name one lane. -/
theorem Footing.entries_lone {x : Standing} (h : f.places.lanes = [(l, x)]) :
    ∃ e, e.standing = x ∧ ∀ m, f.entries m = if l = m then [e] else [] := by
  have hmap := f.map_entries
  simp only [h, List.filter_cons, List.filter_nil, decide_eq_true_eq] at hmap
  have hl := hmap l
  rw [if_pos rfl, List.map_eq_cons_iff] at hl
  obtain ⟨e, rest, he, hx, hrest⟩ := hl
  refine ⟨e, congrArg Prod.snd hx, fun m => ?_⟩
  by_cases hm : l = m
  · subst hm
    rw [if_pos rfl, he, List.map_eq_nil_iff.mp hrest]
  · have := hmap m
    rw [if_neg hm] at this
    rw [if_neg hm, List.map_eq_nil_iff.mp this]

/-- The lanes of a footing whose places name two lanes, in either order. -/
theorem Footing.entries_two {x y : Standing} (hne : l ≠ m) (h : f.places.lanes = [(l, x), (m, y)]) :
    ∃ e d, e.standing = x ∧ d.standing = y ∧ ∀ k, f.entries k = if l = k then [e] else if m = k then [d] else [] := by
  have hmap := f.map_entries
  simp only [h, List.filter_cons, List.filter_nil, decide_eq_true_eq] at hmap
  have hl := hmap l
  rw [if_pos rfl, if_neg (Ne.symm hne), List.map_eq_cons_iff] at hl
  obtain ⟨e, rest, he, hx, hrest⟩ := hl
  have hm := hmap m
  rw [if_neg hne, if_pos rfl, List.map_eq_cons_iff] at hm
  obtain ⟨d, tail, hd, hy, htail⟩ := hm
  refine ⟨e, d, congrArg Prod.snd hx, congrArg Prod.snd hy, fun k => ?_⟩
  by_cases hlk : l = k
  · subst hlk
    rw [if_pos rfl, he, List.map_eq_nil_iff.mp hrest]
  · by_cases hmk : m = k
    · subst hmk
      rw [if_neg hlk, if_pos rfl, hd, List.map_eq_nil_iff.mp htail]
    · have := hmap k
      rw [if_neg hlk, if_neg hmk] at this
      rw [if_neg hlk, if_neg hmk, List.map_eq_nil_iff.mp this]

theorem Footing.tickets_nil (hk : ∀ k, ∀ T ∈ f.tickets k, T.kind = k) (h : f.places.queues = []) (k : QueueKind) :
    f.tickets k = [] := by
  have := Footing.map_tickets hk k
  rw [h] at this
  exact List.map_eq_nil_iff.mp this

theorem Footing.tickets_lone (hk : ∀ k, ∀ T ∈ f.tickets k, T.kind = k) (h : f.places.queues = [k]) :
    ∃ T, ∀ j, f.tickets j = if k = j then [T] else [] := by
  have hmap := Footing.map_tickets hk
  simp only [h, List.filter_cons, List.filter_nil, decide_eq_true_eq] at hmap
  have hself := hmap k
  rw [if_pos rfl, List.map_eq_cons_iff] at hself
  obtain ⟨T, rest, hT, -, hrest⟩ := hself
  refine ⟨T, fun j => ?_⟩
  by_cases hj : k = j
  · subst hj
    rw [if_pos rfl, hT, List.map_eq_nil_iff.mp hrest]
  · have := hmap j
    rw [if_neg hj] at this
    rw [if_neg hj, List.map_eq_nil_iff.mp this]

theorem Footing.bays_nil (h : f.places.bays = []) (b : BayNo) : f.bays b = Option.none := by
  have := f.mem_places_bays b
  rw [h] at this
  simpa using this

theorem Footing.bays_lone (h : f.places.bays = [b]) : ∃ T, ∀ c, f.bays c = if b = c then some T else Option.none := by
  have hmem := f.mem_places_bays
  simp only [h, List.mem_singleton] at hmem
  obtain ⟨T, hT⟩ := Option.isSome_iff_exists.mp ((hmem b).mp rfl)
  refine ⟨T, fun c => ?_⟩
  by_cases hc : b = c
  · rw [if_pos hc, ← hc, hT]
  · rw [if_neg hc, ← Option.not_isSome_iff_eq_none, ← hmem]
    exact Ne.symm hc

end

end Sys2Proof.Machine
end

section
/-! The invariant of the yard holds where the laws do (R5, R6, R22, R26). -/

namespace Sys2Proof.Machine

section
variable {s t : State} {v w : Slot} {l m : LaneNo} {f : Footing} {st : VehicleState} {loc : Location} {k : QueueKind} {b : BayNo}

/-- The entries of a footing are of a vehicle, and an entry's timer runs exactly while it waits for a vehicle that is PRESENT in
no lane (R26). -/
structure Footing.Timed (f : Footing) (v : Slot) : Prop where
  slot : ∀ l, ∀ e ∈ f.entries l, e.slot = v
  timer : ∀ l, ∀ e ∈ f.entries l, e.timer.isSome = true ↔ e.standing = .expected ∧ ∀ m, ∀ d ∈ f.entries m, d.standing ≠ .present

theorem Footing.eq_of {f g : Footing} (he : ∀ l, f.entries l = g.entries l) (ht : ∀ k, f.tickets k = g.tickets k)
    (hb : ∀ b, f.bays b = g.bays b) (hw : f.waits = g.waits) : f = g :=
  Footing.ext (funext he) (funext ht) (funext hb) hw

/-- The entry of a vehicle PRESENT in a lane. -/
theorem Footing.Timed.present (h : f.Timed v) {e : Entry} (he : e ∈ f.entries l) (hp : e.standing = .present) :
    e = ⟨v, .present, Option.none⟩ := by
  obtain ⟨slot, standing, timer⟩ := e
  obtain rfl : slot = v := h.slot l _ he
  obtain rfl : standing = .present := hp
  cases timer with
  | none => rfl
  | some n => cases ((h.timer l _ he).mp rfl).1

/-- The entry of a vehicle that is PRESENT in some lane, in a lane that expects it. -/
theorem Footing.Timed.untimed (h : f.Timed v) {e d : Entry} (he : e ∈ f.entries l) (hp : e.standing = .expected)
    (hd : d ∈ f.entries m) (hdp : d.standing = .present) : e = ⟨v, .expected, Option.none⟩ := by
  obtain ⟨slot, standing, timer⟩ := e
  obtain rfl : slot = v := h.slot l _ he
  obtain rfl : standing = .expected := hp
  cases timer with
  | none => rfl
  | some n => exact absurd hdp (((h.timer l _ he).mp rfl).2 m d hd)

section
variable (hk : ∀ k, ∀ T ∈ f.tickets k, T.kind = k)
include hk

/-- A footing whose places name lanes alone. -/
theorem Footing.eq_lanes (hq : f.places.queues = []) (hb : f.places.bays = []) (hw : f.places.waits = 0) :
    f = { Footing.none with entries := f.entries } :=
  Footing.eq_of (fun _ => rfl) (Footing.tickets_nil hk hq) (Footing.bays_nil hb) (List.length_eq_zero_iff.mp hw)

theorem Footing.eq_none (h : f.places = {}) : f = .none :=
  Footing.eq_of (Footing.entries_nil (by rw [h])) (Footing.tickets_nil hk (by rw [h])) (Footing.bays_nil (by rw [h]))
    (List.length_eq_zero_iff.mp (congrArg Places.waits h))

theorem Footing.eq_waiting (h : f.places = { waits := 1 }) : ∃ x, f = .waiting x := by
  obtain ⟨x, hx⟩ := List.length_eq_one_iff.mp (congrArg Places.waits h)
  exact ⟨x, Footing.eq_of (Footing.entries_nil (by rw [h])) (Footing.tickets_nil hk (by rw [h]))
    (Footing.bays_nil (by rw [h])) hx⟩

theorem Footing.eq_queued (h : f.places = { queues := [k] }) : ∃ T, f = .queued k T := by
  obtain ⟨T, hT⟩ := Footing.tickets_lone hk (k := k) (by rw [h])
  exact ⟨T, Footing.eq_of (Footing.entries_nil (by rw [h])) hT (Footing.bays_nil (by rw [h]))
    (List.length_eq_zero_iff.mp (congrArg Places.waits h))⟩

theorem Footing.eq_served (h : f.places = { bays := [b] }) : ∃ T, f = .served b T := by
  obtain ⟨T, hT⟩ := Footing.bays_lone (f := f) (b := b) (by rw [h])
  exact ⟨T, Footing.eq_of (Footing.entries_nil (by rw [h])) (Footing.tickets_nil hk (by rw [h])) hT
    (List.length_eq_zero_iff.mp (congrArg Places.waits h))⟩

theorem Footing.eq_parked (h : f.places = { lanes := [(l, .present)] }) (ht : f.Timed v) : f = .parked v l := by
  obtain ⟨e, hp, he⟩ := Footing.entries_lone (f := f) (l := l) (x := .present) (by rw [h])
  have hv := ht.present (e := e) (l := l) (by rw [he, if_pos rfl]; simp) hp
  rw [Footing.eq_lanes hk (by rw [h]) (by rw [h]) (by rw [h]), funext he, hv]
  rfl

theorem Footing.eq_reserved (h : f.places = { lanes := [(l, .expected)] }) (ht : f.Timed v) :
    ∃ n, f = .lone l ⟨v, .expected, some n⟩ := by
  obtain ⟨⟨slot, standing, timer⟩, hp, he⟩ := Footing.entries_lone (f := f) (l := l) (x := .expected) (by rw [h])
  have hmem : ⟨slot, standing, timer⟩ ∈ f.entries l := by rw [he, if_pos rfl]; simp
  obtain rfl : slot = v := ht.slot l _ hmem
  obtain rfl : standing = .expected := hp
  have hpres : ∀ m, ∀ d ∈ f.entries m, d.standing ≠ .present := fun m d hd hdp => by
    rw [he] at hd
    split at hd
    · rw [List.mem_singleton.mp hd] at hdp
      cases hdp
    · cases hd
  obtain ⟨n, rfl⟩ := Option.isSome_iff_exists.mp ((ht.timer l _ hmem).mpr ⟨rfl, hpres⟩)
  refine ⟨n, ?_⟩
  rw [Footing.eq_lanes hk (by rw [h]) (by rw [h]) (by rw [h]), funext he]
  rfl

theorem Footing.eq_shifted (hne : l ≠ m) (hl : f.places.lanes = [(l, .present), (m, .expected)]
      ∨ f.places.lanes = [(m, .expected), (l, .present)])
    (hq : f.places.queues = []) (hb : f.places.bays = []) (hw : f.places.waits = 0) (ht : f.Timed v) :
    f = .shifted v l m := by
  have hboth : ∃ e d : Entry, e.standing = .present ∧ d.standing = .expected
      ∧ ∀ k, f.entries k = if l = k then [e] else if m = k then [d] else [] := by
    rcases hl with hl | hl
    · exact Footing.entries_two hne hl
    · obtain ⟨d, e, hd, he, hall⟩ := Footing.entries_two (Ne.symm hne) hl
      refine ⟨e, d, he, hd, fun k => ?_⟩
      rw [hall]
      by_cases hlk : l = k
      · rw [if_pos hlk, if_pos hlk, if_neg fun hmk => hne (hlk.trans hmk.symm)]
      · rw [if_neg hlk, if_neg hlk]
  obtain ⟨e, d, he, hd, hall⟩ := hboth
  have hel : e ∈ f.entries l := by rw [hall, if_pos rfl]; simp
  have hdm : d ∈ f.entries m := by rw [hall, if_neg hne, if_pos rfl]; simp
  rw [Footing.eq_lanes hk hq hb hw, funext hall, ht.present hel he, ht.untimed hdm hd hel he]
  rfl

/-- The places that a state and a location record name have footings that fit (R5, R6). -/
theorem Fits.of_places (hp : placesNamed st loc = some f.places) (ht : f.Timed v) : Fits v st loc f := by
  unfold placesNamed at hp
  split at hp
  case h_9 l m =>
    split at hp
    · next hlt =>
      injection hp with hp
      rw [Footing.eq_shifted hk (ne_of_lt hlt) (.inl (by rw [← hp])) (by rw [← hp]) (by rw [← hp]) (by rw [← hp]) ht]
      exact .shifted l m (ne_of_lt hlt)
    · split at hp
      · next hgt =>
        injection hp with hp
        rw [Footing.eq_shifted hk (ne_of_gt hgt) (.inr (by rw [← hp])) (by rw [← hp]) (by rw [← hp]) (by rw [← hp]) ht]
        exact .shifted l m (ne_of_gt hgt)
      · cases hp
  case h_12 => cases hp
  all_goals injection hp with hp
  case h_1 => rw [Footing.eq_none hk hp.symm]; exact .out
  case h_2 => rw [Footing.eq_none hk hp.symm]; exact .lost
  case h_3 => rw [Footing.eq_none hk hp.symm]; exact .moving _
  case h_4 => rw [Footing.eq_none hk hp.symm]; exact .departing
  case h_5 =>
    obtain ⟨x, rfl⟩ := Footing.eq_waiting hk hp.symm
    exact .inbound x
  case h_6 =>
    obtain ⟨T, rfl⟩ := Footing.eq_queued hk hp.symm
    exact .queued _ T
  case h_7 =>
    obtain ⟨T, rfl⟩ := Footing.eq_served hk hp.symm
    exact .served _ T
  case h_8 =>
    obtain ⟨n, rfl⟩ := Footing.eq_reserved hk hp.symm ht
    exact .reserved _ n
  case h_10 => rw [Footing.eq_parked hk hp.symm ht]; exact .parked _
  case h_11 => rw [Footing.eq_parked hk hp.symm ht]; exact .called _

end

end

end Sys2Proof.Machine
end

section
/-! From the laws of Safety.lean to the invariant of the yard, and back; O8. -/

namespace Sys2Proof.Machine

section
variable {s t : State} {v w : Slot} {l m : LaneNo} {f : Footing} {st : VehicleState} {loc : Location} {k : QueueKind} {b : BayNo}

/-! ### Timers and tickets of a footing (R26, R59) -/

theorem State.presentLane_none : s.presentLane v = none ↔ ∀ l, s.presentIn l v = false := by
  simp [State.presentLane, mem_upTo]

theorem State.presentLane_none_iff : s.presentLane v = none ↔ ∀ l, ∀ e ∈ (s.footing v).entries l, e.standing ≠ .present := by
  rw [State.presentLane_none]
  simp [State.presentIn, State.footing]

theorem State.LaneLaw.timed (h : s.LaneLaw) (v : Slot) : (s.footing v).Timed v := by
  refine ⟨fun l e he => ?_, fun l e he => ?_⟩
  · simp only [State.footing, List.mem_filter, decide_eq_true_eq] at he
    exact he.2
  · simp only [State.footing, List.mem_filter, decide_eq_true_eq] at he
    obtain ⟨-, -, -, htimer⟩ := h l
    rw [htimer e he.1, he.2, State.presentLane_none_iff]

theorem Footing.mem_lone {e d : Entry} : e ∈ (Footing.lone l d).entries m ↔ l = m ∧ e = d := by
  unfold Footing.lone
  dsimp only
  split <;> simp [*]

theorem Footing.mem_shifted {e : Entry} {n : LaneNo} : e ∈ (Footing.shifted v l m).entries n ↔
    (l = n ∧ e = ⟨v, .present, Option.none⟩) ∨ (l ≠ n ∧ m = n ∧ e = ⟨v, .expected, Option.none⟩) := by
  unfold Footing.shifted
  dsimp only
  split
  · simp [*]
  · split <;> simp [*]

/-- A footing in no lane has no timer. -/
theorem Footing.Timed.of_nil (h : f.entries = fun _ => []) : f.Timed v :=
  ⟨fun l e he => by (rw [h] at he; cases he), fun l e he => by (rw [h] at he; cases he)⟩

theorem Footing.timed_present (v : Slot) (l : LaneNo) : (Footing.lone l ⟨v, .present, Option.none⟩).Timed v := by
  refine ⟨fun m e he => ?_, fun m e he => ?_⟩
  all_goals obtain ⟨-, rfl⟩ := Footing.mem_lone.mp he
  · rfl
  · simp

theorem Footing.timed_expected (v : Slot) (l : LaneNo) (n : Nat) : (Footing.lone l ⟨v, .expected, some n⟩).Timed v := by
  refine ⟨fun m e he => ?_, fun m e he => ?_⟩
  all_goals obtain ⟨-, rfl⟩ := Footing.mem_lone.mp he
  · rfl
  · refine iff_of_true rfl ⟨rfl, fun o d hd => ?_⟩
    obtain ⟨-, rfl⟩ := Footing.mem_lone.mp hd
    simp

theorem Footing.timed_shifted (v : Slot) (l m : LaneNo) : (Footing.shifted v l m).Timed v := by
  refine ⟨fun n e he => ?_, fun n e he => ?_⟩
  all_goals rcases Footing.mem_shifted.mp he with ⟨-, rfl⟩ | ⟨-, -, rfl⟩
  · rfl
  · rfl
  · simp
  · refine iff_of_false (by simp) fun hno => hno.2 l ⟨v, .present, Option.none⟩ ?_ rfl
    exact Footing.mem_shifted.mpr (.inl ⟨rfl, rfl⟩)

/-- The timers of a vehicle's entries run as R26 says. -/
theorem Fits.timed (h : Fits v st loc f) : f.Timed v := by
  cases h with
  | out | lost | moving | departing | inbound | queued | served => exact .of_nil rfl
  | parked l | called l => exact Footing.timed_present v l
  | reserved l n => exact Footing.timed_expected v l n
  | shifted l m => exact Footing.timed_shifted v l m

/-! ### Where the laws hold, the invariant does -/

theorem State.TicketLaw.footing_kinds (h : ∀ k, ∀ T ∈ s.queue k, T.kind = k) (v : Slot) (k : QueueKind) (T : Ticket)
    (hT : T ∈ (s.footing v).tickets k) : T.kind = k := h k T (List.mem_filter.mp hT).1

theorem State.Lawful.fits (h : s.Lawful) (v : Slot) : Fits v (s.veh v).state (s.veh v).location (s.footing v) := by
  obtain ⟨-, -, -, hplace, hlane, -, ⟨hqueue, -, -⟩, -, -, -⟩ := h
  refine Fits.of_places (State.TicketLaw.footing_kinds (fun k T hT => (hqueue k T hT).1) v) ?_ (hlane.timed v)
  rw [← State.placesOf_eq]
  exact hplace v

theorem State.Lawful.stands (h : s.Lawful) (v : Slot) : s.Stands v := by
  have hfits := h.fits v
  obtain ⟨-, -, ⟨hfleet, -⟩, -, -, -, -, ⟨-, hcall, -⟩, -, -⟩ := h
  obtain ⟨hempty, -, hshift, hblocker, hmisorder⟩ := hfleet v
  exact ⟨hfits, hempty, hshift, hblocker, hmisorder, hcall v⟩

theorem State.Lawful.deskHolds (h : s.Lawful) : s.DeskHolds := by
  obtain ⟨⟨-, -, -, -, -, hbay, -, -⟩, -, -, -, -, -, ⟨hqueue, htaken, hlive⟩, -, -, -⟩ := h
  refine ⟨hqueue, fun b hb => ?_, fun b T hT => htaken b T hT, fun k => (s.takenUp_le k).trans (hlive k)⟩
  obtain ⟨hticket, -⟩ := hbay b
  rcases hticket.mp hb with e | e | e <;> rw [e] <;> rfl

theorem State.Lawful.planHolds (h : s.Lawful) : s.PlanHolds := by
  obtain ⟨⟨-, -, -, -, -, -, ⟨-, -, -, hstate, -⟩, -⟩, -, ⟨hfleet, -⟩, -, -, -, -, ⟨hbound, -, hactive, hstandby, hpending⟩,
    -, -⟩ := h
  refine ⟨hbound, fun v => (hfleet v).2.1, fun r hr => ?_, fun r hr => ?_, hpending⟩
  · obtain ⟨hnames, hunnamed, hmarks⟩ := hactive r hr
    exact ⟨hnames, hunnamed, hmarks⟩
  · obtain ⟨hb, hm, ht⟩ := hstandby r hr
    exact ⟨hstate r hr, hb, hm, ht⟩

theorem State.Lawful.lanesFit (h : s.Lawful) : s.LanesFit := by
  obtain ⟨-, -, -, -, hlane, -, -, -, -, -⟩ := h
  exact ⟨fun l => (hlane l).2.1, fun l => (hlane l).1, fun l => (hlane l).2.2.1⟩

/-- A vehicle whose record says that it is a shifted blocker is PRESENT in its lane. -/
theorem State.Stands.presentIn (h : s.Stands v) {o : Option LaneNo} (hl : (s.veh v).location = .lane l .present o) :
    s.presentIn l v = true := by
  have hfits := h.fits
  rw [hl] at hfits
  rw [State.presentIn_eq_footing]
  generalize (s.veh v).state = st at hfits
  generalize s.footing v = f at hfits
  cases hfits <;> simp [Footing.shifted, Footing.parked]

/-- A lawful state meets the invariant of the yard. -/
theorem State.Lawful.settled (h : s.Lawful) : s.Settled := by
  have hstands := h.stands
  have hlanes := h.lanesFit
  have hdesk := h.deskHolds
  have hplan := h.planHolds
  obtain ⟨⟨-, -, -, -, -, -, -, hdue, -⟩, -, -, -, -, hshift, -, -, -, hconn⟩ := h
  refine ⟨⟨fun v hv => absurd hv id, fun v _ => hstands v, fun v _ l m hl => (hshift l v).mpr ⟨m, hl⟩, fun l v hr => ?_,
    hlanes, fun c v hv => (hconn c).1 v hv, hdesk, hplan⟩, hdue⟩
  obtain ⟨m, hm⟩ := (hshift l v).mp hr
  exact .inl ⟨(hstands v).presentIn hm, fun _ => ⟨m, hm⟩⟩

theorem State.Lawful.grantLaw (h : s.Lawful) : s.GrantLaw := by
  obtain ⟨⟨-, -, -, -, hgrant, -⟩, -⟩ := h
  exact hgrant

theorem State.Lawful.registers (h : s.Lawful) : s.Registers := by
  obtain ⟨-, ⟨⟨-, -, -, hlimit, -⟩, hflash⟩, ⟨-, htags⟩, -, -, -, -, -, hfeeder, -⟩ := h
  refine ⟨⟨htags, fun g => ⟨(hfeeder g).1, (hfeeder g).2, ?_⟩⟩, fun c hc f => ?_⟩
  · have := (hlimit g).2.2.1
    have hcfg : s.configuration.feeders.get g = (s.feeder g).cfg := by
      simp [State.configuration, State.feeder, Vector.get_eq_getElem]
    rw [hcfg] at this
    exact Nat.lt_of_lt_of_le (by decide) this
  · obtain ⟨-, -, -, hf, -⟩ := hflash c hc
    exact Nat.lt_of_lt_of_le (by decide) (hf f).2.2.1

/-! ### Where the invariant holds, the laws do -/

theorem State.Settled.placeLaw (h : s.Settled) : s.PlaceLaw := fun v => by
  rw [State.placesOf_eq]
  exact (h.sound.stands v id).fits.places (State.TicketLaw.footing_kinds h.sound.desk.kinds v)

theorem State.Settled.laneLaw (h : s.Settled) : s.LaneLaw := fun l => by
  refine ⟨h.sound.lanes.room l, h.sound.lanes.nodup l, h.sound.lanes.front l, fun e he => ?_⟩
  rw [(h.sound.stands e.slot id).fits.timed.timer l e (State.mem_footing_entries he), State.presentLane_none_iff]

theorem State.Settled.shiftLaw (h : s.Settled) : s.ShiftLaw := fun l v => by
  refine ⟨fun hr => ?_, fun ⟨m, hm⟩ => h.sound.blocks v id l m hm⟩
  rcases h.sound.shifts l v hr with ⟨-, hloc⟩ | ⟨-, hdue | hl⟩
  · exact hloc id
  · rw [h.rest] at hdue; cases hdue
  · exact absurd hl id

theorem State.Settled.bindingLaw (h : s.Settled) : s.BindingLaw := by
  obtain ⟨hbound, -, hactive, hstandby, hpending⟩ := h.sound.plan
  refine ⟨hbound, fun v => (h.sound.stands v id).call, fun r hr => ?_, fun r hr => (hstandby r hr).2, hpending⟩
  obtain ⟨hnames, hunnamed, hmarks⟩ := hactive r hr
  exact ⟨hnames, hunnamed, hmarks⟩

theorem State.Settled.fleetLaw (h : s.Settled) (hr : s.Registered) : s.FleetLaw := by
  refine ⟨fun v => ?_, hr.tags⟩
  have hst := h.sound.stands v id
  exact ⟨hst.empty, h.sound.plan.unheld v, hst.shift, hst.blocker, hst.misorder⟩

theorem State.Registered.feederLaw (h : s.Registered) : s.FeederLaw := fun g => ⟨(h.feeder g).word, (h.feeder g).shed⟩

theorem State.Settled.connectionLaw (h : s.Settled) (hg : s.GrantLaw) : s.ConnectionLaw := fun c => by
  refine ⟨fun v hv => h.sound.connects c v hv, fun hpos => ?_⟩
  obtain ⟨hcharger, -⟩ := hg
  have hcand := (hcharger c).2.2 hpos
  simp only [State.isCandidate, Bool.and_eq_true] at hcand
  obtain ⟨⟨hsome, -⟩, hheard⟩ := hcand
  obtain ⟨v, hv⟩ := Option.isSome_iff_exists.mp hsome
  exact ⟨hheard, v, hv, h.sound.connects c v hv⟩

/-! #### No vehicle has two tickets, so the vehicles with a ticket are as many as the tickets (R59, R60) -/

theorem State.Sound.ticketSlots_nodup (h : s.Sound ∅ ∅) (k : QueueKind) : (s.ticketSlots k).Nodup := by
  have hslot {b : BayNo} {T : Ticket} (hT : (s.bay b).ticket = some T) :
      ((s.bay b).ticket.map Ticket.slot).getD 0 = T.slot := by rw [hT]; rfl
  refine List.nodup_append.mpr ⟨h.queueSlots_nodup k, ?_, ?_⟩
  · refine List.Nodup.map_on (fun b hb c hc he => ?_) ((upTo_nodup 6).filter _)
    obtain ⟨T, hT, -⟩ := State.bayTakesUp_iff.mp (List.mem_filter.mp hb).2
    obtain ⟨U, hU, -⟩ := State.bayTakesUp_iff.mp (List.mem_filter.mp hc).2
    rw [hslot hT, hslot hU] at he
    obtain ⟨-, hlocT, -⟩ := (h.stands T.slot id).inBay hT rfl
    obtain ⟨-, hlocU, -⟩ := (h.stands U.slot id).inBay hU rfl
    rw [he, hlocU] at hlocT
    cases hlocT
    rfl
  · intro v hv w hw
    obtain ⟨T, hT, rfl⟩ := List.mem_map.mp hv
    obtain ⟨b, hb, rfl⟩ := List.mem_map.mp hw
    obtain ⟨U, hU, -⟩ := State.bayTakesUp_iff.mp (List.mem_filter.mp hb).2
    rw [hslot hU]
    intro he
    obtain ⟨-, hlocT, -⟩ := (h.stands T.slot id).ticket hT rfl
    obtain ⟨-, hlocU, -⟩ := (h.stands U.slot id).inBay hU rfl
    rw [he, hlocU] at hlocT
    cases hlocT

theorem State.Settled.ticketLaw (h : s.Settled) : s.TicketLaw := by
  refine ⟨h.sound.desk.queued, fun b T hT => h.sound.desk.taken b T hT, fun k => ?_⟩
  calc s.liveTickets k = (s.ticketSlots k).toFinset.card := by
        rw [List.toFinset_card_of_nodup (h.sound.ticketSlots_nodup k), State.length_ticketSlots]
    _ = (s.takenUp k).ncard := by rw [← s.coe_ticketSlots, Set.ncard_coe_finset]
    _ ≤ 64 := h.sound.desk.limit k

end

end Sys2Proof.Machine

/-! ### O8 -/

namespace Sys2Proof.Proofs

open Sys2Proof.Machine

/-- Settles O8: the law of the grants, by what each owner does to a grant; the laws of the yard, by the invariant `State.Settled`,
which every owner keeps, and by `State.Registered` for tags and feeders. -/
theorem everyStepKeepsGrantLaw : Obligations.EveryStepKeepsGrantLaw := by
  have hgrants {s t : State} (h : s.GrantLaw) (ht : step s = .next t) : t.GrantLaw :=
    grantLaw_ownersKeep.step (fun _ h => h) h ht
  refine ⟨fun s t => hgrants, fun s t h ht => ?_⟩
  have hsettled : t.Settled := settled_ownersKeep.step (fun _ h => h.frame .byRfl) h.settled ht
  have hreg : t.Registered := registered_ownersKeep.step
    (fun _ h => ⟨h.now.bears (State.SameCore.bears .byRfl), h.flash⟩) h.registers ht
  exact ⟨hsettled.connectionLaw (hgrants h.grantLaw ht), hreg.feederLaw, hsettled.fleetLaw hreg, hsettled.placeLaw,
    hsettled.laneLaw, hsettled.shiftLaw, hsettled.ticketLaw, hsettled.bindingLaw⟩

end Sys2Proof.Proofs
end
